-- ==== Sys2Proof/Word.lean ====
section
/-! DEFINITION. The word types of the card and the tables of fixed size that its state is made of. -/

namespace Sys2Proof

/-- One byte of a frame. -/
abbrev Byte := BitVec 8

/-- One word of the configuration image. -/
abbrev Word16 := BitVec 16

/-- A subscriber port, 0..15 (R1). -/
abbrev PortId := Fin 16

/-- A binder, 0..31 (R99). -/
abbrev BinderId := Fin 32

/-- A card's station, by its index: the station number is the index plus 1, so 1..8 (R50). -/
abbrev StationId := Fin 8

/-- A fixed number of like things, indexed from 0. -/
abbrev Tbl (α : Type) (n : Nat) := Vector α n

/-- The entry of a table at an index. -/
def tget {α : Type} {n : Nat} (v : Tbl α n) (i : Fin n) : α := v[i.val]'i.isLt

/-- A table with the entry at an index replaced. -/
def tset {α : Type} {n : Nat} (v : Tbl α n) (i : Fin n) (x : α) : Tbl α n := v.set i.val x i.isLt

/-- A table whose entries are all alike. -/
def tconst {α : Type} (n : Nat) (x : α) : Tbl α n := Vector.replicate n x

/-- A whole number held within a range (R170). -/
def clamp (lo hi x : Nat) : Nat := max lo (min hi x)

end Sys2Proof
end

