-- ==== Sys2Proof/Syntax.lean ====
section
/-! DEFINITION. The commands of the card: one constructor for each row of the operation table, with the contents that the
row's rule gives the event. -/

namespace Sys2Proof

/-- The tone fields of a TEST_REQUEST as its payload carries them (R174): frequency in Hz, burst width in ms, duration in
minutes. -/
structure ToneArgs where
  freq : BitVec 16
  width : BitVec 16
  minutes : BitVec 8
  deriving DecidableEq, Repr

/-- The levels on the strap pins at a moment (R165). -/
structure Straps where
  station : BitVec 3 := 0
  startMode : BitVec 2 := 0
  deriving DecidableEq, Repr

/-- A command: one event of the operation table. Line-port messages name their port, bus messages their source station;
a management request carries its tag and the raw bytes of its arguments (R174). A level that a pin or a comparator may show
at an event is an operand, and the value given beside it is only what a command written without it carries (log 31). -/
inductive Instr where
  /-- HARDWARE_RESET (R165, R7): the reset input is asserted, or power comes up. -/
  | hardwareReset (powerUp : Bool)
  /-- RESET_RELEASE (R165, R144): the reset input is released, with these levels on the strap pins and the mains input. -/
  | resetRelease (station : BitVec 3) (startMode : BitVec 2) (mains : Bool)
  /-- RELAY_HOLD_END (R7): the 50 ms reset hold has run. -/
  | relayHoldEnd
  /-- CONFIG_LOAD_COMPLETE (R166): the serial memory read ends with these words; fewer words than the length asked for
  mean that the device stopped answering, and none that it did not answer. -/
  | configLoadComplete (words : List Word16)
  /-- ACTIVITY_ON (R23, R154). -/
  | activityOn (port : PortId)
  /-- ACTIVITY_OFF (R23, R33, R154). -/
  | activityOff (port : PortId)
  /-- PERSISTENCE_TIMER_EXPIRY (R23). -/
  | persistenceTimerExpiry (port : PortId)
  /-- TRAIN_REPORT (R25): attempt number, attainable rates in kbit/s, attenuation and margin in 0.5 dB units. -/
  | trainReport (port : PortId) (attempt : Byte) (down up : BitVec 20) (attenuation margin : Byte)
  /-- TRAIN_FAIL (R29). -/
  | trainFail (port : PortId) (attempt : Byte)
  /-- TRAIN_TIMER_EXPIRY (R29). -/
  | trainTimerExpiry (port : PortId)
  /-- READY_TIMER_EXPIRY (R29). -/
  | readyTimerExpiry (port : PortId)
  /-- READY (R28). -/
  | ready (port : PortId) (attempt : Byte)
  /-- MARGIN (R34), in 0.5 dB units. -/
  | margin (port : PortId) (level : Byte)
  /-- FAR_FAULT (R36). -/
  | farFault (port : PortId)
  /-- SIGNAL_LOST (R31, R36). -/
  | signalLost (port : PortId) (attempt : Byte)
  /-- FRAME_REQUEST (R43). -/
  | frameRequest (port : PortId)
  /-- UPSTREAM_FRAME (R41): a whole frame of the line-port link. -/
  | upstreamFrame (port : PortId) (payload : List Byte)
  /-- IDLE_TIMER_EXPIRY (R10). -/
  | idleTimerExpiry (port : PortId)
  /-- CARRIER_END (R64, R67): whether a collision was sensed in the carrier, whether the card itself was sending during it,
  its bytes, and whether it began before the last reset ended. -/
  | carrierEnd (collided own : Bool) (bytes : List Byte) (stale : Bool := false)
  /-- DATA_RECEIVED (R41): an accepted DATA frame for a port of the own station. -/
  | dataReceived (port : PortId) (payload : List Byte)
  /-- MREQ_RECEIVED (R47): an accepted MREQ frame for port 31. -/
  | mreqReceived (payload : List Byte)
  /-- ADVERT_RECEIVED (R71): the fields of an accepted ADVERT and its source station. -/
  | advertReceived (station : StationId) (demand weight : BitVec 16) (supply : Byte) (joining : Bool) (sequence : Byte)
  /-- CAPACITY_RECEIVED (R73). -/
  | capacityReceived (capacity : BitVec 16)
  /-- CLAIM_RECEIVED (R101): source station, binder, phase code and duration in 100 ms units. -/
  | claimReceived (station : StationId) (binder : BinderId) (phase duration : Byte)
  /-- RELEASE_RECEIVED (R103). -/
  | releaseReceived (station : StationId) (binder : BinderId)
  /-- CLAIM_EXPIRY (R104). -/
  | claimExpiry (binder : BinderId)
  /-- SETTLE_EXPIRY (R108). -/
  | settleExpiry
  /-- RENEWAL_EXPIRY (R108). -/
  | renewalExpiry
  /-- DEFER_GAP_COMPLETE (R53). -/
  | deferGapComplete
  /-- CARRIER_SENSED_IN_GAP (R53). -/
  | carrierSensedInGap
  /-- SUCCESSFUL_END (R54): with the straps, which a RESTART that takes effect at this end samples (R160, R165). -/
  | successfulEnd (straps : Straps := {})
  /-- COLLISION (R55): sensed within the first 64 byte-times of SENDING. -/
  | collision
  /-- JAM_END (R55): with the draw, of which the range of the frame's collision count keeps the low bits, and the straps,
  as for SUCCESSFUL_END. -/
  | jamEnd (draw : Byte) (straps : Straps := {})
  /-- LATE_COLLISION (R57). -/
  | lateCollision
  /-- BACKOFF_EXPIRY (R56). -/
  | backoffExpiry
  /-- SHARE_PERIOD_EXPIRY (R69). -/
  | sharePeriodExpiry
  /-- MAINS_INPUT_CHANGE (R144): the input's new level, true when mains is present. -/
  | mainsInputChange (present : Bool)
  /-- DEBOUNCE_EXPIRY (R144). -/
  | debounceExpiry
  /-- SAMPLE_TIMER_EXPIRY (R145). -/
  | sampleTimerExpiry
  /-- SUPPLY_SAMPLE_COMPLETE (R146): the unsigned code of the cabinet DC bus. -/
  | supplySampleComplete (code : BitVec 12)
  /-- ISOLATING_DEAD_TIME_EXPIRY (R119): with the hazard comparator's output as the watch is armed (R134). -/
  | isolatingDeadTimeExpiry (above : Bool := false)
  /-- RESTORING_DEAD_TIME_EXPIRY (R121). -/
  | restoringDeadTimeExpiry
  /-- STAGE_SAMPLE (R129): the signed code of the selected pair input. -/
  | stageSample (code : BitVec 12)
  /-- INSULATION_SETTLE_EXPIRY (R137). -/
  | insulationSettleExpiry
  /-- DISCHARGE_END (R138). -/
  | dischargeEnd
  /-- CAPTURE_COMPARATOR_CHANGE (R133): the output's new level and the capture timer's tick. -/
  | captureComparatorChange (above : Bool) (tick : BitVec 16)
  /-- CROSSING_CONFIRMED (R133, R139): with the signed code of REFLECTION's polarity conversion. -/
  | crossingConfirmed (code : BitVec 12)
  /-- CAPTURE_LIMIT (R133). -/
  | captureLimit
  /-- BLANKING_END (R139): with the comparator level then read. -/
  | blankingEnd (above : Bool)
  /-- SHOT_TIMER_EXPIRY (R139). -/
  | shotTimerExpiry
  /-- TONE_LEVEL_STEP (R142): one eighth of the burst width passes. -/
  | toneLevelStep
  /-- TONE_DURATION_EXPIRY (R142). -/
  | toneDurationExpiry
  /-- HAZARD_REPORT (R122, R134). -/
  | hazardReport
  /-- PORT_STATUS (R158): port byte, 255 for ALL. -/
  | portStatus (tag : BitVec 16) (port : Byte)
  /-- CARD_STATUS (R158). -/
  | cardStatus (tag : BitVec 16)
  /-- TEST_RESULT (R158). -/
  | testResult (tag : BitVec 16) (port : Byte)
  /-- READ_COUNTERS (R158): scope byte, 254 for CARD, and the clear flag. -/
  | readCounters (tag : BitVec 16) (scope : Byte) (clear : Bool)
  /-- PORT_ADMIN_ENABLE (R16). -/
  | portAdminEnable (tag : BitVec 16) (port : Byte)
  /-- PORT_ADMIN_DISABLE (R17). -/
  | portAdminDisable (tag : BitVec 16) (port : Byte)
  /-- RETRAIN (R35). -/
  | retrain (tag : BitVec 16) (port : Byte)
  /-- WEIGHT (R13). -/
  | weight (tag : BitVec 16) (port value : Byte)
  /-- TEST_REQUEST (R114): kind byte, intrusive flag, and the tone fields if the payload carries them. -/
  | testRequest (tag : BitVec 16) (port kind : Byte) (intrusive : Bool) (tone : Option ToneArgs)
  /-- TEST_CANCEL (R115). -/
  | testCancel (tag : BitVec 16) (port : Byte)
  /-- NOTICE_ACK (R162): the mask of the causes named. -/
  | noticeAck (tag : BitVec 16) (mask : BitVec 16)
  /-- RESTART (R160). -/
  | restart (tag : BitVec 16)
  /-- CONFIG_WRITE (R167): word offset and words. -/
  | configWrite (tag : BitVec 16) (offset : BitVec 16) (words : List Word16)
  /-- CONFIG_APPLY (R167). -/
  | configApply (tag : BitVec 16)
  /-- MREQ_UNKNOWN_KIND (R156): the whole payload of a request that lacks a known kind. -/
  | mreqUnknownKind (payload : List Byte)
  deriving DecidableEq, Repr

end Sys2Proof
end

