-- ==== Sys2Proof/WellFormed.lean ====
section
/-! DEFINITION. Which commands the card's interfaces can carry. -/

namespace Sys2Proof

/-- A subscriber frame has 1..1536 payload bytes (R20, R37, R50). -/
def dataPayloadOk (payload : List Byte) : Bool := 1 ≤ payload.length && payload.length ≤ 1536

/-- An MREQ payload has 0..1536 bytes (R64). -/
def mreqPayloadOk (payload : List Byte) : Bool := payload.length ≤ 1536

/-- The request kind a payload holds in byte 2, where it is one of the thirteen codes (R156, R174). -/
def knownKind (payload : List Byte) : Bool :=
  match payload with
  | _ :: _ :: k :: _ => 1 ≤ k.toNat && k.toNat ≤ 13
  | _ => false

/-- The commands whose operands an interface of the card can carry. The other commands' operands are held in range by
their types. -/
def WellFormed : Instr → Bool
  | .upstreamFrame _ payload => dataPayloadOk payload
  | .dataReceived _ payload => dataPayloadOk payload
  | .mreqReceived payload => mreqPayloadOk payload
  | .configWrite _ _ words => 5 + 2 * words.length ≤ 1536
  | .mreqUnknownKind payload => mreqPayloadOk payload && !knownKind payload
  | .hardwareReset _ | .resetRelease _ _ _ | .relayHoldEnd | .configLoadComplete _ => true
  | .activityOn _ | .activityOff _ | .persistenceTimerExpiry _ | .trainReport _ _ _ _ _ _ | .trainFail _ _ => true
  | .trainTimerExpiry _ | .readyTimerExpiry _ | .ready _ _ | .margin _ _ | .farFault _ | .signalLost _ _ => true
  | .frameRequest _ | .idleTimerExpiry _ | .carrierEnd _ _ _ _ | .advertReceived _ _ _ _ _ _ | .capacityReceived _ => true
  | .claimReceived _ _ _ _ | .releaseReceived _ _ | .claimExpiry _ | .settleExpiry | .renewalExpiry => true
  | .deferGapComplete | .carrierSensedInGap | .successfulEnd _ | .collision | .jamEnd _ _ | .lateCollision => true
  | .backoffExpiry | .sharePeriodExpiry | .mainsInputChange _ | .debounceExpiry | .sampleTimerExpiry => true
  | .supplySampleComplete _ | .isolatingDeadTimeExpiry _ | .restoringDeadTimeExpiry | .stageSample _ => true
  | .insulationSettleExpiry | .dischargeEnd | .captureComparatorChange _ _ | .crossingConfirmed _ | .captureLimit => true
  | .blankingEnd _ | .shotTimerExpiry | .toneLevelStep | .toneDurationExpiry | .hazardReport => true
  | .portStatus _ _ | .cardStatus _ | .testResult _ _ | .readCounters _ _ _ | .portAdminEnable _ _ => true
  | .portAdminDisable _ _ | .retrain _ _ | .weight _ _ _ | .testRequest _ _ _ _ _ | .testCancel _ _ => true
  | .noticeAck _ _ | .restart _ | .configApply _ => true

end Sys2Proof
end

