-- ==== Sys2Proof/Decode.lean ====
section
/-! DEFINITION. Reading a command from a word of the operation table. The table gives none of its rows any bits, so no
word spells a command. -/

namespace Sys2Proof

/-- The command that a word spells by the table's bits. Every row's field list is empty ("fields": []), so there is no
such command for any word. -/
def decodeTableWord (_nbits _w : Nat) : Option Instr := none

end Sys2Proof
end

