-- ==== Sys2Proof/Config.lean ====
section
/-! DEFINITION. The configuration the card holds from the end of LOADING to the next reset (R170), and the one value the
spec leaves open. -/

namespace Sys2Proof

/-- The kind byte of the MRSP that answers a payload too short to hold a kind (R156): the spec states none. A free value,
a function of the payload; nothing can evaluate it (log 7, DESIGN CHOICE, safe). -/
opaque Config.absentKindByte : List Byte → Byte

/-- One line profile (R26). -/
structure Profile where
  present : Bool
  minDown : Nat
  minUp : Nat
  aUp : Nat
  weight : Nat
  maxLoop : Nat
  deriving DecidableEq, Repr

/-- One port's entry of the port map (R170). -/
structure PortMap where
  binder : BinderId
  admin : Bool
  priority : Bool
  weightOverride : Byte
  deriving DecidableEq, Repr

/-- Every configuration field of R170. -/
structure Cfg where
  /-- C_cfg, blocks per share period. -/
  cCfg : Nat
  /-- management priority: true is EQUAL, false ABOVE. -/
  priorityEqual : Bool
  autoTest : Bool
  uqMax : Nat
  dqMax : Nat
  batteryCeiling : Nat
  retrainThreshold : Nat
  /-- V_low and V_crit, in decivolts. -/
  vLow : Nat
  vCrit : Nat
  noticeMask : BitVec 10
  rRef : Nat
  /-- V_s, in codes. -/
  vS : Nat
  hazardThreshold : Nat
  warningThreshold : Nat
  settleTime : Nat
  insulationThreshold : Nat
  capPerKm : Nat
  /-- v, in metres per microsecond. -/
  velocity : Nat
  maxDistance : Nat
  pulseWidth : Nat
  filterLength : Nat
  noiseThreshold : Nat
  deadTime : Nat
  profiles : Tbl Profile 8
  portMap : Tbl PortMap 16
  deriving DecidableEq, Repr

end Sys2Proof
end

