-- ==== Sys2Proof/Machine/Configuration.lean ====
section
/-! DEFINITION. The defaults of the configuration (R26, R170), the check of an image (R166) and the reading of one
(R168, R170, R175). -/

namespace Sys2Proof.Machine

/-- A profile that the defaults leave absent: the spec gives its other fields no value, and the model the lower end of
their ranges (log 8, DESIGN CHOICE, unsafe). -/
def absentProfile : Profile := { present := false, minDown := 0, minUp := 0, aUp := 1, weight := 1, maxLoop := 0 }

/-- The default profile table (R26). -/
def defaultProfiles : Tbl Profile 8 :=
  ⟨#[{ present := true, minDown := 40000, minUp := 10000, aUp := 40, weight := 4, maxLoop := 1500 },
     { present := true, minDown := 20000, minUp := 4000, aUp := 16, weight := 3, maxLoop := 3000 },
     { present := true, minDown := 8000, minUp := 1000, aUp := 4, weight := 2, maxLoop := 5000 },
     { present := true, minDown := 2000, minUp := 512, aUp := 2, weight := 1, maxLoop := 0 },
     absentProfile, absentProfile, absentProfile, absentProfile], rfl⟩

/-- The default entry of the port map for a port (R170). -/
def defaultPortMap (p : PortId) : PortMap :=
  { binder := ⟨p.val, by omega⟩, admin := true, priority := false, weightOverride := 0 }

/-- A table of 16 entries by port. -/
def tableOfPorts {α : Type} (f : PortId → α) : Tbl α 16 :=
  ⟨#[f 0, f 1, f 2, f 3, f 4, f 5, f 6, f 7, f 8, f 9, f 10, f 11, f 12, f 13, f 14, f 15], rfl⟩

/-- A table of 8 entries by index. -/
def tableOfEight {α : Type} (f : Fin 8 → α) : Tbl α 8 :=
  ⟨#[f 0, f 1, f 2, f 3, f 4, f 5, f 6, f 7], rfl⟩

/-- Every configuration field at its default (R170). -/
def defaultCfg : Cfg :=
  { cCfg := 390, priorityEqual := false, autoTest := true, uqMax := 192, dqMax := 256, batteryCeiling := 2,
    retrainThreshold := 6, vLow := 460, vCrit := 430, noticeMask := 1023, rRef := 10000, vS := 384,
    hazardThreshold := 480, warningThreshold := 40, settleTime := 200, insulationThreshold := 100000, capPerKm := 50,
    velocity := 200, maxDistance := 8000, pulseWidth := 2, filterLength := 8, noiseThreshold := 12, deadTime := 10,
    profiles := defaultProfiles, portMap := tableOfPorts defaultPortMap }

/-- The sum of the words of an image (R166). -/
def imageSum (ws : List Word16) : Nat := (ws.foldl (fun n w => n + w.toNat) 0) % 65536

/-- The image that a list of words holds, where it passes the checks of R166: a length of 16..512 in word 0, that many
words read, and a sum of 0 over them. -/
def goodImage (ws : List Word16) : Option (List Word16) :=
  match ws with
  | [] => none
  | w :: _ =>
    let n := w.toNat
    let img := ws.take n
    if 16 ≤ n && n ≤ 512 && img.length == n && imageSum img == 0 then some img else none

/-- A one-word field of an image, clamped into its range; its default where the image does not reach it (R168). -/
def fieldWord (img : List Word16) (at_ lo hi default : Nat) : Nat :=
  match img[at_]? with
  | some w => clamp lo hi w.toNat
  | none => default

/-- A two-word field of an image, high word first (R168, R175). -/
def fieldPair (img : List Word16) (at_ lo hi default : Nat) : Nat :=
  match img[at_]?, img[at_ + 1]? with
  | some h, some l => clamp lo hi (h.toNat * 65536 + l.toNat)
  | _, _ => default

/-- The filter length a word stands for (R170). -/
def filterOfWord (w : Nat) : Nat := if w < 8 then 4 else if w < 16 then 8 else 16

/-- V_crit as it is taken (R170, R146): at least 10 dV below V_low. -/
def critBelow (vLow vCrit : Nat) : Nat := if vCrit > vLow - 10 then vLow - 10 else vCrit

/-- Profile i of an image, its fields from word 32 + 8 × i (R175). -/
def imageProfile (img : List Word16) (i : Fin 8) : Profile :=
  let d := tget defaultProfiles i
  let o := 32 + 8 * i.val
  { present := match img[o]? with
      | some w => w != 0
      | none => d.present
    minDown := fieldPair img (o + 1) 0 1048575 d.minDown
    minUp := fieldPair img (o + 3) 0 1048575 d.minUp
    aUp := fieldWord img (o + 5) 1 4095 d.aUp
    weight := fieldWord img (o + 6) 1 255 d.weight
    maxLoop := fieldWord img (o + 7) 0 65535 d.maxLoop }

/-- Port p's entry of an image's port map, word 96 + p (R175). -/
def imagePortMap (img : List Word16) (p : PortId) : PortMap :=
  match img[96 + p.val]? with
  | some w =>
    { binder := (w.extractLsb' 0 5).toFin, admin := w.getLsbD 5, priority := w.getLsbD 6,
      weightOverride := w.extractLsb' 8 8 }
  | none => defaultPortMap p

/-- The configuration that a good image gives, field by field (R168, R170, R175). -/
def imageCfg (img : List Word16) : Cfg :=
  let vLow := fieldWord img 9 300 800 460
  { cCfg := fieldWord img 2 1 65535 390
    priorityEqual := match img[3]? with
      | some w => w == 1
      | none => false
    autoTest := match img[4]? with
      | some w => w != 0
      | none => true
    uqMax := fieldWord img 5 24 1024 192
    dqMax := fieldWord img 6 24 1024 256
    batteryCeiling := fieldWord img 7 0 7 2
    retrainThreshold := fieldWord img 8 0 255 6
    vLow := vLow
    vCrit := critBelow vLow (fieldWord img 10 250 790 430)
    noticeMask := match img[11]? with
      | some w => w.extractLsb' 0 10
      | none => 1023
    rRef := fieldPair img 12 1000 100000 10000
    vS := fieldWord img 14 64 1024 384
    hazardThreshold := fieldWord img 15 80 2047 480
    warningThreshold := fieldWord img 16 1 480 40
    settleTime := fieldWord img 17 10 2000 200
    insulationThreshold := fieldPair img 18 1000 10000000 100000
    capPerKm := fieldWord img 20 20 100 50
    velocity := fieldWord img 21 100 300 200
    maxDistance := fieldWord img 22 100 20000 8000
    pulseWidth := fieldWord img 23 1 255 2
    filterLength := match img[24]? with
      | some w => filterOfWord w.toNat
      | none => 8
    noiseThreshold := fieldWord img 25 1 2047 12
    deadTime := fieldWord img 26 2 50 10
    profiles := tableOfEight (imageProfile img)
    portMap := tableOfPorts (imagePortMap img) }

end Sys2Proof.Machine
end

