-- ==== Sys2Proof/Machine/State.lean ====
section
/-! DEFINITION. The card's state, block by block, and the state after reset. -/

namespace Sys2Proof.Machine

/-! ## Line Supervisor -/

/-- The eight line states (R1, R3). -/
inductive LineState where
  | disabled | waiting | training | hold | inService | testing | shed | faulted
  deriving DecidableEq, Repr

/-- The link power mode (R4). -/
inductive PowerMode where
  | off | watch | on
  deriving DecidableEq, Repr

/-- The phase of the training context (R22). -/
inductive TrainPhase where
  | none | report | ready
  deriving DecidableEq, Repr

/-- The last failure cause (R22, R29). -/
inductive FailCause where
  | none | trainFail | trainTimeout | readyTimeout | noProfile
  deriving DecidableEq, Repr

/-- The four figures of a TRAIN_REPORT (R21). -/
structure Report where
  down : BitVec 20
  up : BitVec 20
  attenuation : Byte
  margin : Byte
  deriving DecidableEq, Repr

/-- What LSV sends on a line-port link (R20). -/
inductive LinkMsg where
  | power (mode : PowerMode)
  | train (attempt : Byte)
  | commit (attempt : Byte) (profile : Fin 8) (down up : Nat)
  | abandon
  | frame (payload : List Byte)
  deriving DecidableEq, Repr

/-- One port record (R1) with its training context (R22), its idle timer (R10), its wake marks (R154), the mark of the
reset hold (R7), and the record of what was sent on its link (R20; log 13). -/
structure Port where
  admin : Bool
  priority : Bool
  binder : BinderId
  lineState : LineState
  power : PowerMode
  profile : Option (Fin 8)
  weightOverride : Byte
  loopEst : Option Nat
  testCeiling : Nat
  failures : Nat
  marginLow : Nat
  idleFlag : Bool
  wakeWatch : Bool
  serviceClosed : Bool
  testClosed : Bool
  serviceHeld : Bool
  phase : TrainPhase
  attempt : Byte
  lastReport : Option Report
  lastCause : FailCause
  persistTimer : Bool
  trainTimer : Bool
  readyTimer : Bool
  idleTimer : Bool
  wakeArmed : Bool
  reportAwaited : Bool
  linkOut : List LinkMsg
  deriving DecidableEq, Repr

/-- A port record after a hardware reset at power-up (R2, R7, R22, R154). -/
def Port.initial : Port :=
  { admin := false, priority := false, binder := 0, lineState := .disabled, power := .off, profile := none,
    weightOverride := 0, loopEst := none, testCeiling := 0, failures := 0, marginLow := 0, idleFlag := false,
    wakeWatch := false, serviceClosed := true, testClosed := false, serviceHeld := false, phase := .none, attempt := 0,
    lastReport := none, lastCause := .none, persistTimer := false, trainTimer := false, readyTimer := false,
    idleTimer := false, wakeArmed := false, reportAwaited := false, linkOut := [] }

/-! ## Frame Store -/

/-- The kinds of a stored frame (R37). -/
inductive FrameKind where
  | data | mreq | mrsp | notice
  deriving DecidableEq, Repr

/-- One frame record in use (R37): the payload stands for its length and its cell chain (log 12). -/
structure Frame where
  kind : FrameKind
  port : Fin 32
  payload : List Byte
  inFlight : Bool
  deriving DecidableEq, Repr

/-- The Frame Store (R37, R38, R40, R43): the counts of the two free pools, the 34 queues, the pull-pending flags and the
17 staging buffers. -/
structure Fst where
  freeCells : Nat
  freeRecords : Nat
  up : Tbl (List Frame) 16
  down : Tbl (List Frame) 16
  requests : List Frame
  responses : List Frame
  pull : Tbl Bool 16
  upStaging : Tbl (List Byte) 16
  busStaging : List Byte
  deriving DecidableEq, Repr

/-- The Frame Store after either reset (R39). -/
def Fst.initial : Fst :=
  { freeCells := 4096, freeRecords := 1024, up := tconst 16 [], down := tconst 16 [], requests := [], responses := [],
    pull := tconst 16 false, upStaging := tconst 16 [], busStaging := [] }

/-! ## Supply states, claims and the control list -/

/-- The four supply states, from best to worst (R148). -/
inductive Supply where
  | mains | battery | low | critical
  deriving DecidableEq, Repr

/-- The phase of a claim table entry (R99). -/
inductive ClaimPhase where
  | free | pending | held
  deriving DecidableEq, Repr

/-- One claim table entry (R99); remaining is in milliseconds. -/
structure ClaimEntry where
  phase : ClaimPhase
  claimant : Option StationId
  remaining : Nat
  own : Bool
  deriving DecidableEq, Repr

/-- A FREE entry (R99). -/
def ClaimEntry.vacant : ClaimEntry := { phase := .free, claimant := none, remaining := 0, own := false }

/-- The step of the own claim context (R106). The settle timer runs exactly in SETTLING and the renewal timer exactly in
HELD. -/
inductive ClaimStep where
  | sending | settling | held | lost
  deriving DecidableEq, Repr

/-- The Claim Table (R99, R106). -/
structure Clt where
  entries : Tbl ClaimEntry 32
  own : Option (BinderId × ClaimStep)
  deriving DecidableEq, Repr

/-- The Claim Table after either reset (R99, R112). -/
def Clt.initial : Clt := { entries := tconst 32 ClaimEntry.vacant, own := none }

/-- A control item with the payload it will carry (R60, R61). A CLAIM is PENDING or HELD. -/
inductive CtrlItem where
  | advert (demand weight : Nat) (supply : Supply) (joining : Bool) (sequence : Byte)
  | claim (binder : BinderId) (held : Bool) (duration : Byte)
  | release (binder : BinderId) (retried : Bool)
  deriving DecidableEq, Repr

/-! ## Bus Access Unit -/

/-- The transmitter's states (R52). -/
inductive TxState where
  | idle | deferring | sending | backingOff
  deriving DecidableEq, Repr

/-- The frame in hand, by its class (R52): a control item, the head of the response queue, or the head of a port's
upstream queue. -/
inductive InHand where
  | control (item : CtrlItem)
  | mgmt
  | data (port : PortId)
  deriving DecidableEq, Repr

/-- The transmitter (R52, R53, R55): the back-off is in byte-times; jamming is set while the 4 bytes of jam go out; the gap
count runs while gapCounting is set. -/
structure Tx where
  st : TxState
  hand : Option InHand
  collisions : Nat
  backoff : Nat
  jamming : Bool
  gapCounting : Bool
  deriving DecidableEq, Repr

/-- The transmitter in IDLE (R52). -/
def Tx.initial : Tx :=
  { st := .idle, hand := none, collisions := 0, backoff := 0, jamming := false, gapCounting := false }

/-- The winner of the last contested choice (R62). -/
inductive Winner where
  | mgmt | data
  deriving DecidableEq, Repr

/-- What the card puts on the cabinet bus: a frame sent whole (R54), or the 4 bytes of jam that cut one off (R55, R57). -/
inductive BusOut where
  | frame (bytes : List Byte)
  | jam
  deriving DecidableEq, Repr

/-- The Bus Access Unit (R52, R60, R62), with the record of what it put on the bus (log 13). -/
structure Bau where
  tx : Tx
  ctrl : List CtrlItem
  lastWinner : Winner
  sent : List BusOut
  deriving DecidableEq, Repr

/-- The Bus Access Unit after either reset (R52, R60, R62). -/
def Bau.initial : Bau := { tx := Tx.initial, ctrl := [], lastWinner := .data, sent := [] }

/-! ## Share Unit -/

/-- One peer table entry (R70). -/
structure Peer where
  present : Bool
  demand : Nat
  weight : Nat
  supply : Supply
  joining : Bool
  lastSeq : Byte
  age : Nat
  deriving DecidableEq, Repr

/-- An entry that is not present (R70). -/
def Peer.absent : Peer :=
  { present := false, demand := 0, weight := 0, supply := .mains, joining := false, lastSeq := 0, age := 0 }

/-- A held capacity notice (R73). -/
structure Notice where
  capacity : Nat
  age : Nat
  deriving DecidableEq, Repr

/-- The Share Unit (R70, R73, R74, R78, R80, R83). The share-period timer runs exactly in JOINING and RUNNING (R68). -/
structure Shu where
  peers : Tbl Peer 8
  notice : Option Notice
  cWork : Nat
  grant : Nat
  credit : Int
  nextSeq : Byte
  deriving DecidableEq, Repr

/-- The Share Unit after either reset (R70, R73, R74, R78, R80, R83). -/
def Shu.initial : Shu :=
  { peers := tconst 8 Peer.absent, notice := none, cWork := 390, grant := 0, credit := 0, nextSeq := 0 }

/-! ## Upstream Scheduler -/

/-- The scheduler's state of one port (R86). -/
structure UscPort where
  tokens : Int
  heldDepth : Nat
  deficit : Nat
  turnOpen : Bool
  deriving DecidableEq, Repr

/-- A port's scheduler state after either reset (R86). -/
def UscPort.initial : UscPort := { tokens := 0, heldDepth := 24, deficit := 0, turnOpen := false }

/-- The Upstream Scheduler (R86). -/
structure Usc where
  ports : Tbl UscPort 16
  active : List PortId
  chosen : Option PortId
  deriving DecidableEq, Repr

/-- The Upstream Scheduler after either reset (R86, R98). -/
def Usc.initial : Usc := { ports := tconst 16 UscPort.initial, active := [], chosen := none }

/-! ## Test Sequencer -/

/-- The kinds of test (R113). -/
inductive TestKind where
  | lineCheck | quickCheck | tone
  deriving DecidableEq, Repr

/-- The tone frequencies (R113). -/
inductive ToneFreq where
  | hz800 | hz1000 | hz1200 | hz1600
  deriving DecidableEq, Repr

/-- The burst widths (R113). -/
inductive BurstWidth where
  | ms125 | ms250 | ms500 | ms1000
  deriving DecidableEq, Repr

/-- The tone fields of a TONE request (R113). -/
structure ToneSpec where
  freq : ToneFreq
  width : BurstWidth
  minutes : Nat
  deriving DecidableEq, Repr

/-- Who asked for a test (R113). -/
inductive Origin where
  | management | auto
  deriving DecidableEq, Repr

/-- A test request (R113). The arrival number is the model's own: it keeps the order of arrival (log 22). -/
structure TestReq where
  port : PortId
  kind : TestKind
  intrusive : Bool
  tone : Option ToneSpec
  origin : Origin
  arrival : Nat
  deriving DecidableEq, Repr

/-- The states of the sequencer while a test runs (R117). -/
inductive SeqState where
  | claiming | isolating | measuring | restoring
  deriving DecidableEq, Repr

/-- The stages (R120). -/
inductive Stage where
  | foreignVoltage | insulation | capacitance | reflection | noise | tone
  deriving DecidableEq, Repr

/-- The cause of an abort (R123). -/
inductive AbortCause where
  | request | admin | supply
  deriving DecidableEq, Repr

/-- The outcomes (R126). -/
inductive TestOutcome where
  | pass | fault | hazard | disturbed | aborted | completed
  deriving DecidableEq, Repr

/-- Mean and peak of one input, in codes (R136). -/
structure VoltFigure where
  mean : Int
  peak : Nat
  deriving DecidableEq, Repr

/-- The insulation classes (R137). -/
inductive InsClass where
  | good | leak | short
  deriving DecidableEq, Repr

/-- Resistance in ohms and class of one input (R137). -/
structure InsFigure where
  ohms : Nat
  cls : InsClass
  deriving DecidableEq, Repr

/-- Three figures, for A-B, A-earth and B-earth (R127). -/
structure Three (α : Type) where
  ab : α
  ae : α
  be : α
  deriving DecidableEq, Repr

/-- The CAPACITANCE part (R138). -/
inductive CapPart where
  | measured (nanofarads metres : Nat)
  | aboveRange
  deriving DecidableEq, Repr

/-- The reflection classes (R140). -/
inductive ReflClass where
  | lineEnd | faultPoint
  deriving DecidableEq, Repr

/-- The polarity of an echo (R139). -/
inductive Polarity where
  | openEnd | short
  deriving DecidableEq, Repr

/-- The REFLECTION part (R140). -/
inductive ReflPart where
  | located (distance : Nat) (cls : ReflClass) (polarity : Polarity)
  | noReflection
  | inconsistent
  deriving DecidableEq, Repr

/-- The NOISE part (R141). -/
structure NoisePart where
  level : Nat
  noisy : Bool
  deriving DecidableEq, Repr

/-- The parts of the stages completed so far (R117, R120); the TONE part is the minutes delivered. -/
structure Parts where
  fv : Option (Three VoltFigure)
  ins : Option (Three InsFigure)
  cap : Option CapPart
  refl : Option ReflPart
  noise : Option NoisePart
  tone : Option Nat
  deriving DecidableEq, Repr

/-- No part. -/
def Parts.empty : Parts := { fv := none, ins := none, cap := none, refl := none, noise := none, tone := none }

/-- One result record (R127). -/
structure TestRecord where
  seq : Nat
  kind : TestKind
  origin : Origin
  outcome : TestOutcome
  cause : Option AbortCause
  parts : Parts
  deriving DecidableEq, Repr

/-- The running test context (R117), with the outcome once it is decided (R126). -/
structure Running where
  req : TestReq
  seq : Nat
  st : SeqState
  stage : Option Stage
  parts : Parts
  faultFound : Bool
  fromFaulted : Bool
  clash : Bool
  abort : Option AbortCause
  deadTimer : Bool
  outcome : Option TestOutcome
  deriving DecidableEq, Repr

/-- The Test Sequencer (R113, R117, R127); it is IDLE while no test runs. -/
structure Tsq where
  queue : List TestReq
  running : Option Running
  results : Tbl (Option TestRecord) 16
  seq : Nat
  arrivals : Nat
  deriving DecidableEq, Repr

/-- The Test Sequencer after a hardware reset (R113, R117, R127). -/
def Tsq.initial : Tsq := { queue := [], running := none, results := tconst 16 none, seq := 0, arrivals := 0 }

/-! ## Measurement Unit -/

/-- Who holds the sense converter (R130). -/
inductive Holder where
  | none | stage | supply
  deriving DecidableEq, Repr

/-- The converter's inputs (R129). -/
inductive SenseInput where
  | ab | ae | be | dcBus
  deriving DecidableEq, Repr

/-- What drives the pair (R132): the stimulus of some codes on an input, the discharge short of A-B, one pulse of some
codes and microseconds, or a tone at some eighths of V_s. -/
inductive Drive where
  | off
  | stimulus (codes : Nat) (input : SenseInput)
  | discharge
  | pulse (codes width : Nat)
  | tone (freq : ToneFreq) (eighths : Nat)
  deriving DecidableEq, Repr

/-- Where CAPACITANCE stands (R138): the opening discharge, the run of the capture timer, the closing discharge. -/
inductive CapPhase where
  | opening | running | closing (part : CapPart)
  deriving DecidableEq, Repr

/-- The echo of one shot (R139). -/
structure Echo where
  ticks : Nat
  polarity : Polarity
  deriving DecidableEq, Repr

/-- The progress of the running stage (R136 to R142). Samples stand latest first, finished figures and echoes in order;
a REFLECTION's shots count those launched; a TONE's steps count eighths of the burst width. -/
inductive StageRun where
  | none
  | fv (samples : List Int) (done : List VoltFigure)
  | ins (settling : Bool) (samples : List Int) (done : List InsFigure)
  | cap (phase : CapPhase)
  | refl (shots : Nat) (echoes : List (Option Echo))
  | noise (samples : List Int)
  | tone (spec : ToneSpec) (steps : Nat)
  deriving DecidableEq, Repr

/-- The Measurement Unit (R129 to R134, R139). -/
structure Msu where
  holder : Holder
  stageWaiting : Bool
  supplyWaiting : Bool
  run : StageRun
  drive : Drive
  pairSelect : SenseInput
  capRunning : Bool
  /-- the rate: true for 40 ns ticks, false for 1 µs ticks -/
  capFast : Bool
  candidate : Option Nat
  /-- the blanking interval has ended, or there is none -/
  blanked : Bool
  capRef : Nat
  capAbove : Bool
  hazardArmed : Bool
  hazardRef : Nat
  deriving DecidableEq, Repr

/-- The Measurement Unit after either reset (R130, R132, R134; log 8). -/
def Msu.initial : Msu :=
  { holder := .none, stageWaiting := false, supplyWaiting := false, run := .none, drive := .off, pairSelect := .ab,
    capRunning := false, capFast := false, candidate := none, blanked := false, capRef := 0, capAbove := false,
    hazardArmed := false, hazardRef := 480 }

/-! ## Supply Monitor -/

/-- The Supply Monitor (R143); its sample request is the arbiter's (R130). The sample timer holds its interval in
milliseconds while it runs (R145). -/
structure Smn where
  own : Supply
  mainsSeen : Bool
  debounce : Bool
  sampleTimer : Option Nat
  differing : Nat
  cabinet : Supply
  deriving DecidableEq, Repr

/-- The Supply Monitor after either reset, before the straps are sampled (R143; log 8). -/
def Smn.initial : Smn :=
  { own := .mains, mainsSeen := false, debounce := false, sampleTimer := none, differing := 0, cabinet := .mains }

/-! ## Management Agent -/

/-- The ten notice causes, in the order of their bits (R155, R174). -/
inductive Cause where
  | testDone | hazard | portFault | supplyChange | stationConflict | claimClash | busFault | counterSaturated
  | mreqOverrun | configDefaulted
  deriving DecidableEq, Repr

/-- An item of the waiting list (R157): a notice by its cause, or an answer by its fixed payload. -/
inductive WaitItem where
  | notice (cause : Cause)
  | answer (payload : List Byte)
  deriving DecidableEq, Repr

/-- A counter with its sticky saturated flag (R163). -/
structure Counter where
  value : Nat
  sticky : Bool
  deriving DecidableEq, Repr

/-- A counter at 0 with its flag clear. -/
def Counter.zero : Counter := { value := 0, sticky := false }

/-- The Management Agent (R155). -/
structure Mga where
  waiting : List WaitItem
  restartPending : Bool
  flags : BitVec 10
  mask : BitVec 10
  portCounters : Tbl (Tbl Counter 18) 16
  cardCounters : Tbl Counter 13
  deriving DecidableEq, Repr

/-- The Management Agent after a hardware reset (R155). -/
def Mga.initial : Mga :=
  { waiting := [], restartPending := false, flags := 0, mask := 1023,
    portCounters := tconst 16 (tconst 18 Counter.zero), cardCounters := tconst 13 Counter.zero }

/-! ## Start Controller and pins -/

/-- The start states (R165). -/
inductive StartState where
  | reset | loading | joining | running
  deriving DecidableEq, Repr

/-- The Start Controller (R165, R169): the straps are as sampled. -/
structure Stc where
  startState : StartState
  station : StationId
  startMode : BitVec 2
  staging : Tbl Word16 512
  joinCount : Nat
  deriving DecidableEq, Repr

/-- The Start Controller after either reset (R165; log 8). -/
def Stc.initial : Stc :=
  { startState := .reset, station := 0, startMode := 0, staging := tconst 512 0, joinCount := 0 }

/-- The levels of the input pins, the straps as they were last read (R144, R165; log 8, log 9). -/
structure Pins where
  resetAsserted : Bool
  station : BitVec 3
  startMode : BitVec 2
  mains : Bool
  deriving DecidableEq, Repr

/-- The reset hold of the relay drive logic (R7): not running, running, or run out with the reset input still asserted. -/
inductive RelayHold where
  | none | running | elapsed
  deriving DecidableEq, Repr

/-! ## The whole card -/

/-- The card's state, block by block, and the commands that wait for it, the front one first. -/
structure State where
  pins : Pins
  relayHold : RelayHold
  stc : Stc
  cfg : Cfg
  ports : Tbl Port 16
  fst : Fst
  bau : Bau
  shu : Shu
  usc : Usc
  clt : Clt
  tsq : Tsq
  msu : Msu
  smn : Smn
  mga : Mga
  pending : List Instr
  deriving DecidableEq, Repr

/-- The card right after a hardware reset at power-up, the reset input still asserted (R165). -/
def State.reset : State :=
  { pins := { resetAsserted := true, station := 0, startMode := 0, mains := false }
    relayHold := .none
    stc := Stc.initial
    cfg := defaultCfg
    ports := tconst 16 Port.initial
    fst := Fst.initial
    bau := Bau.initial
    shu := Shu.initial
    usc := Usc.initial
    clt := Clt.initial
    tsq := Tsq.initial
    msu := Msu.initial
    smn := Smn.initial
    mga := Mga.initial
    pending := [] }

/-- The reasons for which the card stops with a fault: there is none, since the spec gives every event an effect or
ignores it (log 32). -/
inductive Fault where
  deriving DecidableEq, Repr

/-- The reasons for which a command is refused. -/
inductive Refusal where
  /-- Raised by exec for a row that has no meaning yet; no row is left so. Safe. -/
  | notModelled (mnemonic : String)
  /-- Raised by the five commands whose operands no interface of the card can carry: UPSTREAM_FRAME, DATA_RECEIVED,
  MREQ_RECEIVED, CONFIG_WRITE and MREQ_UNKNOWN_KIND, where WellFormed says no (log 23). Safe. -/
  | illFormed
  deriving DecidableEq, Repr

end Sys2Proof.Machine
end

