-- ==== Sys2Proof/Machine/Ops.lean ====
section
/-! DEFINITION. The named operations over port records, frame records, the pools, the claim table and the control list that
the blocks share. -/

namespace Sys2Proof.Machine

/-! ## Port records -/

/-- Every port, in port order. -/
def allPorts : List PortId := [0, 1, 2, 3, 4, 5, 6, 7, 8, 9, 10, 11, 12, 13, 14, 15]

/-- Every station of a card, by index. -/
def allStations : List StationId := [0, 1, 2, 3, 4, 5, 6, 7]

/-- Every binder, in order. -/
def allBinders : List BinderId :=
  [0, 1, 2, 3, 4, 5, 6, 7, 8, 9, 10, 11, 12, 13, 14, 15, 16, 17, 18, 19, 20, 21, 22, 23, 24, 25, 26, 27, 28, 29, 30, 31]

/-- A port's record (R1). -/
def State.port (s : State) (p : PortId) : Port := tget s.ports p

/-- The card with a port's record replaced. -/
def State.setPort (s : State) (p : PortId) (r : Port) : State := { s with ports := tset s.ports p r }

/-- The card with a port's record changed. -/
def State.modPort (s : State) (p : PortId) (f : Port → Port) : State := s.setPort p (f (s.port p))

/-- A record with one more message sent on its line-port link (R20). -/
def Port.send (m : LinkMsg) (r : Port) : Port := { r with linkOut := r.linkOut ++ [m] }

/-- The card with one change made for every port of a list, in order. -/
def forPorts (ps : List PortId) (f : PortId → State → State) (s : State) : State := ps.foldl (fun t p => f p t) s

/-! ## Frames and pools -/

/-- The blocks of a payload: ceil(L / 64) (R37). -/
def blocksOf (payload : List Byte) : Nat := (payload.length + 63) / 64

/-- The cells a payload occupies: its blocks, and one cell when it is empty (R37). -/
def cellsOf (payload : List Byte) : Nat := max 1 (blocksOf payload)

/-- The blocks a frame counts as (R37). -/
def Frame.blocks (f : Frame) : Nat := blocksOf f.payload

/-- The cells a frame occupies (R37). -/
def Frame.cells (f : Frame) : Nat := cellsOf f.payload

/-- The cells that a queue holds (R38). -/
def cellsIn (q : List Frame) : Nat := (q.map Frame.cells).sum

/-- The pools after a record and its cells return to them (R37). -/
def Fst.giveBack (f : Frame) (x : Fst) : Fst :=
  { x with freeCells := x.freeCells + f.cells, freeRecords := x.freeRecords + 1 }

/-- The pools after the records of a list return to them. -/
def Fst.giveBackAll (fs : List Frame) (x : Fst) : Fst :=
  { x with freeCells := x.freeCells + cellsIn fs, freeRecords := x.freeRecords + fs.length }

/-- The pools after a record and its cells are taken (R42). -/
def Fst.takeOut (f : Frame) (x : Fst) : Fst :=
  { x with freeCells := x.freeCells - f.cells, freeRecords := x.freeRecords - 1 }

/-- The placement test of the response queue for n cells, with these cells and records counted as free besides (R48). -/
def Fst.placeable (n moreCells moreRecords : Nat) (x : Fst) : Bool :=
  decide (x.responses.length < 8) && decide (n ≤ x.freeCells + moreCells) && decide (1 ≤ x.freeRecords + moreRecords)

/-- The response queue with one more frame at its tail, its cells and record taken (R48). -/
def Fst.placeResponse (kind : FrameKind) (payload : List Byte) (x : Fst) : Fst :=
  let f : Frame := { kind := kind, port := 31, payload := payload, inFlight := false }
  let y := x.takeOut f
  { y with responses := y.responses ++ [f] }

/-! ## Claims and supply -/

/-- A binder is claimed while its entry is PENDING or HELD (R1, R100). -/
def State.claimed (s : State) (b : BinderId) : Bool := (tget s.clt.entries b).phase != .free

/-- The rank of a supply state, worse states higher (R148). -/
def Supply.rank : Supply → Nat
  | .mains => 0
  | .battery => 1
  | .low => 2
  | .critical => 3

/-- The worse of two supply states (R148). -/
def Supply.worse (a b : Supply) : Supply := if a.rank < b.rank then b else a

/-! ## The control list (R60, R61) -/

/-- Whether a control item is an ADVERT. -/
def CtrlItem.isAdvert : CtrlItem → Bool
  | .advert _ _ _ _ _ => true
  | _ => false

/-- Whether a control item is a CLAIM. -/
def CtrlItem.isClaim : CtrlItem → Bool
  | .claim _ _ _ => true
  | _ => false

/-- Whether a control item is a CLAIM for a binder. -/
def CtrlItem.isClaimFor (b : BinderId) : CtrlItem → Bool
  | .claim c _ _ => c == b
  | _ => false

/-- Whether a control item is a RELEASE. -/
def CtrlItem.isRelease : CtrlItem → Bool
  | .release _ _ => true
  | _ => false

/-- Whether a control item is a RELEASE for a binder. -/
def CtrlItem.isReleaseFor (b : BinderId) : CtrlItem → Bool
  | .release c _ => c == b
  | _ => false

/-- A list with its first item of a sort replaced in its place, or with the item added at the tail where there is none. -/
def replaceOrAppend (sort : CtrlItem → Bool) (item : CtrlItem) : List CtrlItem → List CtrlItem
  | [] => [item]
  | x :: xs => if sort x then item :: xs else x :: replaceOrAppend sort item xs

/-- A list without its first item of a sort. -/
def dropFirst (sort : CtrlItem → Bool) : List CtrlItem → List CtrlItem
  | [] => []
  | x :: xs => if sort x then xs else x :: dropFirst sort xs

/-- The placement of an ADVERT (R60). -/
def ctrlPlaceAdvert (item : CtrlItem) (l : List CtrlItem) : List CtrlItem := replaceOrAppend CtrlItem.isAdvert item l

/-- The placement of a CLAIM (R60). -/
def ctrlPlaceClaim (item : CtrlItem) (l : List CtrlItem) : List CtrlItem := replaceOrAppend CtrlItem.isClaim item l

/-- The removal of a pending CLAIM for a binder (R61). -/
def ctrlRemoveClaim (b : BinderId) (l : List CtrlItem) : List CtrlItem := l.filter (fun x => !x.isClaimFor b)

/-- The placement of a RELEASE for a binder (R60): a pending CLAIM for it goes; a pending RELEASE for it is replaced; of
two RELEASE items for other binders the older goes. The older is the one that stands first, even where it was replaced in
its place after the other was placed; R60 leaves that open (DESIGN CHOICE, log 33). -/
def ctrlPlaceRelease (b : BinderId) (retried : Bool) (l : List CtrlItem) : List CtrlItem :=
  let l1 := ctrlRemoveClaim b l
  if l1.any (CtrlItem.isReleaseFor b) then replaceOrAppend (CtrlItem.isReleaseFor b) (.release b retried) l1
  else if 2 ≤ l1.countP CtrlItem.isRelease then dropFirst CtrlItem.isRelease l1 ++ [.release b retried]
  else l1 ++ [.release b retried]

/-- The card with its control list changed. -/
def State.modCtrl (s : State) (f : List CtrlItem → List CtrlItem) : State :=
  { s with bau := { s.bau with ctrl := f s.bau.ctrl } }

end Sys2Proof.Machine
end

