-- ==== Sys2Proof/Machine/Flags.lean ====
section
/-! DEFINITION. The card's counters with their sticky flags (R163) and its notice flags (R161). -/

namespace Sys2Proof.Machine

/-- The counters of a port, in the order of R163. -/
inductive PortCounter where
  | upFrames | upBlocks | dnFrames | dnBlocks | upDropState | upDropFull | upDropPool | upDropRecord | dnDropState
  | dnDropFull | dnDropPool | dnDropRecord | flushed | txAbort | trainFails | retrains | farFaults | sheds
  deriving DecidableEq, Repr

/-- The counters of the card, in the order of R163. -/
inductive CardCounter where
  | collisions | lateCollisions | rxCrc | rxRunt | rxLong | rxBadKind | rxBadPort | rxBadSource | advertsSent
  | advertsHeard | advertGaps | claimClashes | mreqOverrun
  deriving DecidableEq, Repr

/-- A port counter's place in the order of R163. -/
def PortCounter.idx : PortCounter → Fin 18
  | .upFrames => 0
  | .upBlocks => 1
  | .dnFrames => 2
  | .dnBlocks => 3
  | .upDropState => 4
  | .upDropFull => 5
  | .upDropPool => 6
  | .upDropRecord => 7
  | .dnDropState => 8
  | .dnDropFull => 9
  | .dnDropPool => 10
  | .dnDropRecord => 11
  | .flushed => 12
  | .txAbort => 13
  | .trainFails => 14
  | .retrains => 15
  | .farFaults => 16
  | .sheds => 17

/-- A card counter's place in the order of R163. -/
def CardCounter.idx : CardCounter → Fin 13
  | .collisions => 0
  | .lateCollisions => 1
  | .rxCrc => 2
  | .rxRunt => 3
  | .rxLong => 4
  | .rxBadKind => 5
  | .rxBadPort => 6
  | .rxBadSource => 7
  | .advertsSent => 8
  | .advertsHeard => 9
  | .advertGaps => 10
  | .claimClashes => 11
  | .mreqOverrun => 12

/-- A cause's bit (R174). -/
def Cause.bit : Cause → Nat
  | .testDone => 0
  | .hazard => 1
  | .portFault => 2
  | .supplyChange => 3
  | .stationConflict => 4
  | .claimClash => 5
  | .busFault => 6
  | .counterSaturated => 7
  | .mreqOverrun => 8
  | .configDefaulted => 9

/-- The largest value of a counter (R163). -/
def counterMax : Nat := 4294967295

/-- A counter after a rise of k (R163). -/
def Counter.rise (k : Nat) (c : Counter) : Counter :=
  if k = 0 then c
  else
    let v := min counterMax (c.value + k)
    { value := v, sticky := c.sticky || v == counterMax }

/-- Whether a rise of k sets the sticky flag anew (R163). -/
def Counter.saturates (k : Nat) (c : Counter) : Bool := !c.sticky && (c.rise k).sticky

/-- Whether a cause's notice flag is set (R161). -/
def State.flagSet (s : State) (c : Cause) : Bool := s.mga.flags.getLsbD c.bit

/-- The payload of a NOTICE: the cause code and the ten flags (R161, R174). -/
def noticePayload (c : Cause) (flags : BitVec 10) : List Byte :=
  [BitVec.ofNat 8 c.bit, BitVec.ofNat 8 (flags.toNat / 256), BitVec.ofNat 8 flags.toNat]

/-- The card with a NOTICE of a cause placed in the response queue, carrying the flags as they stand (R161). -/
def placeNotice (c : Cause) (s : State) : State :=
  { s with fst := s.fst.placeResponse .notice (noticePayload c s.mga.flags) }

/-- The card with an item added to the waiting list (R157). -/
def joinWaiting (i : WaitItem) (s : State) : State :=
  { s with mga := { s.mga with waiting := s.mga.waiting ++ [i] } }

/-- A cause is raised (R161): a clear flag becomes set, and an unmasked cause makes one NOTICE, placed at once where
nothing waits and R48 has room. It is made by R162 even where an earlier NOTICE of the cause, its flag cleared since, still
stands in the response queue or is in flight, where R161 says that a cause has at most one there (DESIGN CHOICE, log 40). -/
def raiseNotice (c : Cause) (s : State) : State :=
  if s.flagSet c then s
  else
    let t := { s with mga := { s.mga with flags := s.mga.flags ||| BitVec.ofNat 10 (2 ^ c.bit) } }
    if !t.mga.mask.getLsbD c.bit then t
    else if t.mga.waiting.isEmpty && t.fst.placeable 1 0 0 then placeNotice c t
    else joinWaiting (.notice c) t

/-- A port counter of the card. -/
def State.portCounter (s : State) (p : PortId) (c : PortCounter) : Counter := tget (tget s.mga.portCounters p) c.idx

/-- A card counter of the card. -/
def State.cardCounter (s : State) (c : CardCounter) : Counter := tget s.mga.cardCounters c.idx

/-- A port counter rises by k; a flag newly set raises COUNTER_SATURATED (R163). -/
def countPort (p : PortId) (c : PortCounter) (k : Nat) (s : State) : State :=
  let old := s.portCounter p c
  let row := tset (tget s.mga.portCounters p) c.idx (old.rise k)
  let t := { s with mga := { s.mga with portCounters := tset s.mga.portCounters p row } }
  if old.saturates k then raiseNotice .counterSaturated t else t

/-- A card counter rises by 1; a flag newly set raises COUNTER_SATURATED (R163). -/
def countCard (c : CardCounter) (s : State) : State :=
  let old := s.cardCounter c
  let t := { s with mga := { s.mga with cardCounters := tset s.mga.cardCounters c.idx (old.rise 1) } }
  if old.saturates 1 then raiseNotice .counterSaturated t else t

end Sys2Proof.Machine
end

