-- ==== Sys2Proof/Machine/Operands.lean ====
section
/-! DEFINITION. The byte layouts of the card's frames and payloads (R51, R172 to R174): the cabinet bus frame and its CRC,
the management requests and their arguments, and the data of the answers. -/

namespace Sys2Proof.Machine

/-! ## Numbers as bytes, most significant byte first (R171) -/

/-- A number in one byte. -/
def u8 (n : Nat) : Byte := BitVec.ofNat 8 n

/-- A number in two bytes. -/
def u16 (n : Nat) : List Byte := [u8 (n / 256), u8 n]

/-- A number in four bytes. -/
def u32 (n : Nat) : List Byte := [u8 (n / 16777216), u8 (n / 65536), u8 (n / 256), u8 n]

/-- A signed number in two bytes, two's complement (R174). -/
def s16 (i : Int) : List Byte := u16 (i % 65536).toNat

/-- A signed number in four bytes, two's complement (R174). -/
def s32 (i : Int) : List Byte := u32 (i % 4294967296).toNat

/-- A field of two values in one byte (R174). -/
def flagByte (b : Bool) : Byte := if b then 1 else 0

/-- An optional field: one byte, 1 if present and 0 if absent, then the field if present (R174; log 14). -/
def optField {α : Type} (f : α → List Byte) : Option α → List Byte
  | none => [0]
  | some x => 1 :: f x

/-- The number that two bytes hold. -/
def pair16 (h l : Byte) : Nat := h.toNat * 256 + l.toNat

/-! ## The CRC-32 of the cabinet bus (R51) -/

/-- The generator polynomial without its highest term (R51). -/
def crcPoly : BitVec 32 := 0x04C11DB7

/-- One bit enters the register (R51). -/
def crcBit (r : BitVec 32) (b : Bool) : BitVec 32 :=
  if r.getLsbD 31 != b then (r <<< 1) ^^^ crcPoly else r <<< 1

/-- One byte enters the register, most significant bit first (R51). -/
def crcByte (r : BitVec 32) (b : Byte) : BitVec 32 :=
  [7, 6, 5, 4, 3, 2, 1, 0].foldl (fun x i => crcBit x (b.getLsbD i)) r

/-- The CRC-32 of some bytes: preset to ones, inverted at the end (R51). -/
def crc32 (bytes : List Byte) : BitVec 32 := ~~~(bytes.foldl crcByte 0xFFFFFFFF)

/-- The four CRC bytes (R51). -/
def crcBytes (bytes : List Byte) : List Byte := u32 (crc32 bytes).toNat

/-! ## The cabinet bus frame (R50, R51, R172, R173) -/

/-- The eight kinds of a cabinet bus frame (R172). -/
inductive BusKind where
  | data | advert | claim | release | capacity | mreq | mrsp | notice
  deriving DecidableEq, Repr

/-- A kind's code (R172). -/
def BusKind.code : BusKind → Nat
  | .data => 1
  | .advert => 2
  | .claim => 3
  | .release => 4
  | .capacity => 5
  | .mreq => 6
  | .mrsp => 7
  | .notice => 8

/-- The kind that a code names, where it names one (R64, R172). -/
def busKindOf (n : Nat) : Option BusKind :=
  match n with
  | 1 => some .data
  | 2 => some .advert
  | 3 => some .claim
  | 4 => some .release
  | 5 => some .capacity
  | 6 => some .mreq
  | 7 => some .mrsp
  | 8 => some .notice
  | _ => none

/-- The 8-byte header (R172). -/
def busHeader (kind : BusKind) (dest source port len : Nat) : List Byte :=
  [u8 kind.code, u8 (dest * 16 + source), u8 port, 0, u8 (len / 256), u8 len, 0, 0]

/-- A frame as it stands on the medium: header, payload, padding to 64 bytes and CRC-32 (R51). -/
def busFrame (kind : BusKind) (dest source port : Nat) (payload : List Byte) : List Byte :=
  let body := busHeader kind dest source port payload.length ++ payload
  let padded := body ++ List.replicate (60 - body.length) 0
  padded ++ crcBytes padded

/-- A supply state's code (R173, R174). -/
def Supply.code : Supply → Nat
  | .mains => 0
  | .battery => 1
  | .low => 2
  | .critical => 3

/-- The supply state that a received code stands for: CRITICAL for a code that is none of the four (R71, R171). -/
def supplyOf (n : Nat) : Supply :=
  match n with
  | 0 => .mains
  | 1 => .battery
  | 2 => .low
  | _ => .critical

/-- The kind and payload of a control item (R173). -/
def CtrlItem.wire : CtrlItem → BusKind × List Byte
  | .advert d w st j q => (.advert, u16 d ++ u16 w ++ [u8 st.code, flagByte j, q, 0])
  | .claim b held dur => (.claim, [u8 b.val, flagByte held, dur, 0])
  | .release b _ => (.release, [u8 b.val, 0])

/-- The own station number: the sampled strap value plus 1 (R50, R165). -/
def State.stationNumber (s : State) : Nat := s.stc.station.val + 1

/-- The bytes that the frame in hand puts on the medium (R50, R54). -/
def wireOf (h : InHand) (s : State) : List Byte :=
  match h with
  | .control item => busFrame item.wire.1 15 s.stationNumber 31 item.wire.2
  | .mgmt =>
    match s.fst.responses with
    | f :: _ => busFrame (if f.kind == .notice then .notice else .mrsp) 0 s.stationNumber 31 f.payload
    | [] => []
  | .data p =>
    match tget s.fst.up p with
    | f :: _ => busFrame .data 0 s.stationNumber p.val f.payload
    | [] => []

/-! ## Management requests (R156, R159, R174) -/

/-- A management request with its arguments in range; no port stands for ALL or CARD. -/
inductive Request where
  | portStatus (port : Option PortId)
  | portAdmin (port : PortId) (enable : Bool)
  | retrain (port : PortId)
  | weight (port : PortId) (value : Byte)
  | testRequest (port : PortId) (kind : TestKind) (intrusive : Bool) (tone : Option ToneSpec)
  | testCancel (port : PortId)
  | testResult (port : PortId)
  | readCounters (scope : Option PortId) (clear : Bool)
  | cardStatus
  | noticeAck (mask : BitVec 16)
  | restart
  | configWrite (offset : Nat) (words : List Word16)
  | configApply
  deriving DecidableEq, Repr

/-- The seven statuses (R174). -/
inductive Status where
  | ok | queued | refusedArgument | refusedState | refusedDuplicate | notReady | unknownKind
  deriving DecidableEq, Repr

/-- A status's code (R174). -/
def Status.code : Status → Nat
  | .ok => 0
  | .queued => 1
  | .refusedArgument => 2
  | .refusedState => 3
  | .refusedDuplicate => 4
  | .notReady => 5
  | .unknownKind => 6

/-- A port byte in range (R174). -/
def portOfByte (b : Byte) : Option PortId := if h : b.toNat < 16 then some ⟨b.toNat, h⟩ else none

/-- The test kind of a code (R174). -/
def testKindOf (n : Nat) : Option TestKind :=
  match n with
  | 1 => some .lineCheck
  | 2 => some .quickCheck
  | 3 => some .tone
  | _ => none

/-- The tone frequency of a number of Hz (R159). -/
def toneFreqOf (n : Nat) : Option ToneFreq :=
  if n = 800 then some .hz800
  else if n = 1000 then some .hz1000
  else if n = 1200 then some .hz1200
  else if n = 1600 then some .hz1600
  else none

/-- The burst width of a number of milliseconds (R159). -/
def burstWidthOf (n : Nat) : Option BurstWidth :=
  if n = 125 then some .ms125
  else if n = 250 then some .ms250
  else if n = 500 then some .ms500
  else if n = 1000 then some .ms1000
  else none

/-- The tone fields in range (R159). -/
def toneSpecOf (freq width minutes : Nat) : Option ToneSpec :=
  match toneFreqOf freq, burstWidthOf width with
  | some f, some w => if 1 ≤ minutes ∧ minutes ≤ 60 then some { freq := f, width := w, minutes := minutes } else none
  | _, _ => none

/-- The words that an even number of bytes holds (R174). -/
def wordsOf : List Byte → Option (List Word16)
  | [] => some []
  | [_] => none
  | h :: l :: rest => (wordsOf rest).map (fun ws => BitVec.ofNat 16 (pair16 h l) :: ws)

/-- The arguments of a TEST_REQUEST, from byte 3 (R159, R174). -/
def parseTestRequest (args : List Byte) : Option Request :=
  match args with
  | p :: k :: fl :: rest =>
    match portOfByte p, testKindOf k.toNat with
    | some port, some .tone =>
      match rest with
      | f1 :: f0 :: w1 :: w0 :: d :: _ =>
        (toneSpecOf (pair16 f1 f0) (pair16 w1 w0) d.toNat).map
          (fun t => .testRequest port .tone (fl.getLsbD 0) (some t))
      | _ => none
    | some port, some kind => some (.testRequest port kind (fl.getLsbD 0) none)
    | _, _ => none
  | _ => none

/-- The arguments of a CONFIG_WRITE, from byte 3 (R159, R174). -/
def parseConfigWrite (args : List Byte) : Option Request :=
  match args with
  | h :: l :: rest =>
    match wordsOf rest with
    | some ws =>
      let off := pair16 h l
      if 1 ≤ ws.length ∧ off ≤ 511 ∧ off + ws.length ≤ 512 then some (.configWrite off ws) else none
    | none => none
  | _ => none

/-- The request of a kind with its arguments, none where one is missing or out of range: check 3 of R156 (R174). -/
def parseArgs (kind : Nat) (args : List Byte) : Option Request :=
  match kind, args with
  | 1, p :: _ => if p = 255 then some (.portStatus none) else (portOfByte p).map (fun q => .portStatus (some q))
  | 2, p :: e :: _ =>
    if e = 1 then (portOfByte p).map (fun q => .portAdmin q true)
    else if e = 0 then (portOfByte p).map (fun q => .portAdmin q false)
    else none
  | 3, p :: _ => (portOfByte p).map .retrain
  | 4, p :: v :: _ => (portOfByte p).map (fun q => .weight q v)
  | 5, as => parseTestRequest as
  | 6, p :: _ => (portOfByte p).map .testCancel
  | 7, p :: _ => (portOfByte p).map .testResult
  | 8, p :: c :: _ =>
    if p = 254 then some (.readCounters none (c.getLsbD 0))
    else (portOfByte p).map (fun q => .readCounters (some q) (c.getLsbD 0))
  | 9, _ => some .cardStatus
  | 10, h :: l :: _ => some (.noticeAck (BitVec.ofNat 16 (pair16 h l)))
  | 11, _ => some .restart
  | 12, as => parseConfigWrite as
  | 13, _ => some .configApply
  | _, _ => none

/-- The tag that an answer carries: the request's, or 0 where the payload is too short to hold it (R156). -/
def tagOf (payload : List Byte) : List Byte :=
  match payload with
  | a :: b :: _ => [a, b]
  | _ => [0, 0]

/-- The kind byte that an answer carries: the request's; a free value where the payload holds none (log 7). -/
def kindByteOf (payload : List Byte) : Byte :=
  match payload with
  | _ :: _ :: k :: _ => k
  | _ => Config.absentKindByte payload

/-- The payload of an MRSP (R174). -/
def mrspPayload (request : List Byte) (st : Status) (data : List Byte) : List Byte :=
  tagOf request ++ [kindByteOf request, u8 st.code] ++ data

/-- The payload of a request of a kind (R174). -/
def mreqPayload (tag : BitVec 16) (kind : Nat) (args : List Byte) : List Byte := u16 tag.toNat ++ u8 kind :: args

/-! ## Codes of named values (R174) -/

/-- A line state's code (R174). -/
def LineState.code : LineState → Nat
  | .disabled => 0
  | .waiting => 1
  | .training => 2
  | .hold => 3
  | .inService => 4
  | .testing => 5
  | .shed => 6
  | .faulted => 7

/-- A link power mode's code (R174). -/
def PowerMode.code : PowerMode → Nat
  | .off => 0
  | .watch => 1
  | .on => 2

/-- A training phase's code (R174). -/
def TrainPhase.code : TrainPhase → Nat
  | .none => 0
  | .report => 1
  | .ready => 2

/-- A failure cause's code (R174). -/
def FailCause.code : FailCause → Nat
  | .none => 0
  | .trainFail => 1
  | .trainTimeout => 2
  | .readyTimeout => 3
  | .noProfile => 4

/-- A start state's code (R174). -/
def StartState.code : StartState → Nat
  | .reset => 0
  | .loading => 1
  | .joining => 2
  | .running => 3

/-- A claim phase's code (R174). -/
def ClaimPhase.code : ClaimPhase → Nat
  | .pending => 0
  | .held => 1
  | .free => 2

/-- A test kind's code (R174). -/
def TestKind.code : TestKind → Nat
  | .lineCheck => 1
  | .quickCheck => 2
  | .tone => 3

/-- An origin's code (R174). -/
def Origin.code : Origin → Nat
  | .management => 0
  | .auto => 1

/-- An outcome's code (R174). -/
def TestOutcome.code : TestOutcome → Nat
  | .pass => 0
  | .fault => 1
  | .hazard => 2
  | .disturbed => 3
  | .aborted => 4
  | .completed => 5

/-- An abort cause's code (R174). -/
def AbortCause.code : AbortCause → Nat
  | .request => 0
  | .admin => 1
  | .supply => 2

/-- An insulation class's code (R174). -/
def InsClass.code : InsClass → Nat
  | .good => 0
  | .leak => 1
  | .short => 2

/-- A reflection class's code (R174). -/
def ReflClass.code : ReflClass → Nat
  | .lineEnd => 0
  | .faultPoint => 1

/-- A polarity's code (R174). -/
def Polarity.code : Polarity → Nat
  | .openEnd => 0
  | .short => 1

/-! ## The data of the answers (R158, R174; log 14) -/

/-- The fields of a port record but its counters, in the order of R1. -/
def portRecordBytes (r : Port) : List Byte :=
  [flagByte r.admin, flagByte r.priority, u8 r.binder.val, u8 r.lineState.code, u8 r.power.code]
    ++ optField (fun q : Fin 8 => [u8 q.val]) r.profile
    ++ [r.weightOverride]
    ++ optField u16 r.loopEst
    ++ [u8 r.testCeiling, u8 r.failures, u8 r.marginLow, flagByte r.idleFlag, flagByte r.wakeWatch,
        flagByte r.serviceClosed, flagByte r.testClosed]

/-- The training context, in the order of R22. -/
def trainingBytes (r : Port) : List Byte :=
  [u8 r.phase.code, r.attempt]
    ++ optField (fun q : Report => u32 q.down.toNat ++ u32 q.up.toNat ++ [q.attenuation, q.margin]) r.lastReport
    ++ [u8 r.lastCause.code, flagByte r.persistTimer, flagByte r.trainTimer, flagByte r.readyTimer]

/-- What PORT_STATUS reports of one port (R158). -/
def portStatusBytes (s : State) (p : PortId) : List Byte :=
  let r := s.port p
  portRecordBytes r ++ trainingBytes r ++ u16 (cellsIn (tget s.fst.up p)) ++ u16 (cellsIn (tget s.fst.down p))
    ++ s16 (tget s.usc.ports p).tokens ++ optField (fun q : Fin 8 => [u8 q.val]) r.profile

/-- One peer table entry, in the order of R70. -/
def peerBytes (e : Peer) : List Byte :=
  [flagByte e.present] ++ u16 e.demand ++ u16 e.weight ++ [u8 e.supply.code, flagByte e.joining, e.lastSeq, u8 e.age]

/-- One claim table entry, in the order of R99. -/
def claimBytes (e : ClaimEntry) : List Byte :=
  [u8 e.phase.code] ++ optField (fun t : StationId => [u8 (t.val + 1)]) e.claimant ++ u16 e.remaining ++ [flagByte e.own]

/-- What CARD_STATUS reports (R158). -/
def cardStatusBytes (s : State) : List Byte :=
  [u8 s.stc.startState.code, u8 s.smn.own.code, u8 s.smn.cabinet.code] ++ u16 s.shu.cWork ++ u16 s.shu.grant
    ++ s32 s.shu.credit
    ++ allStations.flatMap (fun t => peerBytes (tget s.shu.peers t))
    ++ allBinders.flatMap (fun b => claimBytes (tget s.clt.entries b))
    ++ u16 s.mga.flags.toNat

/-- One counter with its sticky flag (R174). -/
def counterBytes (c : Counter) : List Byte := u32 c.value ++ [flagByte c.sticky]

/-- What READ_COUNTERS reports of a scope (R158). -/
def countersBytes (s : State) : Option PortId → List Byte
  | some p => (tget s.mga.portCounters p).toList.flatMap counterBytes
  | none => s.mga.cardCounters.toList.flatMap counterBytes

/-- A mean and a peak. -/
def voltBytes (v : VoltFigure) : List Byte := s16 v.mean ++ u16 v.peak

/-- A resistance and a class. -/
def insBytes (v : InsFigure) : List Byte := u32 v.ohms ++ [u8 v.cls.code]

/-- A CAPACITANCE part (R174). -/
def capBytes : CapPart → List Byte
  | .measured n m => 0 :: (u16 n ++ u16 m)
  | .aboveRange => [1]

/-- A REFLECTION part (R174). -/
def reflBytes : ReflPart → List Byte
  | .located d c p => 0 :: (u16 d ++ [u8 c.code, u8 p.code])
  | .noReflection => [1]
  | .inconsistent => [2]

/-- A result record, in the order of R127. -/
def recordBytes (r : TestRecord) : List Byte :=
  u16 r.seq ++ [u8 r.kind.code, u8 r.origin.code, u8 r.outcome.code]
    ++ optField (fun c : AbortCause => [u8 c.code]) r.cause
    ++ optField (fun v : Three VoltFigure => voltBytes v.ab ++ voltBytes v.ae ++ voltBytes v.be) r.parts.fv
    ++ optField (fun v : Three InsFigure => insBytes v.ab ++ insBytes v.ae ++ insBytes v.be) r.parts.ins
    ++ optField capBytes r.parts.cap
    ++ optField reflBytes r.parts.refl
    ++ optField (fun v : NoisePart => u16 v.level ++ [flagByte v.noisy]) r.parts.noise
    ++ optField (fun m : Nat => [u8 m]) r.parts.tone

end Sys2Proof.Machine
end

