-- ==== Sys2Proof/Machine/Scheduler.lean ====
section
/-! DEFINITION. The Upstream Scheduler (R86 to R98) and the effective weight it reads (R1). -/

namespace Sys2Proof.Machine

/-- A port's scheduler state. -/
def State.uscPort (s : State) (p : PortId) : UscPort := tget s.usc.ports p

/-- The card with a port's scheduler state changed. -/
def State.modUsc (s : State) (p : PortId) (f : UscPort → UscPort) : State :=
  { s with usc := { s.usc with ports := tset s.usc.ports p (f (s.uscPort p)) } }

/-- The A_up of a port's selected profile; 0 where none is selected, which no port in service is (R14). -/
def State.aUpOf (s : State) (p : PortId) : Nat :=
  match (s.port p).profile with
  | some i => (tget s.cfg.profiles i).aUp
  | none => 0

/-- The effective weight of a port (R1); 0 where it has none, which no port in service is. -/
def State.weightOf (s : State) (p : PortId) : Nat :=
  let r := s.port p
  if r.weightOverride ≠ 0 then r.weightOverride.toNat
  else
    match r.profile with
    | some i => (tget s.cfg.profiles i).weight
    | none => 0

/-- A port is eligible while it is IN_SERVICE with a non-empty upstream queue and tokens above 0 (R90). -/
def State.eligible (s : State) (p : PortId) : Bool :=
  (s.port p).lineState == .inService && !(tget s.fst.up p).isEmpty && decide (0 < (s.uscPort p).tokens)

/-- A port's turn closed with its deficit 0. -/
def UscPort.closed (u : UscPort) : UscPort := { u with deficit := 0, turnOpen := false }

/-- The port leaves the active port list, its deficit 0 and its turn closed (R90, R8). -/
def uscLeave (p : PortId) (s : State) : State :=
  let t := s.modUsc p UscPort.closed
  { t with usc := { t.usc with active := t.usc.active.filter (· != p) } }

/-- The active port list brought to the port's eligibility: it joins the tail, leaves, or stays (R90). -/
def uscUpdate (p : PortId) (s : State) : State :=
  if s.eligible p then
    if s.usc.active.contains p then s
    else
      let t := s.modUsc p UscPort.closed
      { t with usc := { t.usc with active := t.usc.active ++ [p] } }
  else if s.usc.active.contains p then uscLeave p s
  else s

/-- The entry of a port to IN_SERVICE: its held depth is written and tokens left over lapse (R87). -/
def uscEnterService (p : PortId) (s : State) : State :=
  let a := s.aUpOf p
  s.modUsc p (fun u => { u with heldDepth := max (2 * a) 24, tokens := min u.tokens 0 })

/-- The refill of one port's tokens at a share-period expiry, by its line state (R88). R88's last paragraph says of a port
that enters IN_SERVICE at the moment of an expiry both that its tokens are 0 in either order and that, entered first, they
are min(tokens, 0) and are then refilled by A_up; the model refills them (DESIGN CHOICE, log 38). -/
def uscRefill (p : PortId) (s : State) : State :=
  if (s.port p).lineState == .inService then
    let a := s.aUpOf p
    s.modUsc p (fun u => { u with tokens := min (u.tokens + a) u.heldDepth })
  else s.modUsc p (fun u => { u with tokens := 0 })

/-- The refill of every port's tokens, and the active list brought up to it in ascending port number (R88). -/
def uscRefillAll (s : State) : State := forPorts allPorts uscUpdate (forPorts allPorts uscRefill s)

/-- Whether the DATA class waits (R62, R92). -/
def State.dataWaits (s : State) : Bool := decide (0 < s.shu.credit) && !s.usc.active.isEmpty

/-- The mark of a queue's head record as in flight (R45, R49). -/
def markHead : List Frame → List Frame
  | [] => []
  | f :: fs => { f with inFlight := true } :: fs

/-- USC's choice of a frame (R93): the head port of the list, with one quantum where its turn is new; its head frame is
taken from the deficit and marked in flight. -/
def uscChoose (s : State) : Option (PortId × State) :=
  match s.usc.active with
  | [] => none
  | p :: _ =>
    let u := s.uscPort p
    let w := s.weightOf p
    let d := if u.turnOpen then u.deficit else u.deficit + 24 * w
    match tget s.fst.up p with
    | [] => none
    | f :: _ =>
      let t := s.modUsc p (fun v => { v with deficit := d - f.blocks, turnOpen := true })
      some (p, { t with
        usc := { t.usc with chosen := some p }
        fst := { t.fst with up := tset t.fst.up p (markHead (tget t.fst.up p)) } })

/-- The scheduler's step at the end of the chosen frame's transmission, after removal and charge (R94, R95): the port
leaves the list, continues its turn, or moves to the tail with its deficit kept and its turn closed. -/
def uscAfterEnd (p : PortId) (s : State) : State :=
  let s := uscUpdate p { s with usc := { s.usc with chosen := none } }
  match s.usc.active, tget s.fst.up p with
  | q :: rest, f :: _ =>
    let u := s.uscPort p
    if q == p && u.turnOpen && decide (u.deficit < f.blocks) then
      let t := s.modUsc p (fun v => { v with turnOpen := false })
      { t with usc := { t.usc with active := rest ++ [p] } }
    else s
  | _, _ => s

end Sys2Proof.Machine
end

