-- ==== Sys2Proof/Machine/FrameStore.lean ====
section
/-! DEFINITION. The Frame Store's admission, delivery, flush and removal of frames (R37 to R49). -/

namespace Sys2Proof.Machine

/-- The directions of a port's traffic. -/
inductive Direction where
  | up | down
  deriving DecidableEq, Repr

/-- The admission conditions of R41 that can fail, in their order. -/
inductive Drop where
  | state | full | pool | record
  deriving DecidableEq, Repr

/-- The counter of a drop (R41). -/
def Drop.counter : Drop → Direction → PortCounter
  | .state, .up => .upDropState
  | .full, .up => .upDropFull
  | .pool, .up => .upDropPool
  | .record, .up => .upDropRecord
  | .state, .down => .dnDropState
  | .full, .down => .dnDropFull
  | .pool, .down => .dnDropPool
  | .record, .down => .dnDropRecord

/-- A port's queue in a direction (R38). -/
def Fst.queue (x : Fst) (p : PortId) : Direction → List Frame
  | .up => tget x.up p
  | .down => tget x.down p

/-- The Frame Store with a port's queue in a direction replaced. -/
def Fst.setQueue (x : Fst) (p : PortId) (d : Direction) (q : List Frame) : Fst :=
  match d with
  | .up => { x with up := tset x.up p q }
  | .down => { x with down := tset x.down p q }

/-- The limit of a port's queues in a direction (R38). -/
def queueLimit (c : Cfg) : Direction → Nat
  | .up => c.uqMax
  | .down => c.dqMax

/-- The admission decision for a DATA frame of n cells: the first of the four conditions that fails (R41). -/
def admission (s : State) (p : PortId) (d : Direction) (n : Nat) : Option Drop :=
  if (s.port p).lineState ≠ .inService then some .state
  else if cellsIn (s.fst.queue p d) + n > queueLimit s.cfg d then some .full
  else if s.fst.freeCells < n + 48 then some .pool
  else if s.fst.freeRecords < 1 + 16 then some .record
  else none

/-- A record as a DATA frame's admission writes it (R42). -/
def dataFrame (p : PortId) (payload : List Byte) : Frame :=
  { kind := .data, port := ⟨p.val, by omega⟩, payload := payload, inFlight := false }

/-- The admitted frame takes its cells and record and joins the tail of its queue (R42). -/
def enqueueData (p : PortId) (d : Direction) (payload : List Byte) (s : State) : State :=
  let f := dataFrame p payload
  { s with fst := (s.fst.takeOut f).setQueue p d (s.fst.queue p d ++ [f]) }

/-- A passing frame clears the idle flag and starts the idle timer of a port in service again (R10). -/
def passingFrame (p : PortId) (s : State) : State :=
  s.modPort p (fun r => if r.lineState == .inService then { r with idleFlag := false, idleTimer := true } else r)

/-- The hand-over of the head frame of a port's downstream queue to its transceiver (R43); an empty queue hands over
nothing. -/
def handOver (p : PortId) (s : State) : State :=
  match tget s.fst.down p with
  | [] => s
  | f :: rest =>
    let s1 := { s with fst := (s.fst.giveBack f).setQueue p .down rest }
    let s2 := s1.modPort p (Port.send (.frame f.payload))
    let s3 := passingFrame p s2
    let s4 := { s3 with fst := { s3.fst with pull := tset s3.fst.pull p false } }
    countPort p .dnBlocks f.blocks (countPort p .dnFrames 1 s4)

/-- A frame stands whole in the staging buffer of its line-port link (R40). -/
def stageUp (p : PortId) (bytes : List Byte) (s : State) : State :=
  { s with fst := { s.fst with upStaging := tset s.fst.upStaging p bytes } }

/-- A frame stands whole in the staging buffer of the cabinet bus (R40). -/
def stageBus (bytes : List Byte) (s : State) : State := { s with fst := { s.fst with busStaging := bytes } }

/-- The completion of an upstream frame: the admission decision is taken on the frame in the link's staging buffer, which
it leaves (R40, R41, R42). -/
def completeUpstream (p : PortId) (s : State) : State :=
  let payload := tget s.fst.upStaging p
  let s := stageUp p [] s
  match admission s p .up (cellsOf payload) with
  | some d => countPort p (d.counter .up) 1 s
  | none => uscUpdate p (passingFrame p (enqueueData p .up payload s))

/-- The completion of a downstream frame for a port, with the hand-over at once where the pull-pending flag is set
(R40 to R43). -/
def completeDownstream (p : PortId) (s : State) : State :=
  let payload := s.fst.busStaging
  let s := stageBus [] s
  match admission s p .down (cellsOf payload) with
  | some d => countPort p (d.counter .down) 1 s
  | none =>
    let t := enqueueData p .down payload s
    if tget t.fst.pull p then handOver p t else t

/-- The completion of an MREQ frame: admitted to the management request queue, or discarded with MREQ_OVERRUN (R47). -/
def completeMreq (s : State) : State :=
  let payload := s.fst.busStaging
  let s := stageBus [] s
  let f : Frame := { kind := .mreq, port := 31, payload := payload, inFlight := false }
  if s.fst.requests.length < 8 ∧ f.cells ≤ s.fst.freeCells ∧ 1 ≤ s.fst.freeRecords then
    let y := s.fst.takeOut f
    { s with fst := { y with requests := y.requests ++ [f] } }
  else raiseNotice .mreqOverrun (countCard .mreqOverrun s)

/-- The head records of an upstream queue that a flush leaves: the one in flight (R46). -/
def keptByFlush : List Frame → List Frame
  | f :: _ => if f.inFlight then [f] else []
  | [] => []

/-- The records of an upstream queue that a flush removes (R46). -/
def flushedFrom : List Frame → List Frame
  | f :: fs => if f.inFlight then fs else f :: fs
  | [] => []

/-- The flush of a port's queues (R8, R46). -/
def flushPort (p : PortId) (s : State) : State :=
  let up := tget s.fst.up p
  let gone := flushedFrom up ++ tget s.fst.down p
  let x := s.fst.giveBackAll gone
  let y := { x with
    up := tset x.up p (keptByFlush up)
    down := tset x.down p []
    pull := tset x.pull p false }
  countPort p .flushed gone.length { s with fst := y }

/-- The removal of the head of a port's upstream queue, its cells and record returned (R45). -/
def removeUpHead (p : PortId) (s : State) : State :=
  match tget s.fst.up p with
  | [] => s
  | f :: rest => { s with fst := (s.fst.giveBack f).setQueue p .up rest }

/-- The removal of the head of the response queue (R49). -/
def removeResponseHead (s : State) : State :=
  match s.fst.responses with
  | [] => s
  | f :: rest => { s with fst := { s.fst.giveBack f with responses := rest } }

/-- The removal of the head of the management request queue (R48). -/
def removeRequestHead (s : State) : State :=
  match s.fst.requests with
  | [] => s
  | f :: rest => { s with fst := { s.fst.giveBack f with requests := rest } }

end Sys2Proof.Machine
end

