-- ==== Sys2Proof/Machine/LineSupervisor.lean ====
section
/-! DEFINITION. The Line Supervisor: changes of line state, relays, training and shedding of ports (R3 to R36, R150 to
R154). -/

namespace Sys2Proof.Machine

/-! ## Changes of line state -/

/-- The link power mode of a line state, wake watch settling SHED's (R3, R4). -/
def powerModeOf (ls : LineState) (wake : Bool) : PowerMode :=
  match ls with
  | .waiting | .training | .hold | .inService => .on
  | .shed => if wake then .watch else .off
  | .disabled | .testing | .faulted => .off

/-- POWER is sent where the new mode differs from the field; POWER WATCH clears the wake-arming mark and sets the
report-awaited mark (R4, R154). -/
def Port.powerTo (m : PowerMode) (r : Port) : Port :=
  if r.power = m then r
  else
    let t := { (r.send (.power m)) with power := m }
    if m = .watch then { t with wakeArmed := false, reportAwaited := true } else t

/-- Whether the port is left with ABANDON (R3, R20): a training in progress is given up, or service is left for HOLD. -/
def Port.needsAbandon (r : Port) (ns : LineState) : Bool :=
  (r.lineState == .training && r.phase != .none && ns != .inService && ns != .training)
    || (r.lineState == .inService && ns == .hold)

/-- The leaving of a line state (R3, R10, R11, R14, R22, R154): the line timers stop, ABANDON is sent where it is due and
the transceiver has not itself left, and the fields that hold only within a state fall back. -/
def Port.leave (ns : LineState) (lost : Bool) (r : Port) : Port :=
  let r1 := if r.needsAbandon ns && !lost then r.send .abandon else r
  { r1 with
    persistTimer := false
    trainTimer := false
    readyTimer := false
    idleTimer := false
    idleFlag := false
    marginLow := 0
    wakeWatch := false
    wakeArmed := false
    reportAwaited := false
    phase := .none
    profile := if ns = .training ∨ ns = .inService then r.profile else none }

/-- The entry of a line state (R4, R10, R11, R14, R28). -/
def Port.enter (ns : LineState) (wake : Bool) (r : Port) : Port :=
  let r1 := { r with lineState := ns, wakeWatch := ns == LineState.shed && wake }
  let r2 :=
    match ns with
    | .disabled | .shed | .testing | .faulted => { r1 with failures := 0 }
    | .inService => { r1 with failures := 0, idleFlag := false, idleTimer := true }
    | .waiting | .training | .hold => r1
  r2.powerTo (powerModeOf ns wake)

/-- The line states whose entry requests a flush (R8). -/
def LineState.flushes : LineState → Bool
  | .waiting | .shed | .disabled | .testing | .faulted => true
  | .training | .hold | .inService => false

/-- A port leaves its line state for another (R3, R4, R8, R11, R14, R43, R87, R90). The mark lost says that the port
leaves at a SIGNAL_LOST, at which no ABANDON is sent (R31). -/
def changeState (p : PortId) (ns : LineState) (wake lost : Bool) (s : State) : State :=
  let old := s.port p
  let s1 := s.setPort p ((old.leave ns lost).enter ns wake)
  let s2 :=
    if old.lineState = .inService then
      let t := uscLeave p s1
      { t with fst := { t.fst with pull := tset t.fst.pull p false } }
    else s1
  let s3 := if ns.flushes then flushPort p s2 else s2
  let s4 := if ns = .shed then countPort p .sheds 1 s3 else s3
  if ns = .inService then uscEnterService p s4 else s4

/-- Where R12 sends a port that some rule sends to WAITING: the line state and the wake watch. -/
def waitTarget (cabinet : Supply) (priority : Bool) : LineState × Bool :=
  match cabinet with
  | .mains | .battery => (.waiting, false)
  | .low => (.shed, true)
  | .critical => (.shed, priority)

/-- A port goes to WAITING, or to SHED where the supply state requires it (R12). -/
def toWaiting (p : PortId) (lost : Bool) (s : State) : State :=
  let t := waitTarget s.smn.cabinet (s.port p).priority
  changeState p t.1 t.2 lost s

/-! ## Relays (R5) -/

/-- A service relay's open command is carried out on arrival. From then on the drive obeys the commands, and the reset hold
closes it no more (DESIGN CHOICE, log 19). -/
def openService (p : PortId) (s : State) : State :=
  s.modPort p (fun r => { r with serviceClosed := false, serviceHeld := false })

/-- A test relay's open command is carried out on arrival. -/
def openTest (p : PortId) (s : State) : State := s.modPort p (fun r => { r with testClosed := false })

/-- A service relay's close command is carried out only while the pair's test relay is open. -/
def closeService (p : PortId) (s : State) : State :=
  if (s.port p).testClosed then s else s.modPort p (fun r => { r with serviceClosed := true })

/-- A test relay's close command is carried out only while the pair's service relay is open and no other port's test relay
is closed. -/
def closeTest (p : PortId) (s : State) : State :=
  if (s.port p).serviceClosed || allPorts.any (fun q => q != p && (s.port q).testClosed) then s
  else s.modPort p (fun r => { r with testClosed := true })

/-! ## Training (R23 to R35) -/

/-- TRAIN is sent with the next attempt number and the train timer starts (R24). -/
def Port.startTraining (r : Port) : Port :=
  let n := r.attempt + 1
  { (r.send (.train n)) with attempt := n, phase := .report, profile := none, trainTimer := true, readyTimer := false }

/-- A training attempt begins (R24): HOLD where the binder is claimed, and TRAIN otherwise. -/
def beginAttempt (p : PortId) (s : State) : State :=
  if s.claimed (s.port p).binder then changeState p .hold false false s
  else
    let t := if (s.port p).lineState = .training then s else changeState p .training false false s
    t.modPort p Port.startTraining

/-- The port's ceiling (R27): the larger of the supply ceiling and the test ceiling. -/
def ceilingOf (s : State) (p : PortId) : Nat :=
  max (if s.smn.cabinet = .mains then 0 else s.cfg.batteryCeiling) (s.port p).testCeiling

/-- Whether a profile suits a report and a loop estimate (R27). -/
def profileSuits (q : Profile) (down up : Nat) (loop : Option Nat) : Bool :=
  q.present && decide (q.minDown ≤ down) && decide (q.minUp ≤ up)
    && (match loop with
        | none => true
        | some m => q.maxLoop == 0 || decide (m ≤ q.maxLoop))

/-- The indexes of the profile table, in order. -/
def profileIndexes : List (Fin 8) := [0, 1, 2, 3, 4, 5, 6, 7]

/-- Profile selection (R27): the first suitable profile from the ceiling up. -/
def selectProfile (profiles : Tbl Profile 8) (ceiling down up : Nat) (loop : Option Nat) : Option (Fin 8) :=
  profileIndexes.find? (fun i => decide (ceiling ≤ i.val) && profileSuits (tget profiles i) down up loop)

/-- The auto-test request of a third failure, where its conditions hold (R30). -/
def placeAutoTest (p : PortId) (s : State) : State :=
  let busy := s.tsq.queue.any (fun q => q.port == p)
    || (match s.tsq.running with
        | some t => t.req.port == p
        | none => false)
  if s.cfg.autoTest && s.smn.cabinet == .mains && !busy && decide (s.tsq.queue.length < 16) then
    let q : TestReq :=
      { port := p, kind := .lineCheck, intrusive := true, tone := none, origin := .auto, arrival := s.tsq.arrivals }
    { s with tsq := { s.tsq with queue := s.tsq.queue ++ [q], arrivals := s.tsq.arrivals + 1 } }
  else s

/-- The record of a failed attempt (R29): the timer stops, the cause is written, ABANDON is sent but after TRAIN_FAIL. -/
def Port.failed (cause : FailCause) (r : Port) : Port :=
  let t := if cause = .trainFail then r else r.send .abandon
  { t with
    trainTimer := false
    readyTimer := false
    lastCause := cause
    failures := r.failures + 1
    profile := none
    phase := .none }

/-- A training attempt fails (R29, R30). -/
def trainingFailure (p : PortId) (cause : FailCause) (s : State) : State :=
  let s1 := countPort p .trainFails 1 (s.modPort p (Port.failed cause))
  if (s1.port p).failures < 3 then beginAttempt p s1
  else
    let s2 := s1.modPort p (fun r => { r with failures := 0 })
    placeAutoTest p (toWaiting p false s2)

/-- A retrain of a port in service (R35). -/
def retrainPort (p : PortId) (s : State) : State := beginAttempt p (countPort p .retrains 1 s)

/-- A claim enters the table for a binder: its TRAINING ports are abandoned to HOLD (R32). -/
def claimEntered (b : BinderId) (s : State) : State :=
  forPorts allPorts
    (fun p t => if (t.port p).binder = b ∧ (t.port p).lineState = .training then changeState p .hold false false t else t)
    s

/-- A binder's entry becomes FREE: its HOLD ports begin a training attempt (R33). -/
def claimFreed (b : BinderId) (s : State) : State :=
  forPorts allPorts
    (fun p t => if (t.port p).binder = b ∧ (t.port p).lineState = .hold then beginAttempt p t else t)
    s

/-! ## The events of the line-port link -/

/-- ACTIVITY on, by the port's line state (R23, R154). -/
def activityOnPort (p : PortId) (s : State) : State :=
  let r := s.port p
  match r.lineState with
  | .waiting => s.setPort p { r with persistTimer := true }
  | .shed =>
    if !r.wakeWatch then s
    else if r.reportAwaited then s.setPort p { r with reportAwaited := false }
    else if r.wakeArmed then beginAttempt p s
    else s
  | .disabled | .training | .hold | .inService | .testing | .faulted => s

/-- ACTIVITY off, by the port's line state (R23, R33, R154). -/
def activityOffPort (p : PortId) (s : State) : State :=
  let r := s.port p
  match r.lineState with
  | .waiting => s.setPort p { r with persistTimer := false }
  | .hold => toWaiting p false s
  | .shed => if r.wakeWatch then s.setPort p { r with reportAwaited := false, wakeArmed := true } else s
  | .disabled | .training | .inService | .testing | .faulted => s

/-- The persistence timer expires (R23). -/
def persistenceExpires (p : PortId) (s : State) : State :=
  let r := s.port p
  if r.lineState = .waiting ∧ r.persistTimer = true then beginAttempt p s else s

/-- A TRAIN_REPORT arrives (R21, R25). -/
def takeReport (p : PortId) (attempt : Byte) (rep : Report) (s : State) : State :=
  let r := s.port p
  if r.lineState = .training ∧ r.attempt = attempt ∧ r.phase = .report then
    let s1 := s.setPort p { r with trainTimer := false, lastReport := some rep }
    match selectProfile s.cfg.profiles (ceilingOf s p) rep.down.toNat rep.up.toNat r.loopEst with
    | some i =>
      let q := tget s.cfg.profiles i
      s1.modPort p (fun r1 =>
        { (r1.send (.commit r1.attempt i q.minDown q.minUp)) with
          profile := some i, phase := .ready, readyTimer := true })
    | none => trainingFailure p .noProfile s1
  else s

/-- A TRAIN_FAIL arrives (R21, R29). -/
def takeTrainFail (p : PortId) (attempt : Byte) (s : State) : State :=
  let r := s.port p
  if r.lineState = .training ∧ r.attempt = attempt ∧ r.phase ≠ .none then trainingFailure p .trainFail s else s

/-- The train timer expires (R29). -/
def trainTimerExpires (p : PortId) (s : State) : State :=
  let r := s.port p
  if r.lineState = .training ∧ r.phase = .report ∧ r.trainTimer = true then trainingFailure p .trainTimeout s else s

/-- The ready timer expires (R29). -/
def readyTimerExpires (p : PortId) (s : State) : State :=
  let r := s.port p
  if r.lineState = .training ∧ r.phase = .ready ∧ r.readyTimer = true then trainingFailure p .readyTimeout s else s

/-- A READY arrives (R21, R28). -/
def takeReady (p : PortId) (attempt : Byte) (s : State) : State :=
  let r := s.port p
  if r.lineState = .training ∧ r.attempt = attempt ∧ r.phase = .ready then changeState p .inService false false s else s

/-- A MARGIN report arrives (R34). -/
def takeMargin (p : PortId) (level : Nat) (s : State) : State :=
  let r := s.port p
  if r.lineState = .inService ∧ s.claimed r.binder = false then
    if level < s.cfg.retrainThreshold then
      let t := s.setPort p { r with marginLow := r.marginLow + 1 }
      if r.marginLow + 1 < 3 then t else retrainPort p t
    else s.setPort p { r with marginLow := 0 }
  else s

/-- A FAR_FAULT arrives (R36). -/
def takeFarFault (p : PortId) (s : State) : State :=
  match (s.port p).lineState with
  | .waiting | .training | .hold | .inService => raiseNotice .portFault (countPort p .farFaults 1 s)
  | .disabled | .testing | .shed | .faulted => s

/-- A SIGNAL_LOST arrives (R21, R31, R36). -/
def takeSignalLost (p : PortId) (attempt : Byte) (s : State) : State :=
  let r := s.port p
  if (r.lineState = .training ∨ r.lineState = .inService) ∧ r.attempt = attempt then toWaiting p true s else s

/-- A FRAME_REQUEST arrives (R43). -/
def takeFrameRequest (p : PortId) (s : State) : State :=
  if (s.port p).lineState = .inService then
    if (tget s.fst.down p).isEmpty then { s with fst := { s.fst with pull := tset s.fst.pull p true } }
    else handOver p s
  else s

/-- The idle timer expires (R10, R153). -/
def idleTimerExpires (p : PortId) (s : State) : State :=
  let r := s.port p
  if r.lineState = .inService ∧ r.idleTimer = true then
    let t := s.setPort p { r with idleFlag := true, idleTimer := false }
    if s.smn.cabinet = .low ∨ (s.smn.cabinet = .critical ∧ r.priority = true) then changeState p .shed true false t else t
  else s

/-! ## The cabinet supply state (R150 to R152) -/

/-- The wake watch of a SHED port changes without a new entry (R11, R150, R151). -/
def setWakeWatch (wake : Bool) (p : PortId) (s : State) : State :=
  let r := s.port p
  if r.wakeWatch = wake then s
  else
    let r1 := { r with wakeWatch := wake, wakeArmed := false, reportAwaited := false }
    s.setPort p (r1.powerTo (powerModeOf .shed wake))

/-- A port's move when the cabinet supply state becomes LOW (R150). -/
def shedForLow (p : PortId) (s : State) : State :=
  let r := s.port p
  match r.lineState with
  | .waiting => changeState p .shed true false s
  | .inService => if r.idleFlag then changeState p .shed true false s else s
  | .shed => setWakeWatch true p s
  | .disabled | .training | .hold | .testing | .faulted => s

/-- A port's move when the cabinet supply state becomes CRITICAL (R151). -/
def shedForCritical (p : PortId) (s : State) : State :=
  let r := s.port p
  if r.priority then shedForLow p s
  else
    match r.lineState with
    | .waiting | .training | .hold | .inService => changeState p .shed false false s
    | .shed => setWakeWatch false p s
    | .disabled | .testing | .faulted => s

/-- A port's move when the cabinet supply state becomes BATTERY or MAINS (R152). -/
def supplyReturns (p : PortId) (s : State) : State :=
  if (s.port p).lineState = .shed then changeState p .waiting false false s else s

/-- LSV's moves at a change of the cabinet supply state (R150 to R152). -/
def lsvSupply (new : Supply) (s : State) : State :=
  match new with
  | .low => forPorts allPorts shedForLow s
  | .critical => forPorts allPorts shedForCritical s
  | .mains | .battery => forPorts allPorts supplyReturns s

end Sys2Proof.Machine
end

