-- ==== Sys2Proof/Machine/Claims.lean ====
section
/-! DEFINITION. The Claim Table (R99 to R112). -/

namespace Sys2Proof.Machine

/-- What the Claim Table tells the Test Sequencer of the card's own claim (R100). -/
inductive ClaimWord where
  | nothing | held | lost | clash
  deriving DecidableEq, Repr

/-- A binder's entry. -/
def State.claim (s : State) (b : BinderId) : ClaimEntry := tget s.clt.entries b

/-- An entry is written, and LSV is told where the binder becomes claimed or free (R100). -/
def setClaim (b : BinderId) (e : ClaimEntry) (s : State) : State :=
  let t := { s with clt := { s.clt with entries := tset s.clt.entries b e } }
  if s.claimed b then
    if t.claimed b then t else claimFreed b t
  else
    if t.claimed b then claimEntered b t else t

/-- The own claim context is written. -/
def setOwnClaim (c : Option (BinderId × ClaimStep)) (s : State) : State := { s with clt := { s.clt with own := c } }

/-- A claim's hold time in milliseconds (R101). -/
def holdTime (duration : Byte) : Nat := duration.toNat * 100 + 500

/-- The entry that a peer's claim gives (R101). -/
def peerClaim (y : StationId) (held : Bool) (duration : Byte) : ClaimEntry :=
  { phase := if held then .held else .pending, claimant := some y, remaining := holdTime duration, own := false }

/-- The entry of the card's own claim (R106, R108). -/
def ownClaim (station : StationId) (held : Bool) : ClaimEntry :=
  { phase := if held then .held else .pending, claimant := some station, remaining := 0, own := true }

/-- Whether the claim of X, which the entry holds, is kept against Y's (R102). -/
def keepsFirst (xHeld yHeld : Bool) (x y : StationId) : Bool :=
  match xHeld, yHeld with
  | false, false => decide (x < y)
  | true, false => true
  | false, true => false
  | true, true => decide (x < y)

/-- CLAIM_CLASHES is counted and CLAIM_CLASH raised (R102, R109). -/
def noteClash (s : State) : State := raiseNotice .claimClash (countCard .claimClashes s)

/-- The duration that the card's claims carry (R101, R106). -/
def ownDuration : Byte := 20

/-- The placement of the card's own CLAIM (R60, R106, R108, R109). -/
def placeOwnClaim (b : BinderId) (held : Bool) (s : State) : State :=
  s.modCtrl (ctrlPlaceClaim (.claim b held ownDuration))

/-- The own claim ends without a RELEASE (R110); the entry is the caller's to write. -/
def withdrawClaim (b : BinderId) (s : State) : State := (setOwnClaim none s).modCtrl (ctrlRemoveClaim b)

/-- A peer's CLAIM meets an entry that holds another peer's claim (R102). -/
def meetPeerClaim (b : BinderId) (x y : StationId) (held : Bool) (duration : Byte) (s : State) : State :=
  let xHeld := (s.claim b).phase == .held
  let s1 := if xHeld && held then noteClash s else s
  if keepsFirst xHeld held x y then s1 else setClaim b (peerClaim y held duration) s1

/-- A peer's CLAIM meets the card's own claim (R109). -/
def meetOwnClaim (b : BinderId) (y : StationId) (held : Bool) (duration : Byte) (s : State) : State × ClaimWord :=
  let ownHeld := (s.claim b).phase == .held
  let keep := keepsFirst ownHeld held s.stc.station y
  if !ownHeld then
    if keep then (s, .nothing)
    else (setClaim b (peerClaim y held duration) (withdrawClaim b s), .lost)
  else if !held then (placeOwnClaim b true s, .nothing)
  else
    let s1 := noteClash s
    if keep then (placeOwnClaim b true s1, .nothing)
    else (setClaim b (peerClaim y held duration) (setOwnClaim (some (b, .lost)) s1), .clash)

/-- A CLAIM delivered from a peer is taken into its entry (R101). -/
def takeClaim (y : StationId) (b : BinderId) (held : Bool) (duration : Byte) (s : State) : State × ClaimWord :=
  let e := s.claim b
  if e.phase = .free then (setClaim b (peerClaim y held duration) s, .nothing)
  else if e.own then meetOwnClaim b y held duration s
  else
    match e.claimant with
    | some x =>
      if x = y then (setClaim b (peerClaim y held duration) s, .nothing) else (meetPeerClaim b x y held duration s, .nothing)
    | none => (setClaim b (peerClaim y held duration) s, .nothing)

/-- A RELEASE delivered from a peer frees its entry where the entry names that peer (R103). -/
def takeRelease (y : StationId) (b : BinderId) (s : State) : State :=
  let e := s.claim b
  if e.phase ≠ .free ∧ e.own = false ∧ e.claimant = some y then setClaim b ClaimEntry.vacant s else s

/-- A peer's claim whose last millisecond runs (R104): a refresh restores its time, and the card's own claim does not
expire. -/
def ClaimEntry.runsOut (e : ClaimEntry) : Bool := e.phase != .free && !e.own && decide (e.remaining ≤ 1)

/-- The remaining time of a peer's claim reaches 0 (R104; log 3). -/
def expireClaim (b : BinderId) (s : State) : State :=
  if (s.claim b).runsOut then setClaim b ClaimEntry.vacant s else s

/-- A claim table entry one millisecond later: the remaining time of a peer's claim falls by 1 (R104). -/
def ClaimEntry.tick (e : ClaimEntry) : ClaimEntry :=
  if e.phase ≠ .free ∧ e.own = false then { e with remaining := e.remaining - 1 } else e

/-- One millisecond passes (R104; log 3): the claims whose time reaches 0 expire, in ascending order of their binders, and
the remaining time of the others falls. -/
def idleTick (s : State) : State :=
  let t := allBinders.foldl (fun u b => expireClaim b u) s
  { t with clt := { t.clt with entries := t.clt.entries.map ClaimEntry.tick } }

/-- TSQ asks for a binder (R106); none where the request fails with "lost". -/
def requestClaim (b : BinderId) (s : State) : Option State :=
  if s.clt.own = none ∧ s.claimed b = false then
    some (setClaim b (ownClaim s.stc.station false) (placeOwnClaim b false (setOwnClaim (some (b, .sending)) s)))
  else none

/-- The end of a CLAIM that the card has sent (R107). -/
def claimSent (ok : Bool) (b : BinderId) (held : Bool) (s : State) : State × ClaimWord :=
  if !held ∧ s.clt.own = some (b, .sending) then
    if ok then (setOwnClaim (some (b, .settling)) s, .nothing)
    else (setClaim b ClaimEntry.vacant (withdrawClaim b s), .lost)
  else (s, .nothing)

/-- The settle timer expires (R108). -/
def settleExpires (s : State) : State × ClaimWord :=
  match s.clt.own with
  | some (b, .settling) =>
    (setClaim b (ownClaim s.stc.station true) (placeOwnClaim b true (setOwnClaim (some (b, .held)) s)), .held)
  | _ => (s, .nothing)

/-- The renewal timer expires (R108). -/
def renewalExpires (s : State) : State :=
  match s.clt.own with
  | some (b, .held) => placeOwnClaim b true s
  | _ => s

/-- The placement of a RELEASE (R60). -/
def placeRelease (b : BinderId) (retried : Bool) (s : State) : State := s.modCtrl (ctrlPlaceRelease b retried)

/-- TSQ gives up the own claim (R111). A SENDING claim whose CLAIM is neither on the control list nor in hand, since a
retried RELEASE for the same binder removed it there (R60, R61), has no row in R111's table; the model frees its entry and
places a RELEASE, as where the CLAIM is in hand (DESIGN CHOICE, log 39). -/
def giveUpClaim (s : State) : State :=
  match s.clt.own with
  | none => s
  | some (b, .sending) =>
    if s.bau.ctrl.any (CtrlItem.isClaimFor b) then setClaim b ClaimEntry.vacant (withdrawClaim b s)
    else setClaim b ClaimEntry.vacant (placeRelease b false (setOwnClaim none s))
  | some (b, .settling) => setClaim b ClaimEntry.vacant (placeRelease b false (setOwnClaim none s))
  | some (b, .held) => setClaim b ClaimEntry.vacant (placeRelease b false (setOwnClaim none s))
  | some (b, .lost) => placeRelease b false (setOwnClaim none s)

end Sys2Proof.Machine
end

