-- ==== Sys2Proof/Machine/Measurement.lean ====
section
/-! DEFINITION. The Measurement Unit: the converter's arbiter, the stages' start and stop, and their arithmetic (R129 to
R142). -/

namespace Sys2Proof.Machine

/-! ## The arbiter and the stages' start and stop -/

/-- The stages that request the converter (R130). -/
def Stage.usesConverter : Stage → Bool
  | .foreignVoltage | .insulation | .reflection | .noise => true
  | .capacitance | .tone => false

/-- What a stage does at its grant (R136, R137, R139, R141): its input is selected, and INSULATION applies the stimulus. -/
def atGrant (s : State) : State :=
  match s.msu.run with
  | .ins _ _ _ => { s with msu := { s.msu with pairSelect := .ab, drive := .stimulus s.cfg.vS .ab } }
  | _ => { s with msu := { s.msu with pairSelect := .ab } }

/-- The arbiter grants a free converter: to the waiting SUPPLY request if there is one, otherwise to the waiting STAGE
request (R130). A supply sample's grant selects the DC bus and leaves a stimulus on A-B (DESIGN CHOICE, log 35). -/
def grantConverter (s : State) : State :=
  if s.msu.holder ≠ .none then s
  else if s.msu.supplyWaiting then
    { s with msu := { s.msu with holder := .supply, supplyWaiting := false, pairSelect := .dcBus } }
  else if s.msu.stageWaiting then atGrant { s with msu := { s.msu with holder := .stage, stageWaiting := false } }
  else s

/-- The Supply Monitor's request (R130, R145): one already waiting or in progress is the same request. -/
def requestSupply (s : State) : State :=
  if s.msu.holder = .supply ∨ s.msu.supplyWaiting = true then s
  else grantConverter { s with msu := { s.msu with supplyWaiting := true } }

/-- The running stage ends: the stimulus is off, the generator silent, the capture timer stopped, and the converter
released or its request withdrawn (R131, R132). -/
def releaseStage (s : State) : State :=
  { s with msu := { s.msu with
      run := .none
      drive := .off
      capRunning := false
      candidate := none
      blanked := false
      stageWaiting := false
      holder := if s.msu.holder = .stage then .none else s.msu.holder } }

/-- The running stage is stopped; a release grants a waiting supply sample (R131). -/
def stopStage (s : State) : State := grantConverter (releaseStage s)

/-- A stage starts (R120, R130): it requests the converter, or starts at once without it. The grant is the caller's. -/
def startStage (st : Stage) (tone : Option ToneSpec) (s : State) : State :=
  match st with
  | .foreignVoltage => { s with msu := { s.msu with run := .fv [] [], stageWaiting := true } }
  | .insulation => { s with msu := { s.msu with run := .ins true [] [], stageWaiting := true } }
  | .capacitance => { s with msu := { s.msu with run := .cap .opening, drive := .discharge } }
  | .reflection => { s with msu := { s.msu with run := .refl 0 [], stageWaiting := true } }
  | .noise => { s with msu := { s.msu with run := .noise [], stageWaiting := true } }
  | .tone =>
    match tone with
    | some spec => { s with msu := { s.msu with run := .tone spec 0, drive := .tone spec.freq 8 } }
    | none => s

/-! ## Arithmetic of the stages -/

/-- The mean of n samples, rounded half up (R136, R137, R141; 00 section 7). -/
def meanOf (n : Nat) (samples : List Int) : Int := (samples.sum + (n / 2 : Nat)) / (n : Int)

/-- The largest magnitude among some samples (R136). -/
def peakOf (samples : List Int) : Nat := samples.foldl (fun m x => max m x.natAbs) 0

/-- Mean and peak of one input's 64 samples (R136). -/
def voltFigure (samples : List Int) : VoltFigure := { mean := meanOf 64 samples, peak := peakOf samples }

/-- The resistance of one path in ohms (R137). -/
def resistance (rRef vS : Nat) (vl : Int) : Nat :=
  if vl ≤ 0 then 0
  else if (vS : Int) - vl ≤ 0 then 10000000
  else min 10000000 (rRef * vl.toNat / ((vS : Int) - vl).toNat)

/-- The class of a resistance (R137). -/
def insClass (threshold ohms : Nat) : InsClass :=
  if ohms < 200 then .short else if ohms < threshold then .leak else .good

/-- Resistance and class of one input's 64 samples (R137). -/
def insFigure (c : Cfg) (samples : List Int) : InsFigure :=
  let r := resistance c.rRef c.vS (meanOf 64 samples)
  { ohms := r, cls := insClass c.insulationThreshold r }

/-- The CAPACITANCE figures of a crossing captured at τ microseconds (R138). -/
def capFigures (c : Cfg) (tau : Nat) : CapPart :=
  let nf := tau * 1000 / c.rRef
  .measured nf (min 65535 (nf * 1000 / c.capPerKm))

/-- The reference of CAPACITANCE's comparator, in codes (R138). -/
def capReference (c : Cfg) : Nat := c.vS * 632 / 1000

/-- The reference of REFLECTION's comparator, in codes of magnitude (R139). -/
def reflReference (c : Cfg) : Nat := c.vS / 16

/-- The blanking interval of a shot, in ticks (R139). -/
def blankingTicks (c : Cfg) : Nat := 25 * c.pulseWidth + 50

/-- The window end of a shot, in ticks (R139). -/
def windowEnd (c : Cfg) : Nat := (c.maxDistance * 50 + c.velocity - 1) / c.velocity

/-- The polarity of a conversion: OPEN for a positive or zero code (R139). -/
def polarityOf (code : Int) : Polarity := if 0 ≤ code then .openEnd else .short

/-- The echoes among the shots. -/
def echoesOf (shots : List (Option Echo)) : List Echo := shots.filterMap id

/-- The polarity held by more of some echoes, and the first echo's where they are even (R140). -/
def majorityPolarity (es : List Echo) : Polarity :=
  let opens := es.countP (fun e => e.polarity == .openEnd)
  let shorts := es.countP (fun e => e.polarity == .short)
  if opens > shorts then .openEnd
  else if shorts > opens then .short
  else
    match es with
    | e :: _ => e.polarity
    | [] => .openEnd

/-- The distance of an echo time, in metres (R140). -/
def distanceOf (c : Cfg) (ticks : Nat) : Nat := (ticks * c.velocity + 25) / 50

/-- The distance between two whole numbers. -/
def absDiff (a b : Nat) : Nat := (a - b) + (b - a)

/-- The class of a distance against the loop estimate (R140). -/
def reflClass (distance : Nat) : Option Nat → ReflClass
  | some e => if absDiff distance e ≤ e / 20 then .lineEnd else .faultPoint
  | none => .faultPoint

/-- The REFLECTION result of four shots (R140). -/
def reflResult (c : Cfg) (estimate : Option Nat) (shots : List (Option Echo)) : ReflPart :=
  let es := echoesOf shots
  match es.length with
  | 0 => .noReflection
  | 1 => .inconsistent
  | 2 => .inconsistent
  | n =>
    let t := (es.map Echo.ticks).sum / n
    let d := distanceOf c t
    .located d (reflClass d estimate) (majorityPolarity es)

/-- The NOISE result of 256 samples (R141). -/
def noiseResult (c : Cfg) (samples : List Int) : NoisePart :=
  let m := meanOf 256 samples
  let level := (samples.map (fun x => (x - m).natAbs)).sum / 256
  { level := level, noisy := decide (c.noiseThreshold < level) }

/-- A burst width in milliseconds (R113). -/
def BurstWidth.ms : BurstWidth → Nat
  | .ms125 => 125
  | .ms250 => 250
  | .ms500 => 500
  | .ms1000 => 1000

/-- The whole minutes that some eighths of a burst width make, at most the requested duration (R142; log 20). -/
def toneMinutes (spec : ToneSpec) (steps : Nat) : Nat := min spec.minutes (steps * spec.width.ms / 480000)

/-- The tone's envelope after some eighths of a cycle of one burst and one silence (R142). -/
def toneDrive (spec : ToneSpec) (steps : Nat) : Drive :=
  let k := steps % 16
  if k < 8 then .tone spec.freq (8 - k) else .off

/-- Whether a CROSSING_CONFIRMED or a fall can come of a candidate before the limit: its filter length ends at or before
it (R133). -/
def confirmsBy (filter limit tick : Nat) : Bool := decide (tick + filter ≤ limit)

/-- The running stage's limit of the capture timer (R133). -/
def captureLimitOf (s : State) : Nat :=
  match s.msu.run with
  | .refl _ _ => windowEnd s.cfg
  | _ => 65535

/-- The capture timer starts from 0 at a rate, with the comparator's reference set (R133, R138, R139). -/
def startCapture (fast : Bool) (reference : Nat) (s : State) : State :=
  { s with msu := { s.msu with
      capRunning := true, capFast := fast, candidate := none, blanked := !fast, capRef := reference } }

end Sys2Proof.Machine
end

