-- ==== Sys2Proof/Machine/Sequencer.lean ====
section
/-! DEFINITION. The Test Sequencer: the queue, the start choice, the sequence of one test, aborts, hazards and the end of a
test (R113 to R128). -/

namespace Sys2Proof.Machine

/-! ## The running test -/

/-- The running test context is written. -/
def setRunning (t : Option Running) (s : State) : State := { s with tsq := { s.tsq with running := t } }

/-- The stages of a kind, in order (R120). -/
def stagesOf : TestKind → List Stage
  | .lineCheck => [.foreignVoltage, .insulation, .capacitance, .reflection, .noise]
  | .quickCheck => [.foreignVoltage, .insulation]
  | .tone => [.tone]

/-- The quiet stages, which a clash leaves out (R125). -/
def Stage.quiet : Stage → Bool
  | .reflection | .noise => true
  | .foreignVoltage | .insulation | .capacitance | .tone => false

/-- The first item after another in a list. -/
def itemAfter (x : Stage) : List Stage → Option Stage
  | a :: b :: rest => if a = x then some b else itemAfter x (b :: rest)
  | _ => none

/-- The stage that follows the one completed: none after the last, and none where a clash leaves only quiet stages
(R120, R125). -/
def nextStage (t : Running) : Option Stage :=
  match t.stage with
  | none => none
  | some st =>
    match itemAfter st (stagesOf t.req.kind) with
    | some n => if t.clash && n.quiet then none else some n
    | none => none

/-- The outcome at entry to RESTORING (R126, lines 2 to 6). -/
def decideOutcome (t : Running) : TestOutcome :=
  if t.abort.isSome then .aborted
  else if t.faultFound then .fault
  else if t.clash then .disturbed
  else if t.req.kind = .tone then .completed
  else .pass

/-- Whether the port is to stay FAULTED (R19, R121, R128): the test came from FAULTED and no FOREIGN_VOLTAGE stage of it
completed without a hazard finding. -/
def staysFaulted (t : Running) : Bool := t.fromFaulted && t.parts.fv.isNone

/-- The context with the minutes a TONE stage has delivered (R120, R142). -/
def withToneMinutes (run : StageRun) (t : Running) : Running :=
  match run with
  | .tone spec steps => { t with parts := { t.parts with tone := some (toneMinutes spec steps) } }
  | _ => t

/-- The port-table writes of a completed CAPACITANCE part and a completed NOISE part (R15). -/
def Port.learn (ps : Parts) (r : Port) : Port :=
  let r1 :=
    match ps.cap with
    | some (.measured _ m) => { r with loopEst := some m }
    | _ => r
  match ps.noise with
  | some n => { r1 with testCeiling := if n.noisy then 1 else 0 }
  | none => r1

/-- The result record of a test (R127). -/
def recordOf (t : Running) (o : TestOutcome) : TestRecord :=
  { seq := t.seq, kind := t.req.kind, origin := t.req.origin, outcome := o,
    cause := if o = .aborted then t.abort else none, parts := t.parts }

/-- Where the port goes at the end of its test (R128). -/
def portAfterTest (t : Running) (o : TestOutcome) (s : State) : State :=
  let p := t.req.port
  if (s.port p).lineState = .testing then
    if o = .hazard ∨ staysFaulted t = true then changeState p .faulted false false s
    else if (s.port p).admin then toWaiting p false s
    else changeState p .disabled false false s
  else s

/-- The notices of a test's end (R128). -/
def noticesOfEnd (o : TestOutcome) (s : State) : State :=
  let s1 := raiseNotice .testDone s
  match o with
  | .hazard => raiseNotice .hazard s1
  | .fault => raiseNotice .portFault s1
  | .pass | .disturbed | .aborted | .completed => s1

/-- The end-of-test step (R128): the claim is given up, the result and the port-table writes are made, the notices are
raised, the port moves, and the sequencer becomes IDLE. The start choice is the caller's. -/
def endTest (s : State) : State :=
  match s.tsq.running with
  | none => s
  | some t =>
    let o := t.outcome.getD (decideOutcome t)
    let s1 := if t.req.kind = .lineCheck then giveUpClaim s else s
    let s2 := { s1 with tsq := { s1.tsq with results := tset s1.tsq.results t.req.port (some (recordOf t o)) } }
    let s3 := s2.modPort t.req.port (Port.learn t.parts)
    let s4 := portAfterTest t o (noticesOfEnd o s3)
    setRunning none { s4 with msu := { s4.msu with hazardArmed := false } }

/-- The entry to RESTORING (R121): the outcome is decided, the test relay commanded open, and the dead-time timer runs, on
from ISOLATING or started anew (log 18). -/
def enterRestoring (s : State) : State :=
  match s.tsq.running with
  | none => s
  | some t =>
    setRunning
      (some { t with st := .restoring, stage := none, deadTimer := true, outcome := some (decideOutcome t) })
      (openTest t.req.port s)

/-- The hazard shutdown (R122): the stage is stopped, the test relay opened, the outcome becomes HAZARD, and the test
ends. -/
def hazardShutdown (s : State) : State :=
  match s.tsq.running with
  | none => s
  | some t =>
    let t1 := { withToneMinutes s.msu.run t with deadTimer := false, outcome := some .hazard }
    endTest (openTest t.req.port (setRunning (some t1) (stopStage s)))

/-- An abort, by the sequencer's state (R123). -/
def abortTest (cause : AbortCause) (s : State) : State :=
  match s.tsq.running with
  | none => s
  | some t =>
    match t.st with
    | .claiming => endTest (setRunning (some { t with abort := some cause }) s)
    | .isolating => enterRestoring (setRunning (some { t with abort := some cause }) s)
    | .measuring =>
      enterRestoring (setRunning (some { withToneMinutes s.msu.run t with abort := some cause }) (stopStage s))
    | .restoring => s

/-- The entry to ISOLATING (R119): the port goes to TESTING, its service relay is commanded open, and the dead-time timer
starts. -/
def enterIsolating (s : State) : State :=
  match s.tsq.running with
  | none => s
  | some t =>
    let p := t.req.port
    let t1 := { t with st := .isolating, fromFaulted := (s.port p).lineState == .faulted, deadTimer := true }
    setRunning (some t1) (openService p (changeState p .testing false false s))

/-- A request at its place among others in order of arrival (R113). -/
def insertByArrival (q : TestReq) : List TestReq → List TestReq
  | [] => [q]
  | x :: xs => if q.arrival < x.arrival then q :: x :: xs else x :: insertByArrival q xs

/-- The claim is lost in CLAIMING: the request is put back at its place and the sequencer becomes IDLE (R118). -/
def claimLost (s : State) : State :=
  match s.tsq.running with
  | none => s
  | some t =>
    if t.st = .claiming then
      { s with tsq := { s.tsq with queue := insertByArrival t.req s.tsq.queue, running := none } }
    else s

/-- The claim is held: the sequencer leaves CLAIMING for ISOLATING (R118). -/
def claimHeld (s : State) : State :=
  match s.tsq.running with
  | none => s
  | some t => if t.st = .claiming then enterIsolating s else s

/-- A held-versus-held clash reaches the running test (R125). -/
def claimClashed (s : State) : State :=
  match s.tsq.running with
  | none => s
  | some t =>
    let s1 := setRunning (some { t with clash := true }) s
    match t.st, t.stage with
    | .measuring, some st => if st.quiet then enterRestoring (stopStage s1) else s1
    | _, _ => s1

/-- What the Claim Table tells of the card's own claim reaches the sequencer (R100, R118, R125). -/
def tellSequencer (r : State × ClaimWord) : State :=
  match r.2 with
  | .nothing => r.1
  | .held => claimHeld r.1
  | .lost => claimLost r.1
  | .clash => claimClashed r.1

/-! ## The start choice -/

/-- The kinds that may start in a cabinet supply state (R116). -/
def kindMayStart (cabinet : Supply) (k : TestKind) : Bool :=
  match cabinet, k with
  | .mains, _ => true
  | .battery, .quickCheck => true
  | .battery, .tone => true
  | .low, .tone => true
  | _, _ => false

/-- Whether a port is one of those that a request without the intrusive flag may not take (R114, R116). -/
def LineState.engaged : LineState → Bool
  | .inService | .training | .hold => true
  | .disabled | .waiting | .testing | .shed | .faulted => false

/-- Whether the start choice may take a request (R116). -/
def mayStart (s : State) (q : TestReq) : Bool :=
  kindMayStart s.smn.cabinet q.kind
    && (q.kind != .lineCheck || !s.claimed (s.port q.port).binder)
    && (q.intrusive || !(s.port q.port).lineState.engaged)

/-- The context of a test that starts (R117). -/
def newRunning (q : TestReq) (seq : Nat) : Running :=
  { req := q, seq := seq, st := .claiming, stage := none, parts := Parts.empty, faultFound := false,
    fromFaulted := false, clash := false, abort := none, deadTimer := false, outcome := none }

/-- A request taken by the start choice becomes the running test (R117). -/
def startTest (q : TestReq) (s : State) : State :=
  let n := (s.tsq.seq + 1) % 65536
  let s1 := { s with tsq := { s.tsq with
    queue := s.tsq.queue.erase q, seq := n, running := some (newRunning q n) } }
  if q.kind = .lineCheck then
    match requestClaim (s.port q.port).binder s1 with
    | some s2 => s2
    | none => claimLost s1
  else enterIsolating s1

/-- The start choice (R116): an IDLE sequencer in RUNNING starts the first request that may start. -/
def startChoice (s : State) : State :=
  if s.tsq.running = none ∧ s.stc.startState = .running then
    match s.tsq.queue.find? (mayStart s) with
    | some q => startTest q s
    | none => s
  else s

/-! ## Requests -/

/-- Whether a port has a request in the queue. -/
def Tsq.queued (t : Tsq) (p : PortId) : Bool := t.queue.any (fun q => q.port == p)

/-- Whether the running test is on a port. -/
def Tsq.runs (t : Tsq) (p : PortId) : Bool :=
  match t.running with
  | some r => r.req.port == p
  | none => false

/-- A request removed from the queue by its port (R115, R17). -/
def dequeuePort (p : PortId) (s : State) : State :=
  { s with tsq := { s.tsq with queue := s.tsq.queue.filter (fun q => q.port != p) } }

/-- A request joins the tail of the queue (R113, R114). -/
def enqueueTest (p : PortId) (k : TestKind) (intrusive : Bool) (tone : Option ToneSpec) (o : Origin) (s : State) :
    State :=
  let q : TestReq :=
    { port := p, kind := k, intrusive := intrusive, tone := tone, origin := o, arrival := s.tsq.arrivals }
  { s with tsq := { s.tsq with queue := s.tsq.queue ++ [q], arrivals := s.tsq.arrivals + 1 } }

/-! ## The stages under the sequencer -/

/-- The sequencer's next step after a stage completed and its part was stored (R120): the next stage starts, or RESTORING
is entered; the arbiter then grants. -/
def advance (s : State) : State :=
  match s.tsq.running with
  | none => s
  | some t =>
    match nextStage t with
    | some n => grantConverter (startStage n t.req.tone (setRunning (some { t with stage := some n }) s))
    | none => grantConverter (enterRestoring s)

/-- A stage completes: MSU releases what it holds, the sequencer stores the part and goes on (R120, R130). -/
def stageDone (store : Running → Running) (s : State) : State :=
  match s.tsq.running with
  | none => s
  | some t => advance (setRunning (some (store t)) (releaseStage s))

/-- Whether any of three values meets a test. -/
def Three.anyOf {α : Type} (f : α → Bool) (v : Three α) : Bool := f v.ab || f v.ae || f v.be

/-- FOREIGN_VOLTAGE completes (R136, R120): a hazard finding brings the shutdown with the part kept, a warning mean marks
the fault found. -/
def fvDone (v : Three VoltFigure) (s : State) : State :=
  let hazard := v.anyOf (fun f => decide (s.cfg.hazardThreshold < f.peak))
  let warn := v.anyOf (fun f => decide (s.cfg.warningThreshold < f.mean.natAbs))
  let store := fun t : Running => { t with parts := { t.parts with fv := some v }, faultFound := t.faultFound || warn }
  if hazard then
    match s.tsq.running with
    | none => s
    | some t => hazardShutdown (setRunning (some (store t)) s)
  else stageDone store s

/-- INSULATION completes (R137, R120). -/
def insDone (v : Three InsFigure) (s : State) : State :=
  let bad := v.anyOf (fun f => f.cls != .good)
  stageDone (fun t => { t with parts := { t.parts with ins := some v }, faultFound := t.faultFound || bad }) s

/-- CAPACITANCE completes (R138). -/
def capDone (v : CapPart) (s : State) : State :=
  stageDone (fun t => { t with parts := { t.parts with cap := some v } }) s

/-- The loop estimate that REFLECTION reads (R120): this test's CAPACITANCE length, or else the port's. -/
def estimateFor (t : Running) (s : State) : Option Nat :=
  match t.parts.cap with
  | some (.measured _ m) => some m
  | _ => (s.port t.req.port).loopEst

/-- Whether a REFLECTION result is a fault found (R120, R140). -/
def ReflPart.isFault : ReflPart → Bool
  | .located _ .faultPoint _ => true
  | _ => false

/-- REFLECTION completes with its four shots (R140). -/
def reflDone (shots : List (Option Echo)) (s : State) : State :=
  match s.tsq.running with
  | none => s
  | some t =>
    let v := reflResult s.cfg (estimateFor t s) shots
    stageDone (fun t => { t with parts := { t.parts with refl := some v }, faultFound := t.faultFound || v.isFault }) s

/-- NOISE completes (R141). -/
def noiseDone (v : NoisePart) (s : State) : State :=
  stageDone (fun t => { t with parts := { t.parts with noise := some v } }) s

/-- TONE completes with its whole duration (R142). -/
def toneDone (spec : ToneSpec) (s : State) : State :=
  stageDone (fun t => { t with parts := { t.parts with tone := some spec.minutes } }) s

end Sys2Proof.Machine
end

