-- ==== Sys2Proof/Machine/StageEvents.lean ====
section
/-! DEFINITION. What each measurement event does to the running stage (R129, R133, R134, R136 to R142), and the events of
the dead times and of the hazard comparator (R119, R121, R122). -/

namespace Sys2Proof.Machine

/-- The pair inputs in the order in which FOREIGN_VOLTAGE and INSULATION treat them (R136, R137). -/
def inputAt (n : Nat) : SenseInput :=
  match n with
  | 0 => .ab
  | 1 => .ae
  | _ => .be

/-- Three figures in the order of the inputs. -/
def threeOf {α : Type} : List α → Option (Three α)
  | [a, b, c] => some { ab := a, ae := b, be := c }
  | _ => none

/-- The progress of the running stage is written. -/
def setRun (r : StageRun) (s : State) : State := { s with msu := { s.msu with run := r } }

/-- The drive of the pair is written. -/
def setDrive (d : Drive) (s : State) : State := { s with msu := { s.msu with drive := d } }

/-- A FOREIGN_VOLTAGE sample (R136). -/
def fvSample (x : Int) (samples : List Int) (done : List VoltFigure) (s : State) : State :=
  let xs := x :: samples
  if xs.length < 64 then setRun (.fv xs done) s
  else
    let figs := done ++ [voltFigure xs]
    match threeOf figs with
    | some v => fvDone v s
    | none => setRun (.fv [] figs) { s with msu := { s.msu with pairSelect := inputAt figs.length } }

/-- An INSULATION sample after the settle time (R137). -/
def insSample (x : Int) (samples : List Int) (done : List InsFigure) (s : State) : State :=
  let xs := x :: samples
  if xs.length < 64 then setRun (.ins false xs done) s
  else
    let figs := done ++ [insFigure s.cfg xs]
    match threeOf figs with
    | some v => insDone v s
    | none =>
      let i := inputAt figs.length
      setRun (.ins true [] figs)
        { s with msu := { s.msu with pairSelect := i, drive := .stimulus s.cfg.vS i } }

/-- A NOISE sample (R141). -/
def noiseSample (x : Int) (samples : List Int) (s : State) : State :=
  let xs := x :: samples
  if xs.length < 256 then setRun (.noise xs) s else noiseDone (noiseResult s.cfg xs) s

/-- One conversion for the stage that holds the converter (R129). -/
def stageSampled (x : Int) (s : State) : State :=
  if s.msu.holder = .stage then
    match s.msu.run with
    | .fv samples done => fvSample x samples done s
    | .ins false samples done => insSample x samples done s
    | .noise samples => noiseSample x samples s
    | .ins true _ _ | .none | .cap _ | .refl _ _ | .tone _ _ => s
  else s

/-- The settle time of INSULATION's present input ends (R137). -/
def insulationSettled (s : State) : State :=
  match s.msu.holder, s.msu.run with
  | .stage, .ins true _ done => setRun (.ins false [] done) s
  | _, _ => s

/-- The stimulus is applied to A-B, which the pair select then names (R132); a supply conversion in progress keeps the
select until its end (DESIGN CHOICE, log 35). -/
def applyToAB (s : State) : State :=
  { s with msu := { s.msu with
      drive := .stimulus s.cfg.vS .ab
      pairSelect := if s.msu.holder = .supply then s.msu.pairSelect else .ab } }

/-- A discharge of CAPACITANCE ends (R138). -/
def dischargeEnds (s : State) : State :=
  match s.msu.run with
  | .cap .opening => startCapture false (capReference s.cfg) (applyToAB (setRun (.cap .running) s))
  | .cap (.closing v) => capDone v s
  | _ => s

/-- Whether a crossing that begins at a tick begins after the blanking interval; CAPACITANCE, at the slow rate, has none
(R138, R139). -/
def beginsUnblanked (s : State) (tick : Nat) : Bool := !s.msu.capFast || decide (blankingTicks s.cfg ≤ tick)

/-- The capture comparator's output changes (R133, R139): a rise while the timer runs, after the blanking, starts a
candidate, and a fall cancels it. -/
def comparatorChanges (above : Bool) (tick : Nat) (s : State) : State :=
  let m := s.msu
  let c :=
    if m.capRunning && m.blanked then
      if !above then none
      else if !m.capAbove && beginsUnblanked s tick then some tick
      else m.candidate
    else m.candidate
  { s with msu := { m with capAbove := above, candidate := c } }

/-- A CAPACITANCE run ends with a part: the stimulus is off and the closing discharge begins (R138). -/
def capRunEnds (v : CapPart) (s : State) : State :=
  { s with msu := { s.msu with
      run := .cap (.closing v), drive := .discharge, capRunning := false, candidate := none } }

/-- A REFLECTION shot's run ends, with its echo or with none; the fourth completes the stage (R139, R140). A pulse longer
than the run ends with it (DESIGN CHOICE, log 37). -/
def shotEnds (shots : Nat) (echoes : List (Option Echo)) (s : State) : State :=
  let s1 := { s with msu := { s.msu with
    run := .refl shots echoes, drive := .off, capRunning := false, candidate := none } }
  if echoes.length < 4 then s1 else reflDone echoes s1

/-- The crossing that is counted, if the candidate has one by the limit (R133). -/
def countedCrossing (s : State) : Option Nat :=
  match s.msu.candidate with
  | some t => if s.msu.capRunning && confirmsBy s.cfg.filterLength (captureLimitOf s) t then some t else none
  | none => none

/-- A crossing is confirmed and captured (R133, R138, R139). -/
def crossingCounts (code : Int) (s : State) : State :=
  match countedCrossing s, s.msu.run with
  | some t, .cap .running => capRunEnds (capFigures s.cfg t) s
  | some t, .refl n es => shotEnds n (es ++ [some { ticks := t, polarity := polarityOf code }]) s
  | _, _ => s

/-- The capture timer reaches its limit with no crossing counted (R133, R138, R139). -/
def captureLimitReached (s : State) : State :=
  if s.msu.capRunning && (countedCrossing s).isNone then
    match s.msu.run with
    | .cap .running => capRunEnds .aboveRange s
    | .refl n es => shotEnds n (es ++ [none]) s
    | _ => s
  else s

/-- The blanking interval of a shot ends (R139): the level then read is its starting level, and the pulse is over
(log 21). -/
def blankingEnds (above : Bool) (s : State) : State :=
  match s.msu.run with
  | .refl _ _ =>
    if s.msu.capRunning && !s.msu.blanked then
      { s with msu := { s.msu with blanked := true, capAbove := above, candidate := none, drive := .off } }
    else s
  | _ => s

/-- A REFLECTION interval of 50 ms expires: the next shot is launched (R139). -/
def launchShot (s : State) : State :=
  match s.msu.holder, s.msu.run with
  | .stage, .refl n es =>
    if !s.msu.capRunning && decide (n < 4) then
      startCapture true (reflReference s.cfg)
        (setDrive (.pulse s.cfg.vS s.cfg.pulseWidth) (setRun (.refl (n + 1) es) s))
    else s
  | _, _ => s

/-- One eighth of a burst width passes (R142). -/
def toneSteps (s : State) : State :=
  match s.msu.run with
  | .tone spec k => setDrive (toneDrive spec (k + 1)) (setRun (.tone spec (k + 1)) s)
  | _ => s

/-- The requested tone duration passes (R142). -/
def toneExpires (s : State) : State :=
  match s.msu.run with
  | .tone spec _ => toneDone spec s
  | _ => s

/-- A hazard is reported while the watch is armed (R122, R134). -/
def hazardReported (s : State) : State := if s.msu.hazardArmed then hazardShutdown s else s

/-- The hazard comparator's output as the watch is armed: above, it is reported at once (R134). -/
def reportIfAbove (above : Bool) (s : State) : State := if above then hazardReported s else s

/-- ISOLATING's dead time expires (R119): the test relay is commanded closed, the hazard watch armed, and the kind's first
stage started. -/
def isolatingExpires (above : Bool) (s : State) : State :=
  match s.tsq.running with
  | some t =>
    if t.st = .isolating ∧ t.deadTimer = true then
      match stagesOf t.req.kind with
      | st :: _ =>
        let t1 := { t with st := .measuring, deadTimer := false, stage := some st }
        let s1 := setRunning (some t1) (closeTest t.req.port s)
        reportIfAbove above
          (grantConverter (startStage st t.req.tone { s1 with msu := { s1.msu with hazardArmed := true } }))
      | [] => s
    else s
  | none => s

/-- RESTORING's dead time expires (R121): the service relay is commanded closed unless the port is to stay FAULTED, and
the test ends. -/
def restoringExpires (s : State) : State :=
  match s.tsq.running with
  | some t =>
    if t.st = .restoring ∧ t.deadTimer = true then
      let s1 := setRunning (some { t with deadTimer := false }) s
      endTest (if staysFaulted t then s1 else closeService t.req.port s1)
    else s
  | none => s

end Sys2Proof.Machine
end

