-- ==== Sys2Proof/Machine/SupplyMonitor.lean ====
section
/-! DEFINITION. The Supply Monitor (R143 to R149). -/

namespace Sys2Proof.Machine

/-- The worst of the own measured state and the present peers' states, the own entry left out (R148). -/
def worstSupply (s : State) : Supply :=
  allStations.foldl
    (fun w t =>
      let e := tget s.shu.peers t
      if t ≠ s.stc.station ∧ e.present = true then Supply.worse w e.supply else w)
    s.smn.own

/-- The supply aborts of the running test (R123). -/
def supplyAborts (new : Supply) (s : State) : State :=
  match s.tsq.running with
  | none => s
  | some t =>
    match new with
    | .critical => abortTest .supply s
    | .low => if t.req.kind = .tone then s else abortTest .supply s
    | .mains | .battery => s

/-- The cabinet supply state is recomputed (R148): a change is taken, raises SUPPLY_CHANGE, and is told to LSV and then to
TSQ. -/
def recomputeCabinet (s : State) : State :=
  let w := worstSupply s
  if w = s.smn.cabinet then s
  else
    let s1 := raiseNotice .supplyChange { s with smn := { s.smn with cabinet := w } }
    supplyAborts w (lsvSupply w s1)

/-- SMN requests a sample: its timer stops and the arbiter takes the request (R145). -/
def requestSample (s : State) : State := requestSupply { s with smn := { s.smn with sampleTimer := none } }

/-- The interval to the next sample, in milliseconds (R145). -/
def sampleInterval (own : Supply) : Nat := if own = .mains then 4000 else 250

/-- Whether JOINING or RUNNING is the start state. -/
def State.joined (s : State) : Bool := s.stc.startState == .joining || s.stc.startState == .running

/-- The mains-present input takes a level (R144): it matters to SMN once the straps have been sampled. -/
def mainsInputChanges (present : Bool) (s : State) : State :=
  let s1 := { s with pins := { s.pins with mains := present } }
  if s.stc.startState = .reset then s1
  else { s1 with smn := { s1.smn with debounce := decide (present ≠ s.smn.mainsSeen) } }

/-- The debounce timer expires (R144). -/
def debounceExpires (s : State) : State :=
  if s.smn.debounce then
    let s1 := { s with smn := { s.smn with mainsSeen := s.pins.mains, debounce := false } }
    if s1.joined then requestSample s1 else s1
  else s

/-- The sample timer expires (R145). -/
def sampleTimerExpires (s : State) : State := if s.smn.sampleTimer.isSome then requestSample s else s

/-- The voltage of a code, in decivolts (R146). -/
def decivolts (code : Nat) : Nat := code / 5

/-- A threshold raised by 5 dV where the row's state is better than the own state (R146). -/
def raisedFor (row own : Supply) (threshold : Nat) : Nat := if row.rank < own.rank then threshold + 5 else threshold

/-- The candidate of a sample (R146). -/
def candidateOf (c : Cfg) (own : Supply) (mainsSeen : Bool) (v : Nat) : Supply :=
  if mainsSeen ∧ raisedFor .mains own c.vLow ≤ v then .mains
  else if raisedFor .battery own c.vLow ≤ v then .battery
  else if raisedFor .low own c.vCrit ≤ v then .low
  else .critical

/-- The two-sample rule (R147): the own state and the differing count after a candidate. -/
def twoSample (own : Supply) (differing : Nat) (cand : Supply) : Supply × Nat :=
  if cand = own then (own, 0) else if differing = 0 then (own, 1) else (cand, 0)

/-- The pair select after a supply conversion: it names the input that the stimulus drives again, where it drives one, and
otherwise stays at the DC bus until a stage next sets it; R129 and R132 do not say what it names then (DESIGN CHOICE,
log 35). -/
def selectAfterSupply (m : Msu) : SenseInput :=
  match m.drive with
  | .stimulus _ i => i
  | .off | .discharge | .pulse _ _ | .tone _ _ => m.pairSelect

/-- The release of the converter by the supply sample (R130). -/
def releaseSupply (s : State) : State :=
  if s.msu.holder = .supply then
    grantConverter { s with msu := { s.msu with holder := .none, pairSelect := selectAfterSupply s.msu } }
  else grantConverter s

/-- A supply conversion completes (R145 to R147): it is evaluated, the sample timer starts, and the converter is
released. -/
def supplySampled (code : Nat) (s : State) : State :=
  if s.msu.holder = .supply then
    let cand := candidateOf s.cfg s.smn.own s.smn.mainsSeen (decivolts code)
    let r := twoSample s.smn.own s.smn.differing cand
    let s1 := { s with smn := { s.smn with own := r.1, differing := r.2 } }
    let s2 := if r.1 = s.smn.own then s1 else recomputeCabinet s1
    releaseSupply { s2 with smn := { s2.smn with sampleTimer := some (sampleInterval s2.smn.own) } }
  else s

end Sys2Proof.Machine
end

