-- ==== Sys2Proof/Machine/ShareUnit.lean ====
section
/-! DEFINITION. The Share Unit (R68 to R85). -/

namespace Sys2Proof.Machine

/-! ## The peer table and the capacity notice -/

/-- A station's entry of the peer table. -/
def State.peer (s : State) (t : StationId) : Peer := tget s.shu.peers t

/-- A station's entry of the peer table is written. -/
def setPeer (t : StationId) (e : Peer) (s : State) : State :=
  { s with shu := { s.shu with peers := tset s.shu.peers t e } }

/-- The weight of an ADVERT after its clamps (R71). -/
def clampWeight (demand weight : Nat) : Nat :=
  if 4080 < weight then 4080 else if weight = 0 ∧ 0 < demand then 1 else weight

/-- The entry that an ADVERT gives (R71). -/
def advertEntry (demand weight : BitVec 16) (supply : Byte) (joining : Bool) (sequence : Byte) : Peer :=
  { present := true, demand := demand.toNat, weight := clampWeight demand.toNat weight.toNat,
    supply := supplyOf supply.toNat, joining := joining, lastSeq := sequence, age := 0 }

/-- Whether an ADVERT's sequence leaves a gap behind the entry's last (R71). -/
def sequenceGap (e : Peer) (sequence : Byte) : Bool := e.present && sequence != e.lastSeq + 1

/-- An ADVERT delivered from a station is taken in JOINING and RUNNING and discarded otherwise (R71, R85). -/
def takeAdvert (t : StationId) (e : Peer) (s : State) : State :=
  if s.joined then
    let s1 := if sequenceGap (s.peer t) e.lastSeq then countCard .advertGaps s else s
    recomputeCabinet (countCard .advertsHeard (setPeer t e s1))
  else s

/-- The working capacity (R74). -/
def workingCapacity (c : Cfg) : Option Notice → Nat
  | some n => min c.cCfg n.capacity
  | none => c.cCfg

/-- The capacity notice is written and the working capacity recomputed (R73, R74). -/
def setNotice (n : Option Notice) (s : State) : State :=
  { s with shu := { s.shu with notice := n, cWork := workingCapacity s.cfg n } }

/-- A CAPACITY frame is taken in JOINING and RUNNING and discarded otherwise (R73, R85). -/
def takeCapacity (capacity : Nat) (s : State) : State :=
  if s.joined then setNotice (some { capacity := capacity, age := 0 }) s else s

/-- The ageing of one peer entry, removed at age 3 with SMN told (R72). -/
def agePeer (t : StationId) (s : State) : State :=
  let e := s.peer t
  if t = s.stc.station ∨ e.present = false then s
  else if e.age + 1 < 3 then setPeer t { e with age := e.age + 1 } s
  else recomputeCabinet (setPeer t Peer.absent s)

/-- The ageing of the peer table (R72). -/
def agePeers (s : State) : State := allStations.foldl (fun u t => agePeer t u) s

/-- The ageing of the capacity notice, dropped at age 3 (R73). -/
def ageNotice (s : State) : State :=
  match s.shu.notice with
  | none => s
  | some n =>
    if n.age + 1 < 3 then { s with shu := { s.shu with notice := some { n with age := n.age + 1 } } }
    else setNotice none s

/-! ## Own demand and weight -/

/-- The demand of one port (R75). -/
def portDemand (s : State) (p : PortId) : Nat :=
  if (s.port p).lineState = .inService then min (cellsIn (tget s.fst.up p)) (s.aUpOf p) else 0

/-- The weight that one port adds (R75). -/
def portWeight (s : State) (p : PortId) : Nat :=
  if (s.port p).lineState = .inService ∧ (tget s.fst.up p).isEmpty = false then s.weightOf p else 0

/-- D_self (R75): 0 in JOINING. -/
def ownDemand (s : State) : Nat :=
  if s.stc.startState = .joining then 0 else min 65535 ((allPorts.map (portDemand s)).sum)

/-- W_self (R75): 0 in JOINING. -/
def ownWeight (s : State) : Nat := if s.stc.startState = .joining then 0 else (allPorts.map (portWeight s)).sum

/-- The own entry as an expiry rewrites it (R72, R83). -/
def ownEntry (s : State) : Peer :=
  { present := true, demand := ownDemand s, weight := ownWeight s, supply := s.smn.own,
    joining := s.stc.startState == .joining, lastSeq := s.shu.nextSeq, age := 0 }

/-! ## The share computation -/

/-- One station that takes part in the computation (R76). -/
structure Sharer where
  station : StationId
  demand : Nat
  weight : Nat
  deriving DecidableEq, Repr

/-- The sum of D over some stations. -/
def sumDemand (ss : List Sharer) : Nat := (ss.map Sharer.demand).sum

/-- The sum of W over some stations: WT (R77). -/
def sumWeight (ss : List Sharer) : Nat := (ss.map Sharer.weight).sum

/-- The set S: the present entries with a demand above 0 and the joining flag clear (R76). -/
def sharersOf (peers : Tbl Peer 8) : List Sharer :=
  allStations.filterMap (fun t =>
    let e := tget peers t
    if e.present && decide (0 < e.demand) && !e.joining then some { station := t, demand := e.demand, weight := e.weight }
    else none)

/-- Whether a pass with remainder r and weights wt satisfies a station (R77). -/
def satisfiedBy (r wt : Nat) (x : Sharer) : Bool := decide (x.demand * wt ≤ r * x.weight)

/-- The end of a computation: the satisfied stations, those left in S, and the final remainder. -/
structure Shares where
  satisfied : List Sharer
  left : List Sharer
  remainder : Nat
  deriving DecidableEq, Repr

/-- The passes over S with remainder r, the satisfied stations so far beside (R77). Each pass but the last removes a
station, so as many passes as there are stations are enough. -/
def passes : Nat → List Sharer → List Sharer → Nat → Shares
  | 0, done, ss, r => { satisfied := done, left := ss, remainder := r }
  | fuel + 1, done, ss, r =>
    let wt := sumWeight ss
    let ok := ss.filter (satisfiedBy r wt)
    if ok.isEmpty then { satisfied := done, left := ss, remainder := r }
    else passes fuel (done ++ ok) (ss.filter (fun x => !satisfiedBy r wt x)) (r - sumDemand ok)

/-- The whole computation (R76, R77). -/
def computeShares (cWork : Nat) (ss : List Sharer) : Shares :=
  if sumDemand ss ≤ cWork then { satisfied := ss, left := [], remainder := cWork - sumDemand ss }
  else passes ss.length [] ss cWork

/-- The allotment of a station left in S (R78). -/
def Shares.allotment (x : Shares) (j : Sharer) : Nat := x.remainder * j.weight / sumWeight x.left

/-- What a station is granted (R78). -/
def Shares.grantOf (x : Shares) (t : StationId) : Nat :=
  match x.satisfied.find? (fun j => j.station == t) with
  | some j => j.demand
  | none =>
    match x.left.find? (fun j => j.station == t) with
    | some j => x.allotment j
    | none => 0

/-- What the computation hands out in all: the satisfied demands and the allotments (R78). -/
def Shares.handedOut (x : Shares) : Nat := sumDemand x.satisfied + (x.left.map x.allotment).sum

/-! ## The expiry -/

/-- Steps 1 and 2 of R69: the ageing, and the own entry rewritten. -/
def expiryTables (s : State) : State :=
  let t := ageNotice (agePeers s)
  setPeer t.stc.station (ownEntry t) t

/-- Step 3 of R69: the grant (R78). -/
def expiryGrant (s : State) : State :=
  { s with shu := { s.shu with grant := (computeShares s.shu.cWork (sharersOf s.shu.peers)).grantOf s.stc.station } }

/-- Step 4 of R69: the credit (R80). -/
def expiryCredit (s : State) : State :=
  { s with shu := { s.shu with credit := min s.shu.credit 0 + (s.shu.grant : Int) } }

/-- Step 5 of R69: the ADVERT, with the own entry's figures, and the next sequence (R83). -/
def expiryAdvert (s : State) : State :=
  let e := s.peer s.stc.station
  let t := s.modCtrl (ctrlPlaceAdvert (.advert e.demand e.weight e.supply e.joining e.lastSeq))
  { t with shu := { t.shu with nextSeq := t.shu.nextSeq + 1 } }

/-- SHU's work at a share-period expiry (R69). -/
def shareExpiry (s : State) : State := expiryAdvert (expiryCredit (expiryGrant (expiryTables s)))

/-- The charge of a frame's blocks to the credit (R81). -/
def chargeCredit (blocks : Nat) (s : State) : State :=
  { s with shu := { s.shu with credit := s.shu.credit - (blocks : Int) } }

end Sys2Proof.Machine
end

