-- ==== Sys2Proof/Machine/Start.lean ====
section
/-! DEFINITION. The Start Controller: the resets, the straps, the end of LOADING and the entry to RUNNING (R2, R7, R165 to
R169). -/

namespace Sys2Proof.Machine

/-! ## Relays across a reset (R7) -/

/-- A port record after a reset that is not power-up (R2, R7): its test relay opens, and a service relay that is open stays
open until the hold ends. -/
def Port.afterReset (r : Port) : Port :=
  { Port.initial with serviceClosed := r.serviceClosed, serviceHeld := !r.serviceClosed, linkOut := r.linkOut }

/-- A port record after power-up (R7): no relay has been closed, and no hold applies. -/
def Port.afterPowerUp (r : Port) : Port := { Port.initial with linkOut := r.linkOut }

/-- The reset hold that starts with a reset: it runs where some service relay is held open (R7). -/
def holdAfter (ports : Tbl Port 16) : RelayHold :=
  if ports.toList.any (fun r => !r.serviceClosed) then .running else .none

/-- A held service relay is released (R7); it closes while the pair's test relay is open (R5). A relay that a test has
opened since the reset is held no more (openService; DESIGN CHOICE, log 19). -/
def Port.endHold (r : Port) : Port :=
  if r.serviceHeld then { r with serviceHeld := false, serviceClosed := r.serviceClosed || !r.testClosed } else r

/-- The reset hold of the relays ends. -/
def endRelayHold (s : State) : State := { s with relayHold := .none, ports := s.ports.map Port.endHold }

/-- The 50 ms of the reset hold have run (R7): the relays close, or wait for the reset input's release. -/
def relayHoldExpires (s : State) : State :=
  if s.relayHold = .running then
    if s.pins.resetAsserted then { s with relayHold := .elapsed } else endRelayHold s
  else s

/-! ## The end of LOADING (R166, R169) -/

/-- A port record with the fields of the port map (R2, R170). -/
def Port.mapped (m : PortMap) (r : Port) : Port :=
  { r with admin := m.admin, priority := m.priority, binder := m.binder, weightOverride := m.weightOverride }

/-- The configuration takes effect (R166). -/
def takeCfg (c : Cfg) (s : State) : State :=
  { s with
    cfg := c
    ports := tableOfPorts (fun p => Port.mapped (tget c.portMap p) (s.port p))
    shu := { s.shu with cWork := workingCapacity c s.shu.notice }
    msu := { s.msu with hazardRef := c.hazardThreshold }
    mga := { s.mga with mask := c.noticeMask } }

/-- The entry to JOINING (R169): the share-period timer starts and the first sample is requested. -/
def enterJoining (s : State) : State :=
  requestSample { s with stc := { s.stc with startState := .joining, joinCount := 0 } }

/-- The end of LOADING with a configuration (R166). -/
def endOfLoading (c : Cfg) (s : State) : State := enterJoining (takeCfg c s)

/-! ## The straps (R165) -/

/-- The three start modes (R165). -/
inductive StartMode where
  | stored | defaults | remote
  deriving DecidableEq, Repr

/-- The start mode of the two pins: 11 is taken as DEFAULTS (R165). -/
def startModeOf (b : BitVec 2) : StartMode :=
  if b = 0 then .stored else if b = 2 then .remote else .defaults

/-- The straps are sampled, the mains input is read, and LOADING is entered; under DEFAULTS it ends at once (R144, R165,
R166). -/
def boot (s : State) : State :=
  let s1 := { s with
    stc := { s.stc with startState := .loading, station := s.pins.station.toFin, startMode := s.pins.startMode }
    smn := { s.smn with mainsSeen := s.pins.mains, debounce := false } }
  match startModeOf s1.stc.startMode with
  | .defaults => endOfLoading defaultCfg s1
  | .stored => s1
  | .remote => s1

/-! ## The resets -/

/-- Every block but the relay logic at its hardware reset value (R165): the counters, the result store and the test
sequence number too. -/
def blocksReset (s : State) : State :=
  { s with
    stc := Stc.initial
    cfg := defaultCfg
    fst := Fst.initial
    bau := { Bau.initial with sent := s.bau.sent }
    shu := Shu.initial
    usc := Usc.initial
    clt := Clt.initial
    tsq := Tsq.initial
    msu := Msu.initial
    smn := Smn.initial
    mga := Mga.initial }

/-- The start of a hardware reset: the input is asserted, or power comes up (R7, R165). -/
def hardwareReset (powerUp : Bool) (s : State) : State :=
  let ports := if powerUp then s.ports.map Port.afterPowerUp else s.ports.map Port.afterReset
  { blocksReset s with
    pins := { s.pins with resetAsserted := true }
    ports := ports
    relayHold := holdAfter ports }

/-- The strap pins' levels as they were last read. -/
def Pins.straps (x : Pins) : Straps := { station := x.station, startMode := x.startMode }

/-- The strap pins at the levels read now. -/
def Pins.withStraps (b : Straps) (x : Pins) : Pins := { x with station := b.station, startMode := b.startMode }

/-- A RESTART takes effect (R160): as a reset, but the counters, the result store and the test sequence number stay, and
the straps are sampled at once (R117, R127, R155, R165). -/
def restartCard (straps : Straps) (s : State) : State :=
  let ports := s.ports.map Port.afterReset
  boot
    { blocksReset s with
      pins := s.pins.withStraps straps
      ports := ports
      relayHold := holdAfter ports
      tsq := { Tsq.initial with results := s.tsq.results, seq := s.tsq.seq }
      mga := { Mga.initial with portCounters := s.mga.portCounters, cardCounters := s.mga.cardCounters } }

/-- The reset input is released, with these levels on the pins (R7, R144, R165). -/
def releaseReset (station : BitVec 3) (startMode : BitVec 2) (mains : Bool) (s : State) : State :=
  if s.pins.resetAsserted then
    let s1 := { s with
      pins := { resetAsserted := false, station := station, startMode := startMode, mains := mains } }
    boot (if s1.relayHold = .elapsed then endRelayHold s1 else s1)
  else s

/-! ## The stored configuration (R166) -/

/-- The serial memory read ends (R166): a good image is taken, and a fault takes the defaults and raises
CONFIG_DEFAULTED. -/
def configLoaded (words : List Word16) (s : State) : State :=
  if s.stc.startState = .loading ∧ startModeOf s.stc.startMode = .stored then
    match goodImage words with
    | some img => endOfLoading (imageCfg img) s
    | none => endOfLoading defaultCfg (raiseNotice .configDefaulted s)
  else s

/-! ## The entry to RUNNING (R169) -/

/-- The entry to RUNNING: every port with admin enabled goes to WAITING, or to SHED by R12, one whose service relay the reset
hold of R7 still holds open too (DESIGN CHOICE, log 36). -/
def enterRunning (s : State) : State :=
  forPorts allPorts (fun p t => if (t.port p).admin then toWaiting p false t else t)
    { s with stc := { s.stc with startState := .running } }

/-- STC's count of the expiries of JOINING (R169). -/
def countJoining (s : State) : State :=
  if s.stc.startState = .joining then
    let s1 := { s with stc := { s.stc with joinCount := s.stc.joinCount + 1 } }
    if s.stc.joinCount + 1 < 3 then s1 else enterRunning s1
  else s

/-- The share-period expiry, in JOINING and RUNNING (R68, R69, R88, R169): SHU's work, with the changes of the cabinet supply
state that its removals bring, then USC's, then STC's (DESIGN CHOICE, log 17). -/
def sharePeriodExpires (s : State) : State :=
  if s.joined then countJoining (uscRefillAll (shareExpiry s)) else s

end Sys2Proof.Machine
end

