-- ==== Sys2Proof/Machine/Management.lean ====
section
/-! DEFINITION. The Management Agent: the requests' effects, their answers, and the waiting list (R156 to R162, R167). -/

namespace Sys2Proof.Machine

/-- What taking a request gives: the card after its effect, the status, and the data of the answer. -/
structure Answer where
  card : State
  status : Status
  data : List Byte
  deriving DecidableEq, Repr

/-- An answer without data. -/
def Answer.plain (st : Status) (s : State) : Answer := { card := s, status := st, data := [] }

/-! ## Requests that read (R158) -/

/-- PORT_STATUS (R158). -/
def askPortStatus (port : Option PortId) (s : State) : Answer :=
  { card := s, status := .ok,
    data := match port with
      | some p => portStatusBytes s p
      | none => allPorts.flatMap (portStatusBytes s) }

/-- CARD_STATUS (R158). -/
def askCardStatus (s : State) : Answer := { card := s, status := .ok, data := cardStatusBytes s }

/-- TEST_RESULT (R158). -/
def askTestResult (p : PortId) (s : State) : Answer :=
  match tget s.tsq.results p with
  | some r => { card := s, status := .ok, data := recordBytes r }
  | none => Answer.plain .refusedState s

/-- Every counter of a scope at 0 with its sticky flag clear (R158). -/
def clearCounters (scope : Option PortId) (s : State) : State :=
  match scope with
  | some p => { s with mga := { s.mga with portCounters := tset s.mga.portCounters p (tconst 18 Counter.zero) } }
  | none => { s with mga := { s.mga with cardCounters := tconst 13 Counter.zero } }

/-- READ_COUNTERS (R158, R164): the values are reported, and then cleared where the flag asks for it. -/
def askCounters (scope : Option PortId) (clear : Bool) (s : State) : Answer :=
  { card := if clear then clearCounters scope s else s, status := .ok, data := countersBytes s scope }

/-! ## Requests that act (R159) -/

/-- PORT_ADMIN enable (R16), in RUNNING for a DISABLED port whose service relay the reset hold of R7 still holds open too
(DESIGN CHOICE, log 36). -/
def enablePort (p : PortId) (s : State) : Answer :=
  let r := s.port p
  if s.stc.startState = .running ∧ r.lineState = .faulted ∧ r.admin = true then Answer.plain .refusedState s
  else
    let t := s.setPort p { r with admin := true }
    if r.lineState = .disabled ∧ s.stc.startState = .running then Answer.plain .ok (toWaiting p false t)
    else Answer.plain .ok t

/-- Whether PORT_ADMIN disable takes a port to DISABLED at once (R17). -/
def LineState.leavesAtDisable : LineState → Bool
  | .waiting | .training | .hold | .inService | .shed => true
  | .disabled | .testing | .faulted => false

/-- PORT_ADMIN disable (R17): the admin field, the port's queued request, the port's move, and the running test on it. -/
def disablePort (p : PortId) (s : State) : Answer :=
  let s1 := dequeuePort p (s.setPort p { s.port p with admin := false })
  let s2 := if (s1.port p).lineState.leavesAtDisable then changeState p .disabled false false s1 else s1
  Answer.plain .ok (if s2.tsq.runs p then abortTest .admin s2 else s2)

/-- RETRAIN (R35). -/
def askRetrain (p : PortId) (s : State) : Answer :=
  if (s.port p).lineState = .inService then Answer.plain .ok (retrainPort p s) else Answer.plain .refusedState s

/-- WEIGHT (R13). -/
def setWeight (p : PortId) (value : Byte) (s : State) : Answer :=
  Answer.plain .ok (s.modPort p (fun r => { r with weightOverride := value }))

/-- TEST_REQUEST (R114): its start choice is the step's. -/
def askTest (p : PortId) (k : TestKind) (intrusive : Bool) (tone : Option ToneSpec) (s : State) : Answer :=
  let ls := (s.port p).lineState
  if s.tsq.queued p || s.tsq.runs p then Answer.plain .refusedDuplicate s
  else if ls = .disabled then Answer.plain .refusedState s
  else if ls = .faulted ∧ k = .tone then Answer.plain .refusedState s
  else if ls.engaged && !intrusive then Answer.plain .refusedState s
  else Answer.plain .queued (enqueueTest p k intrusive tone .management s)

/-- TEST_CANCEL (R115). -/
def cancelTest (p : PortId) (s : State) : Answer :=
  if s.tsq.queued p then Answer.plain .ok (dequeuePort p s)
  else if s.tsq.runs p then Answer.plain .ok (abortTest .request s)
  else Answer.plain .refusedState s

/-- Whether a waiting item is a notice of a cause that a mask names (R162). -/
def WaitItem.acked (mask : BitVec 16) : WaitItem → Bool
  | .notice c => mask.getLsbD c.bit
  | .answer _ => false

/-- NOTICE_ACK (R162). By `canTake` nothing waits where it is taken, so that its second part removes nothing (log 41). -/
def ackNotices (mask : BitVec 16) (s : State) : Answer :=
  Answer.plain .ok { s with mga := { s.mga with
    flags := s.mga.flags &&& ~~~(mask.extractLsb' 0 10)
    waiting := s.mga.waiting.filter (fun i => !i.acked mask) } }

/-- RESTART (R160). -/
def askRestart (s : State) : Answer := Answer.plain .ok { s with mga := { s.mga with restartPending := true } }

/-- Whether CONFIG_WRITE and CONFIG_APPLY are taken: in LOADING under REMOTE (R159, R166). -/
def State.loadsRemotely (s : State) : Bool :=
  s.stc.startState == .loading && startModeOf s.stc.startMode == .remote

/-- Words copied into the staging image from an offset on (R167); an offset beyond it copies none. -/
def writeWords : Nat → List Word16 → Tbl Word16 512 → Tbl Word16 512
  | _, [], v => v
  | off, w :: ws, v => writeWords (off + 1) ws (if h : off < 512 then tset v ⟨off, h⟩ w else v)

/-- CONFIG_WRITE (R167). -/
def writeConfig (off : Nat) (ws : List Word16) (s : State) : Answer :=
  if s.loadsRemotely then Answer.plain .ok { s with stc := { s.stc with staging := writeWords off ws s.stc.staging } }
  else Answer.plain .refusedState s

/-- CONFIG_APPLY (R167). -/
def applyConfig (s : State) : Answer :=
  if s.loadsRemotely then
    match goodImage s.stc.staging.toList with
    | some img => Answer.plain .ok (endOfLoading (imageCfg img) s)
    | none => Answer.plain .refusedArgument s
  else Answer.plain .refusedState s

/-- A request that has passed the checks of its arguments (R158 to R160). -/
def answerRequest : Request → State → Answer
  | .portStatus port, s => askPortStatus port s
  | .portAdmin p true, s => enablePort p s
  | .portAdmin p false, s => disablePort p s
  | .retrain p, s => askRetrain p s
  | .weight p v, s => setWeight p v s
  | .testRequest p k i t, s => askTest p k i t s
  | .testCancel p, s => cancelTest p s
  | .testResult p, s => askTestResult p s
  | .readCounters scope c, s => askCounters scope c s
  | .cardStatus, s => askCardStatus s
  | .noticeAck m, s => ackNotices m s
  | .restart, s => askRestart s
  | .configWrite o ws, s => writeConfig o ws s
  | .configApply, s => applyConfig s

/-! ## Taking a request and answering it (R156) -/

/-- Whether a kind code is one of the thirteen (R174). -/
def isKind (k : Nat) : Bool := decide (1 ≤ k) && decide (k ≤ 13)

/-- Whether a kind is taken in LOADING (R156). -/
def takenInLoading (k : Nat) : Bool := k == 9 || k == 12 || k == 13

/-- The checks of a request in their order, and its effect (R156). -/
def checkRequest (payload : List Byte) (s : State) : Answer :=
  match payload with
  | _ :: _ :: k :: args =>
    if !isKind k.toNat then Answer.plain .unknownKind s
    else if s.stc.startState == .loading && !takenInLoading k.toNat then Answer.plain .notReady s
    else
      match parseArgs k.toNat args with
      | some r => answerRequest r s
      | none => Answer.plain .refusedArgument s
  | _ => Answer.plain .unknownKind s

/-- The cells and records that the head request returns at its answer's placement (R48). -/
def returning (s : State) : Nat × Nat :=
  match s.fst.requests with
  | f :: _ => (f.cells, 1)
  | [] => (0, 0)

/-- Whether an answer can be placed (R48). -/
def answerFits (payload : List Byte) (s : State) : Bool :=
  s.fst.placeable (cellsOf payload) (returning s).1 (returning s).2

/-- An answer joins the response queue and its request leaves the request queue (R48). -/
def placeAnswer (payload : List Byte) (s : State) : State :=
  let t := removeRequestHead s
  { t with fst := t.fst.placeResponse .mrsp payload }

/-- An answer is offered for placement, and waits where it has no room (R156). -/
def offerAnswer (payload : List Byte) (s : State) : State :=
  if answerFits payload s then placeAnswer payload s else joinWaiting (.answer payload) s

/-- Whether MGA takes the head request (R156): every kind alike waits for an empty waiting list, NOTICE_ACK too, so that the
removal of a waiting notice, of which R157, R162 and section 11.7 speak, is never reached (DESIGN CHOICE, log 41). -/
def canTake (s : State) : Bool :=
  !s.fst.requests.isEmpty && s.mga.waiting.isEmpty && decide (s.fst.responses.length < 8) && !s.mga.restartPending

/-- The head request is taken, has its effect, and its answer is offered (R156). -/
def takeRequest (s : State) : State :=
  match s.fst.requests with
  | [] => s
  | f :: _ =>
    let a := checkRequest f.payload s
    offerAnswer (mrspPayload f.payload a.status a.data) a.card

/-! ## The waiting list (R157) -/

/-- Whether an item can be placed (R48). -/
def itemFits : WaitItem → State → Bool
  | .notice _, s => s.fst.placeable 1 0 0
  | .answer a, s => answerFits a s

/-- An item is placed (R48, R161). -/
def placeItem : WaitItem → State → State
  | .notice c, s => placeNotice c s
  | .answer a, s => placeAnswer a s

/-- The items of the waiting list are offered in order, as many at most as the number says, until one fails (R157). -/
def offerWaiting : Nat → State → State
  | 0, s => s
  | n + 1, s =>
    match s.mga.waiting with
    | [] => s
    | i :: rest =>
      if itemFits i s then offerWaiting n (placeItem i { s with mga := { s.mga with waiting := rest } }) else s

/-- MGA's work at an event, for as many requests at most as the number says (R156, R157): the waiting items are offered,
and requests are taken one after another. A start choice follows each (log 2). -/
def mgaRun : Nat → State → State
  | 0, s => offerWaiting s.mga.waiting.length s
  | n + 1, s =>
    let t := offerWaiting s.mga.waiting.length s
    if canTake t then mgaRun n (startChoice (takeRequest t)) else t

/-- MGA's whole work at an event. -/
def mgaWork (s : State) : State := mgaRun s.fst.requests.length s

end Sys2Proof.Machine
end

