-- ==== Sys2Proof/Machine/Bus.lean ====
section
/-! DEFINITION. The Bus Access Unit: the transmitter, its arbiter and the receiver (R50 to R67); and the work that ends every
step of the card. -/

namespace Sys2Proof.Machine

/-! ## The transmit arbiter (R62) -/

/-- The card with its transmitter replaced. -/
def setTx (t : Tx) (s : State) : State := { s with bau := { s.bau with tx := t } }

/-- A frame is taken in hand: DEFERRING, with the collision count 0 (R53). -/
def takeInHand (h : InHand) (s : State) : State :=
  setTx { st := .deferring, hand := some h, collisions := 0, backoff := 0, jamming := false, gapCounting := true } s

/-- DATA has won the choice: USC chooses the frame (R62, R93). -/
def takeData (s : State) : State :=
  match uscChoose s with
  | some (p, t) => takeInHand (.data p) t
  | none => s

/-- The record of the last contested winner is written (R62). -/
def recordWinner (w : Winner) (s : State) : State := { s with bau := { s.bau with lastWinner := w } }

/-- The class that wins where both MGMT and DATA wait under EQUAL: the one that did not win the last such choice (R62). -/
def otherWinner : Winner → Winner
  | .mgmt => .data
  | .data => .mgmt

/-- The choice between MGMT and DATA (R62). -/
def chooseBelowControl (s : State) : State :=
  if s.fst.responses.isEmpty then
    if s.dataWaits then takeData s else s
  else if !s.dataWaits then takeInHand .mgmt s
  else if s.cfg.priorityEqual then
    match otherWinner s.bau.lastWinner with
    | .mgmt => takeInHand .mgmt (recordWinner .mgmt s)
    | .data => takeData (recordWinner .data s)
  else takeInHand .mgmt s

/-- The arbiter's choice whenever the transmitter is IDLE and a class waits (R62). -/
def txArbitrate (s : State) : State :=
  if s.bau.tx.st = .idle then
    match s.bau.ctrl with
    | item :: rest => takeInHand (.control item) { s with bau := { s.bau with ctrl := rest } }
    | [] => chooseBelowControl s
  else s

/-- The work that ends every step: the start choice, the Management Agent, and the transmit arbiter (R62, R116, R156,
R157; log 2). In RESET the card does none of it (R52, R165). -/
def settle (s : State) : State :=
  if s.stc.startState = .reset then s else txArbitrate (mgaWork (startChoice s))

/-! ## The end of a transmission (R58) -/

/-- Whether a response frame is the RESTART's own MRSP (R160, R174). -/
def restartEnds (f : Frame) (s : State) : Bool :=
  s.mga.restartPending && f.kind == .mrsp && f.payload[2]? == some 11 && f.payload[3]? == some 0

/-- The end of a control item's transmission (R58, R61, R83, R107). -/
def controlEnd (ok : Bool) (item : CtrlItem) (s : State) : State :=
  match item with
  | .advert _ _ _ _ _ => if ok then countCard .advertsSent s else s
  | .claim b held _ => tellSequencer (claimSent ok b held s)
  | .release b retried => if !ok && !retried then placeRelease b true s else s

/-- The end of a response frame's transmission: its removal, and the restart where it answered RESTART (R49, R160). -/
def mgmtEnd (straps : Straps) (s : State) : State :=
  match s.fst.responses with
  | [] => s
  | f :: _ => if restartEnds f s then restartCard straps (removeResponseHead s) else removeResponseHead s

/-- A frame's blocks are charged to the credit and to the port's tokens (R81, R89). -/
def chargeBlocks (p : PortId) (blocks : Nat) (s : State) : State :=
  (chargeCredit blocks s).modUsc p (fun u => { u with tokens := u.tokens - (blocks : Int) })

/-- The end of a DATA frame's transmission (R45, R94). A port that left service with its frames kept keeps them here too,
and its tokens are what the charge leaves: the last paragraph of R95 speaks of a queue that the removal empties and of
tokens of 0 or below, and R9, R45, R88 and R89 leave other cases (DESIGN CHOICE, log 34). -/
def dataEnd (ok : Bool) (p : PortId) (s : State) : State :=
  match tget s.fst.up p with
  | [] => uscAfterEnd p s
  | f :: _ =>
    let s1 := removeUpHead p s
    if ok then
      uscAfterEnd p (chargeBlocks p f.blocks (countPort p .upBlocks f.blocks (countPort p .upFrames 1 s1)))
    else uscAfterEnd p (countPort p .txAbort 1 s1)

/-- The transmitter enters IDLE and reports the end to the frame's owner (R54, R55, R57, R58); the straps are as they
stand at this end. -/
def txEnd (ok : Bool) (straps : Straps) (s : State) : State :=
  match s.bau.tx.hand with
  | none => setTx Tx.initial s
  | some (.control item) => controlEnd ok item (setTx Tx.initial s)
  | some .mgmt => mgmtEnd straps (setTx Tx.initial s)
  | some (.data p) => dataEnd ok p (setTx Tx.initial s)

/-! ## The transmitter's events -/

/-- Whether the transmitter is sending its frame, and not jam. -/
def State.sendsFrame (s : State) : Bool := s.bau.tx.st == .sending && !s.bau.tx.jamming

/-- The gap is complete: SENDING begins, and a response frame is marked in flight (R49, R53). -/
def gapCompletes (s : State) : State :=
  if s.bau.tx.st = .deferring ∧ s.bau.tx.gapCounting = true then
    let t := setTx { s.bau.tx with st := .sending, gapCounting := false } s
    if s.bau.tx.hand = some .mgmt then { t with fst := { t.fst with responses := markHead t.fst.responses } } else t
  else s

/-- Carrier is sensed while the gap is counted: the count stops (R53). -/
def carrierInGap (s : State) : State :=
  if s.bau.tx.st = .deferring then setTx { s.bau.tx with gapCounting := false } s else s

/-- What goes out on the bus joins the record (log 13). -/
def putOut (outs : List BusOut) (s : State) : State := { s with bau := { s.bau with sent := s.bau.sent ++ outs } }

/-- The bytes of the frame in hand, none where there is none. -/
def State.inHandBytes (s : State) : List Byte :=
  match s.bau.tx.hand with
  | some h => wireOf h s
  | none => []

/-- The last byte goes out without a collision (R54). -/
def sendingEnds (straps : Straps) (s : State) : State :=
  if s.sendsFrame then txEnd true straps (putOut [.frame s.inHandBytes] s) else s

/-- A collision is sensed in the collision window: jam is sent (R55). -/
def collides (s : State) : State :=
  if s.sendsFrame then setTx { s.bau.tx with jamming := true } (putOut [.jam] s) else s

/-- The back-off in byte-times of a draw after the n-th collision of a frame: 64 byte-times a slot, the draw within 0 to
2^min(n,8) − 1 (R55; log 4). -/
def backoffOf (n : Nat) (draw : Byte) : Nat := 64 * (draw.toNat % 2 ^ min n 8)

/-- The jam ends (R55, R56). -/
def jamEnds (draw : Byte) (straps : Straps) (s : State) : State :=
  if s.bau.tx.st = .sending ∧ s.bau.tx.jamming = true then
    let n := s.bau.tx.collisions + 1
    let t := countCard .collisions s
    if n < 12 then
      let k := backoffOf n draw
      if k = 0 then
        setTx { s.bau.tx with st := .deferring, collisions := n, backoff := 0, jamming := false, gapCounting := true } t
      else setTx { s.bau.tx with st := .backingOff, collisions := n, backoff := k, jamming := false } t
    else txEnd false straps t
  else s

/-- The collision window, in bytes of the frame (R55). -/
def collisionWindow : Nat := 64

/-- A collision is sensed after the collision window (R57): jam goes out and the frame is aborted. A 64-byte frame ends at
the close of the window and meets none, so that no RESTART takes effect here and no strap is sampled (log 15). -/
def collidesLate (s : State) : State :=
  if s.sendsFrame && decide (collisionWindow < s.inHandBytes.length) then
    txEnd false s.pins.straps (raiseNotice .busFault (countCard .lateCollisions (putOut [.jam] s)))
  else s

/-- The back-off reaches 0 (R56). -/
def backoffEnds (s : State) : State :=
  if s.bau.tx.st = .backingOff then setTx { s.bau.tx with st := .deferring, backoff := 0, gapCounting := true } s else s

/-! ## Reception (R64 to R66) -/

/-- A frame's source is the own station number (R65). -/
def ownSource (s : State) : State := raiseNotice .stationConflict (countCard .rxBadSource s)

/-- A byte of a frame. -/
def byteAt (bs : List Byte) (i : Nat) : Byte := bs[i]?.getD 0

/-- The fields of a received frame's header (R172). -/
structure Header where
  kind : Nat
  dest : Nat
  source : Nat
  port : Nat
  length : Nat
  deriving DecidableEq, Repr

/-- The header of some bytes (R172). -/
def headerOf (bs : List Byte) : Header :=
  { kind := (byteAt bs 0).toNat, dest := (byteAt bs 1).toNat / 16, source := (byteAt bs 1).toNat % 16,
    port := (byteAt bs 2).toNat % 32, length := pair16 (byteAt bs 4) (byteAt bs 5) }

/-- Whether a payload length is allowed for a kind (R64, R173). -/
def lengthAllowed (k : BusKind) (n : Nat) : Bool :=
  match k with
  | .data => decide (1 ≤ n) && decide (n ≤ 1536)
  | .mreq | .mrsp | .notice => decide (n ≤ 1536)
  | .advert => n == 8
  | .claim => n == 4
  | .release => n == 2
  | .capacity => n == 2

/-- The most bytes that the receiver takes of one carrier (R64). -/
def receiveLimit : Nat := 1548

/-- The five checks of a received carrier in their order: the counter of the first that fails, or the frame's kind (R64).
Of a longer carrier the receiver takes 1548 bytes, and it fails check 2 or check 3. -/
def checkFrame (carrier : List Byte) : CardCounter ⊕ BusKind :=
  let bs := carrier.take receiveLimit
  let h := headerOf bs
  if bs.length < 64 then .inl .rxRunt
  else if crcBytes (bs.take (bs.length - 4)) ≠ bs.drop (bs.length - 4) then .inl .rxCrc
  else if receiveLimit < carrier.length ∨ 1536 < h.length ∨ bs.length < 8 + h.length + 4 then .inl .rxLong
  else
    match busKindOf h.kind with
    | none => .inl .rxBadKind
    | some k => if lengthAllowed k h.length then .inr k else .inl .rxBadKind

/-- Whether a frame is for the card: its destination is the own station or station 15 (R66). -/
def addressed (own dest : Nat) : Bool := dest == own || dest == 15

/-- Whether a source station fits a kind (R65). A DATA frame that the card receives comes from station 0; a DATA frame for
another station is traffic that the card ignores, and may come from a card (log 29). -/
def sourceFits (k : BusKind) (source : Nat) (forCard : Bool) : Bool :=
  match k with
  | .data => if forCard then source == 0 else decide (source ≤ 8)
  | .capacity | .mreq => source == 0
  | .advert | .claim | .release | .mrsp | .notice => decide (1 ≤ source) && decide (source ≤ 8)

/-- The station of a number 1..8. -/
def stationOf (n : Nat) : Option StationId := if h : 1 ≤ n ∧ n ≤ 8 then some ⟨n - 1, by omega⟩ else none

/-- The binder of a byte: its lower five bits (R173). -/
def binderOf (b : Byte) : BinderId := (b.extractLsb' 0 5).toFin

/-- The port of a destination port 0..15. -/
def portOf (n : Nat) : Option PortId := if h : n < 16 then some ⟨n, h⟩ else none

/-- A CLAIM from a peer reaches the Claim Table, and its word the sequencer (R101, R109). -/
def claimArrives (t : StationId) (b : BinderId) (phase duration : Byte) (s : State) : State :=
  tellSequencer (takeClaim t b (phase == 1) duration s)

/-- An accepted frame for the own station or for station 15 is handed on by its kind (R66). -/
def deliver (k : BusKind) (h : Header) (payload : List Byte) (s : State) : State :=
  match k with
  | .data =>
    match portOf h.port with
    | some p => if h.dest = 15 then countCard .rxBadPort s else completeDownstream p (stageBus payload s)
    | none => countCard .rxBadPort s
  | .mreq => if h.dest = 15 ∨ h.port ≠ 31 then countCard .rxBadPort s else completeMreq (stageBus payload s)
  | .advert =>
    match stationOf h.source with
    | some t =>
      takeAdvert t
        (advertEntry (BitVec.ofNat 16 (pair16 (byteAt payload 0) (byteAt payload 1)))
          (BitVec.ofNat 16 (pair16 (byteAt payload 2) (byteAt payload 3))) (byteAt payload 4)
          ((byteAt payload 5).getLsbD 0) (byteAt payload 6)) s
    | none => s
  | .claim =>
    match stationOf h.source with
    | some t => claimArrives t (binderOf (byteAt payload 0)) (byteAt payload 1) (byteAt payload 2) s
    | none => s
  | .release =>
    match stationOf h.source with
    | some t => takeRelease t (binderOf (byteAt payload 0)) s
    | none => s
  | .capacity => takeCapacity (pair16 (byteAt payload 0) (byteAt payload 1)) s
  | .mrsp | .notice => countCard .rxBadKind s

/-- A received frame is checked and handed on (R64 to R66). -/
def receiveFrame (bs : List Byte) (s : State) : State :=
  match checkFrame bs with
  | .inl c => countCard c s
  | .inr k =>
    let h := headerOf bs
    if h.source = s.stationNumber then ownSource s
    else if !sourceFits k h.source (addressed s.stationNumber h.dest) then countCard .rxBadSource s
    else if !addressed s.stationNumber h.dest then s
    else deliver k h ((bs.drop 8).take h.length) s

/-- The gap count begins again as carrier ends (R53). -/
def gapRestarts (s : State) : State :=
  if s.bau.tx.st = .deferring then setTx { s.bau.tx with gapCounting := true } s else s

/-- Carrier ends (R53, R64, R67): a collision's bytes, the card's own carrier, and a carrier that began before the reset
ended are not received. -/
def carrierEnds (collided own stale : Bool) (bytes : List Byte) (s : State) : State :=
  let t := gapRestarts s
  if collided || own || stale || s.bau.tx.st == .sending then t else receiveFrame bytes t

end Sys2Proof.Machine
end

