-- ==== Sys2Proof/Machine/Steps.lean ====
section
/-! DEFINITION. The two ways in which a command reaches the card: an event of the card itself, and something heard on one of
its interfaces. -/

namespace Sys2Proof.Machine

/-- The outcome of a step. -/
abbrev Result := Host.Outcome State Fault Refusal

/-- An event and the work that ends its step. -/
def event (f : State → State) (s : State) : Result := .next (settle (f s))

/-- An event of the line-port links or of the cabinet bus: in RESET the card hears nothing (R52, R85, R165; log 25). -/
def heard (f : State → State) (s : State) : Result :=
  if s.stc.startState = .reset then .next s else event f s

/-- A command whose operands must be such as an interface can carry (log 23). -/
def checked (ok : Bool) (r : Result) : Result := if ok then r else .refused .illFormed

/-- A management request arrives as an MREQ frame for port 31 (R47, R156; log 6). -/
def request (tag : BitVec 16) (kind : Nat) (args : List Byte) (s : State) : Result :=
  heard (fun t => completeMreq (stageBus (mreqPayload tag kind args) t)) s

end Sys2Proof.Machine
end

