-- ==== Sys2Proof/Machine/BusCommands.lean ====
section
/-! DEFINITION. The commands of the cabinet bus: reception, transmission, and the timers of the claims. -/

namespace Sys2Proof.Machine

/-! ## Reception -/

/-- CARRIER_END (R53, R64 to R67). -/
def execCarrierEnd (collided own : Bool) (bytes : List Byte) (s : State) (stale : Bool := false) : Result :=
  heard (carrierEnds collided own stale bytes) s

/-- DATA_RECEIVED (R41, R42). -/
def execDataReceived (p : PortId) (payload : List Byte) (s : State) : Result :=
  checked (dataPayloadOk payload) (heard (fun t => completeDownstream p (stageBus payload t)) s)

/-- MREQ_RECEIVED (R47, R156). -/
def execMreqReceived (payload : List Byte) (s : State) : Result :=
  checked (mreqPayloadOk payload) (heard (fun t => completeMreq (stageBus payload t)) s)

/-- ADVERT_RECEIVED (R71, R85); the own station number as the source is R65's. -/
def execAdvertReceived (t : StationId) (demand weight : BitVec 16) (supply : Byte) (joining : Bool) (sequence : Byte)
    (s : State) : Result :=
  heard (fun u =>
    if t = u.stc.station then ownSource u else takeAdvert t (advertEntry demand weight supply joining sequence) u) s

/-- CAPACITY_RECEIVED (R73, R85). -/
def execCapacityReceived (capacity : BitVec 16) (s : State) : Result := heard (takeCapacity capacity.toNat) s

/-- CLAIM_RECEIVED (R101, R102, R109); the own station number as the source is R65's. -/
def execClaimReceived (t : StationId) (b : BinderId) (phase duration : Byte) (s : State) : Result :=
  heard (fun u => if t = u.stc.station then ownSource u else claimArrives t b phase duration u) s

/-- RELEASE_RECEIVED (R103); the own station number as the source is R65's. -/
def execReleaseReceived (t : StationId) (b : BinderId) (s : State) : Result :=
  heard (fun u => if t = u.stc.station then ownSource u else takeRelease t b u) s

/-! ## The timers of the claims -/

/-- CLAIM_EXPIRY (R104). -/
def execClaimExpiry (b : BinderId) (s : State) : Result := event (expireClaim b) s

/-- SETTLE_EXPIRY (R108, R118). -/
def execSettleExpiry (s : State) : Result := event (fun t => tellSequencer (settleExpires t)) s

/-- RENEWAL_EXPIRY (R108). -/
def execRenewalExpiry (s : State) : Result := event renewalExpires s

/-! ## Transmission -/

/-- DEFER_GAP_COMPLETE (R49, R53). -/
def execDeferGapComplete (s : State) : Result := event gapCompletes s

/-- CARRIER_SENSED_IN_GAP (R53). -/
def execCarrierSensedInGap (s : State) : Result := event carrierInGap s

/-- SUCCESSFUL_END (R54, R58, R160). -/
def execSuccessfulEnd (s : State) (straps : Straps := {}) : Result := event (sendingEnds straps) s

/-- COLLISION (R55). -/
def execCollision (s : State) : Result := event collides s

/-- JAM_END (R55, R56, R160). -/
def execJamEnd (draw : Byte) (s : State) (straps : Straps := {}) : Result := event (jamEnds draw straps) s

/-- LATE_COLLISION (R57). -/
def execLateCollision (s : State) : Result := event collidesLate s

/-- BACKOFF_EXPIRY (R56). -/
def execBackoffExpiry (s : State) : Result := event backoffEnds s

end Sys2Proof.Machine
end

