-- ==== Sys2Proof/Machine/LineCommands.lean ====
section
/-! DEFINITION. The commands of the line-port links and of the line timers. -/

namespace Sys2Proof.Machine

/-- ACTIVITY_ON (R23, R154). -/
def execActivityOn (p : PortId) (s : State) : Result := heard (activityOnPort p) s

/-- ACTIVITY_OFF (R23, R33, R154). -/
def execActivityOff (p : PortId) (s : State) : Result := heard (activityOffPort p) s

/-- PERSISTENCE_TIMER_EXPIRY (R23). -/
def execPersistenceTimerExpiry (p : PortId) (s : State) : Result := event (persistenceExpires p) s

/-- TRAIN_REPORT (R25, R27). -/
def execTrainReport (p : PortId) (attempt : Byte) (down up : BitVec 20) (attenuation margin : Byte) (s : State) :
    Result :=
  heard (takeReport p attempt { down := down, up := up, attenuation := attenuation, margin := margin }) s

/-- TRAIN_FAIL (R29). -/
def execTrainFail (p : PortId) (attempt : Byte) (s : State) : Result := heard (takeTrainFail p attempt) s

/-- TRAIN_TIMER_EXPIRY (R29). -/
def execTrainTimerExpiry (p : PortId) (s : State) : Result := event (trainTimerExpires p) s

/-- READY_TIMER_EXPIRY (R29). -/
def execReadyTimerExpiry (p : PortId) (s : State) : Result := event (readyTimerExpires p) s

/-- READY (R28). -/
def execReady (p : PortId) (attempt : Byte) (s : State) : Result := heard (takeReady p attempt) s

/-- MARGIN (R34). -/
def execMargin (p : PortId) (level : Byte) (s : State) : Result := heard (takeMargin p level.toNat) s

/-- FAR_FAULT (R36). -/
def execFarFault (p : PortId) (s : State) : Result := heard (takeFarFault p) s

/-- SIGNAL_LOST (R31). -/
def execSignalLost (p : PortId) (attempt : Byte) (s : State) : Result := heard (takeSignalLost p attempt) s

/-- FRAME_REQUEST (R43). -/
def execFrameRequest (p : PortId) (s : State) : Result := heard (takeFrameRequest p) s

/-- UPSTREAM_FRAME (R41, R42). -/
def execUpstreamFrame (p : PortId) (payload : List Byte) (s : State) : Result :=
  checked (dataPayloadOk payload) (heard (fun t => completeUpstream p (stageUp p payload t)) s)

/-- IDLE_TIMER_EXPIRY (R10, R153). -/
def execIdleTimerExpiry (p : PortId) (s : State) : Result := event (idleTimerExpires p) s

end Sys2Proof.Machine
end

