-- ==== Sys2Proof/Machine/ManagementCommands.lean ====
section
/-! DEFINITION. The commands of the remote manager: each arrives as an MREQ frame with the bytes of R174. -/

namespace Sys2Proof.Machine

/-- PORT_STATUS (R158). -/
def execPortStatus (tag : BitVec 16) (port : Byte) (s : State) : Result := request tag 1 [port] s

/-- CARD_STATUS (R158). -/
def execCardStatus (tag : BitVec 16) (s : State) : Result := request tag 9 [] s

/-- TEST_RESULT (R158). -/
def execTestResult (tag : BitVec 16) (port : Byte) (s : State) : Result := request tag 7 [port] s

/-- READ_COUNTERS (R158). -/
def execReadCounters (tag : BitVec 16) (scope : Byte) (clear : Bool) (s : State) : Result :=
  request tag 8 [scope, flagByte clear] s

/-- PORT_ADMIN_ENABLE (R16). -/
def execPortAdminEnable (tag : BitVec 16) (port : Byte) (s : State) : Result := request tag 2 [port, 1] s

/-- PORT_ADMIN_DISABLE (R17). -/
def execPortAdminDisable (tag : BitVec 16) (port : Byte) (s : State) : Result := request tag 2 [port, 0] s

/-- RETRAIN (R35). -/
def execRetrain (tag : BitVec 16) (port : Byte) (s : State) : Result := request tag 3 [port] s

/-- WEIGHT (R13). -/
def execWeight (tag : BitVec 16) (port value : Byte) (s : State) : Result := request tag 4 [port, value] s

/-- The tone fields as a TEST_REQUEST carries them (R174). -/
def toneArgBytes : Option ToneArgs → List Byte
  | none => []
  | some t => u16 t.freq.toNat ++ u16 t.width.toNat ++ [t.minutes]

/-- TEST_REQUEST (R114). -/
def execTestRequest (tag : BitVec 16) (port kind : Byte) (intrusive : Bool) (tone : Option ToneArgs) (s : State) :
    Result :=
  request tag 5 ([port, kind, flagByte intrusive] ++ toneArgBytes tone) s

/-- TEST_CANCEL (R115). -/
def execTestCancel (tag : BitVec 16) (port : Byte) (s : State) : Result := request tag 6 [port] s

/-- NOTICE_ACK (R162). -/
def execNoticeAck (tag : BitVec 16) (mask : BitVec 16) (s : State) : Result := request tag 10 (u16 mask.toNat) s

/-- RESTART (R160). -/
def execRestart (tag : BitVec 16) (s : State) : Result := request tag 11 [] s

/-- CONFIG_WRITE (R167). -/
def execConfigWrite (tag : BitVec 16) (offset : BitVec 16) (words : List Word16) (s : State) : Result :=
  checked (decide (5 + 2 * words.length ≤ 1536))
    (request tag 12 (u16 offset.toNat ++ words.flatMap (fun w => u16 w.toNat)) s)

/-- CONFIG_APPLY (R167). -/
def execConfigApply (tag : BitVec 16) (s : State) : Result := request tag 13 [] s

/-- MREQ_UNKNOWN_KIND (R156). -/
def execMreqUnknownKind (payload : List Byte) (s : State) : Result :=
  checked (mreqPayloadOk payload && !knownKind payload) (heard (fun t => completeMreq (stageBus payload t)) s)

end Sys2Proof.Machine
end

