-- ==== Sys2Proof/Machine/PeriodCommands.lean ====
section
/-! DEFINITION. The commands of the share period and of the Supply Monitor. -/

namespace Sys2Proof.Machine

/-- SHARE_PERIOD_EXPIRY (R68, R69, R88, R169). -/
def execSharePeriodExpiry (s : State) : Result := event sharePeriodExpires s

/-- MAINS_INPUT_CHANGE (R144). -/
def execMainsInputChange (present : Bool) (s : State) : Result := event (mainsInputChanges present) s

/-- DEBOUNCE_EXPIRY (R144). -/
def execDebounceExpiry (s : State) : Result := event debounceExpires s

/-- SAMPLE_TIMER_EXPIRY (R145). -/
def execSampleTimerExpiry (s : State) : Result := event sampleTimerExpires s

/-- SUPPLY_SAMPLE_COMPLETE (R146, R147). -/
def execSupplySampleComplete (code : BitVec 12) (s : State) : Result := event (supplySampled code.toNat) s

end Sys2Proof.Machine
end

