-- ==== Sys2Proof/Machine/StartCommands.lean ====
section
/-! DEFINITION. The commands of the resets, the relay hold and the stored configuration. -/

namespace Sys2Proof.Machine

/-- HARDWARE_RESET (R7, R165). -/
def execHardwareReset (powerUp : Bool) (s : State) : Result := event (hardwareReset powerUp) s

/-- RESET_RELEASE (R144, R165, R166). -/
def execResetRelease (station : BitVec 3) (startMode : BitVec 2) (mains : Bool) (s : State) : Result :=
  event (releaseReset station startMode mains) s

/-- RELAY_HOLD_END (R7). -/
def execRelayHoldEnd (s : State) : Result := event relayHoldExpires s

/-- CONFIG_LOAD_COMPLETE (R166). -/
def execConfigLoadComplete (words : List Word16) (s : State) : Result := event (configLoaded words) s

end Sys2Proof.Machine
end

