-- ==== Sys2Proof/Machine/TestCommands.lean ====
section
/-! DEFINITION. The commands of the test sequence and of the measurements. -/

namespace Sys2Proof.Machine

/-- ISOLATING_DEAD_TIME_EXPIRY (R119, R134). -/
def execIsolatingDeadTimeExpiry (s : State) (above : Bool := false) : Result := event (isolatingExpires above) s

/-- RESTORING_DEAD_TIME_EXPIRY (R121, R128). -/
def execRestoringDeadTimeExpiry (s : State) : Result := event restoringExpires s

/-- STAGE_SAMPLE (R129, R136, R137, R141). -/
def execStageSample (code : BitVec 12) (s : State) : Result := event (stageSampled code.toInt) s

/-- INSULATION_SETTLE_EXPIRY (R137). -/
def execInsulationSettleExpiry (s : State) : Result := event insulationSettled s

/-- DISCHARGE_END (R138). -/
def execDischargeEnd (s : State) : Result := event dischargeEnds s

/-- CAPTURE_COMPARATOR_CHANGE (R133). -/
def execCaptureComparatorChange (above : Bool) (tick : BitVec 16) (s : State) : Result :=
  event (comparatorChanges above tick.toNat) s

/-- CROSSING_CONFIRMED (R133, R138, R139). -/
def execCrossingConfirmed (code : BitVec 12) (s : State) : Result := event (crossingCounts code.toInt) s

/-- CAPTURE_LIMIT (R133, R138, R139). -/
def execCaptureLimit (s : State) : Result := event captureLimitReached s

/-- BLANKING_END (R139). -/
def execBlankingEnd (above : Bool) (s : State) : Result := event (blankingEnds above) s

/-- SHOT_TIMER_EXPIRY (R139). -/
def execShotTimerExpiry (s : State) : Result := event launchShot s

/-- TONE_LEVEL_STEP (R142). -/
def execToneLevelStep (s : State) : Result := event toneSteps s

/-- TONE_DURATION_EXPIRY (R142). -/
def execToneDurationExpiry (s : State) : Result := event toneExpires s

/-- HAZARD_REPORT (R122, R134). -/
def execHazardReport (s : State) : Result := event hazardReported s

end Sys2Proof.Machine
end

