-- ==== Sys2Proof/Machine/Dispatch.lean ====
section
/-! DEFINITION. The card's meaning of each command: one arm for each row of the operation table. -/

namespace Sys2Proof.Machine

def exec (i : Instr) (s : State) : Host.Outcome State Fault Refusal :=
  match i with
  | .hardwareReset powerUp => Sys2Proof.Machine.execHardwareReset powerUp s
  | .resetRelease station startMode mains => Sys2Proof.Machine.execResetRelease station startMode mains s
  | .relayHoldEnd => Sys2Proof.Machine.execRelayHoldEnd s
  | .configLoadComplete words => Sys2Proof.Machine.execConfigLoadComplete words s
  | .activityOn port => Sys2Proof.Machine.execActivityOn port s
  | .activityOff port => Sys2Proof.Machine.execActivityOff port s
  | .persistenceTimerExpiry port => Sys2Proof.Machine.execPersistenceTimerExpiry port s
  | .trainReport port attempt down up attenuation margin => Sys2Proof.Machine.execTrainReport port attempt down up attenuation margin s
  | .trainFail port attempt => Sys2Proof.Machine.execTrainFail port attempt s
  | .trainTimerExpiry port => Sys2Proof.Machine.execTrainTimerExpiry port s
  | .readyTimerExpiry port => Sys2Proof.Machine.execReadyTimerExpiry port s
  | .ready port attempt => Sys2Proof.Machine.execReady port attempt s
  | .margin port level => Sys2Proof.Machine.execMargin port level s
  | .farFault port => Sys2Proof.Machine.execFarFault port s
  | .signalLost port attempt => Sys2Proof.Machine.execSignalLost port attempt s
  | .frameRequest port => Sys2Proof.Machine.execFrameRequest port s
  | .upstreamFrame port payload => Sys2Proof.Machine.execUpstreamFrame port payload s
  | .idleTimerExpiry port => Sys2Proof.Machine.execIdleTimerExpiry port s
  | .carrierEnd collided own bytes stale => Sys2Proof.Machine.execCarrierEnd collided own bytes s stale
  | .dataReceived port payload => Sys2Proof.Machine.execDataReceived port payload s
  | .mreqReceived payload => Sys2Proof.Machine.execMreqReceived payload s
  | .advertReceived station demand weight supply joining sequence => Sys2Proof.Machine.execAdvertReceived station demand weight supply joining sequence s
  | .capacityReceived capacity => Sys2Proof.Machine.execCapacityReceived capacity s
  | .claimReceived station binder phase duration => Sys2Proof.Machine.execClaimReceived station binder phase duration s
  | .releaseReceived station binder => Sys2Proof.Machine.execReleaseReceived station binder s
  | .claimExpiry binder => Sys2Proof.Machine.execClaimExpiry binder s
  | .settleExpiry => Sys2Proof.Machine.execSettleExpiry s
  | .renewalExpiry => Sys2Proof.Machine.execRenewalExpiry s
  | .deferGapComplete => Sys2Proof.Machine.execDeferGapComplete s
  | .carrierSensedInGap => Sys2Proof.Machine.execCarrierSensedInGap s
  | .successfulEnd straps => Sys2Proof.Machine.execSuccessfulEnd s straps
  | .collision => Sys2Proof.Machine.execCollision s
  | .jamEnd draw straps => Sys2Proof.Machine.execJamEnd draw s straps
  | .lateCollision => Sys2Proof.Machine.execLateCollision s
  | .backoffExpiry => Sys2Proof.Machine.execBackoffExpiry s
  | .sharePeriodExpiry => Sys2Proof.Machine.execSharePeriodExpiry s
  | .mainsInputChange present => Sys2Proof.Machine.execMainsInputChange present s
  | .debounceExpiry => Sys2Proof.Machine.execDebounceExpiry s
  | .sampleTimerExpiry => Sys2Proof.Machine.execSampleTimerExpiry s
  | .supplySampleComplete code => Sys2Proof.Machine.execSupplySampleComplete code s
  | .isolatingDeadTimeExpiry above => Sys2Proof.Machine.execIsolatingDeadTimeExpiry s above
  | .restoringDeadTimeExpiry => Sys2Proof.Machine.execRestoringDeadTimeExpiry s
  | .stageSample code => Sys2Proof.Machine.execStageSample code s
  | .insulationSettleExpiry => Sys2Proof.Machine.execInsulationSettleExpiry s
  | .dischargeEnd => Sys2Proof.Machine.execDischargeEnd s
  | .captureComparatorChange above tick => Sys2Proof.Machine.execCaptureComparatorChange above tick s
  | .crossingConfirmed code => Sys2Proof.Machine.execCrossingConfirmed code s
  | .captureLimit => Sys2Proof.Machine.execCaptureLimit s
  | .blankingEnd above => Sys2Proof.Machine.execBlankingEnd above s
  | .shotTimerExpiry => Sys2Proof.Machine.execShotTimerExpiry s
  | .toneLevelStep => Sys2Proof.Machine.execToneLevelStep s
  | .toneDurationExpiry => Sys2Proof.Machine.execToneDurationExpiry s
  | .hazardReport => Sys2Proof.Machine.execHazardReport s
  | .portStatus tag port => Sys2Proof.Machine.execPortStatus tag port s
  | .cardStatus tag => Sys2Proof.Machine.execCardStatus tag s
  | .testResult tag port => Sys2Proof.Machine.execTestResult tag port s
  | .readCounters tag scope clear => Sys2Proof.Machine.execReadCounters tag scope clear s
  | .portAdminEnable tag port => Sys2Proof.Machine.execPortAdminEnable tag port s
  | .portAdminDisable tag port => Sys2Proof.Machine.execPortAdminDisable tag port s
  | .retrain tag port => Sys2Proof.Machine.execRetrain tag port s
  | .weight tag port value => Sys2Proof.Machine.execWeight tag port value s
  | .testRequest tag port kind intrusive tone => Sys2Proof.Machine.execTestRequest tag port kind intrusive tone s
  | .testCancel tag port => Sys2Proof.Machine.execTestCancel tag port s
  | .noticeAck tag mask => Sys2Proof.Machine.execNoticeAck tag mask s
  | .restart tag => Sys2Proof.Machine.execRestart tag s
  | .configWrite tag offset words => Sys2Proof.Machine.execConfigWrite tag offset words s
  | .configApply tag => Sys2Proof.Machine.execConfigApply tag s
  | .mreqUnknownKind payload => Sys2Proof.Machine.execMreqUnknownKind payload s

end Sys2Proof.Machine
end

