-- ==== Sys2Proof/Machine/Step.lean ====
section
/-! DEFINITION. One step of the card: the command at the front of the queue, or one millisecond where none waits. -/

namespace Sys2Proof.Machine

/-- One step: the front command with the queue's rest, or one millisecond on an empty queue (log 3). -/
def step (s : State) : Host.Outcome State Fault Refusal :=
  match s.pending with
  | [] => event idleTick s
  | c :: rest => exec c { s with pending := rest }

/-- The card with the command that a word spells put at the front of its queue. -/
def State.withFetchWord (s : State) (nbits w : Nat) : State :=
  match decodeTableWord nbits w with
  | some c => { s with pending := c :: s.pending }
  | none => s

end Sys2Proof.Machine
end

