-- ==== Sys2Proof/Safety.lean ====
section
/-! DEFINITION. What the spec's laws say of the card's state, and what a safe step is. -/

namespace Sys2Proof.Machine

/-! ## The laws of the spec -/

/-- The parts of R6 that speak of one moment: a port's relays are never both closed, and at most one port has its test relay
closed. With them, that no port under test and no FAULTED port has a relay that the reset hold will close (R18; log 19). -/
def RelayLaw (s : State) : Prop :=
  (∀ p, ¬((s.port p).serviceClosed = true ∧ (s.port p).testClosed = true)) ∧
    (∀ p q, (s.port p).testClosed = true → (s.port q).testClosed = true → p = q) ∧
    ∀ p, (s.port p).serviceHeld = true → (s.port p).lineState ≠ .testing ∧ (s.port p).lineState ≠ .faulted

/-- The part of R6 that speaks of changes, from one state to the next: no port goes from one closed relay to the other; a
test relay closes at the end of ISOLATING's dead time alone; and a service relay closes at the end of RESTORING's dead time,
or by the reset hold (R7). -/
def RelaysPart (s t : State) : Prop :=
  ∀ p,
    ¬((s.port p).serviceClosed = true ∧ (t.port p).testClosed = true) ∧
    ¬((s.port p).testClosed = true ∧ (t.port p).serviceClosed = true) ∧
    ((s.port p).testClosed = false → (t.port p).testClosed = true →
      (∃ above rest, s.pending = .isolatingDeadTimeExpiry above :: rest) ∧
        ∃ run, s.tsq.running = some run ∧ run.req.port = p ∧ run.st = .isolating ∧ run.deadTimer = true) ∧
    ((s.port p).serviceClosed = false → (t.port p).serviceClosed = true →
      (s.port p).serviceHeld = true ∨
        ((∃ rest, s.pending = .restoringDeadTimeExpiry :: rest) ∧
          ∃ run, s.tsq.running = some run ∧ run.req.port = p ∧ run.st = .restoring ∧ run.deadTimer = true))

/-- The cells that every queue of the Frame Store holds together (R38). -/
def Fst.cellsQueued (x : Fst) : Nat :=
  (allPorts.map (fun p => cellsIn (tget x.up p) + cellsIn (tget x.down p))).sum + cellsIn x.requests + cellsIn x.responses

/-- The records that every queue of the Frame Store holds together (R38). -/
def Fst.recordsQueued (x : Fst) : Nat :=
  (allPorts.map (fun p => (tget x.up p).length + (tget x.down p).length)).sum + x.requests.length + x.responses.length

/-- Every cell and every record is in its free pool or in a queue, and the management queues hold at most 8 frames each
(R37, R38). -/
def StoreLaw (s : State) : Prop :=
  s.fst.freeCells + s.fst.cellsQueued = 4096 ∧ s.fst.freeRecords + s.fst.recordsQueued = 1024 ∧
    s.fst.requests.length ≤ 8 ∧ s.fst.responses.length ≤ 8

/-- The bounds of the control list (R60). -/
def ControlLaw (s : State) : Prop :=
  s.bau.ctrl.countP CtrlItem.isAdvert ≤ 1 ∧ s.bau.ctrl.countP CtrlItem.isClaim ≤ 1 ∧
    s.bau.ctrl.countP CtrlItem.isRelease ≤ 2

/-- A counter is in its range, and its sticky flag is set where it stands at the maximum (R163). -/
def Counter.lawful (c : Counter) : Prop := c.value ≤ counterMax ∧ (c.value = counterMax → c.sticky = true)

/-- Every counter is in its range, and its sticky flag is set where it stands at the maximum (R163). -/
def CounterLaw (s : State) : Prop :=
  (∀ p c, (s.portCounter p c).lawful) ∧ ∀ c, (s.cardCounter c).lawful

/-- The asserted reset input holds the card in RESET, where nothing is sent (R52, R165). -/
def ResetHolds (s : State) : Prop :=
  (s.pins.resetAsserted = true → s.stc.startState = .reset) ∧ (s.stc.startState = .reset → s.bau.tx.st = .idle)

/-- The cabinet supply state is the worst of the own measured state and the present peers' (R148); the peer table holds no
peer before JOINING (R85). -/
def SupplyLaw (s : State) : Prop :=
  s.smn.cabinet = worstSupply s ∧
    (s.stc.startState = .reset ∨ s.stc.startState = .loading → ∀ t, (s.peer t).present = false) ∧
    ResetHolds s

/-- The active port list holds exactly the eligible ports, each once (R90). -/
def ActiveLaw (s : State) : Prop := s.usc.active.Nodup ∧ ∀ p, p ∈ s.usc.active ↔ s.eligible p = true

/-- The credit lies between −24 and 65535, and each port's tokens between −24 and its held depth (R81). While a DATA frame is
in hand, the figures it will be charged to are not negative; and no upstream frame is longer than the link allows (R20). -/
def CreditLaw (s : State) : Prop :=
  -24 ≤ s.shu.credit ∧ s.shu.credit ≤ 65535 ∧
    (∀ p, -24 ≤ (s.uscPort p).tokens ∧ (s.uscPort p).tokens ≤ ((s.uscPort p).heldDepth : Int)) ∧
    (∀ p, s.bau.tx.hand = some (.data p) → 0 ≤ s.shu.credit ∧ 0 ≤ (s.uscPort p).tokens) ∧
    ∀ p f, f ∈ tget s.fst.up p → f.payload.length ≤ 1536

/-- Until JOINING every port is DISABLED with empty queues and no test runs (R2, R39, R169). -/
def StartLaw (s : State) : Prop :=
  ResetHolds s ∧
    (s.stc.startState = .reset ∨ s.stc.startState = .loading →
      s.tsq.running = none ∧
        ∀ p, (s.port p).lineState = .disabled ∧ tget s.fst.up p = [] ∧ tget s.fst.down p = [])

/-- A port's two queues are empty while it is WAITING, SHED, DISABLED, TESTING or FAULTED, but for one upstream frame in flight
(R8), and never beyond their limits (R41). -/
def QueueLaw (s : State) : Prop :=
  StartLaw s ∧
    (∀ p, (s.port p).lineState.flushes = true →
      tget s.fst.down p = [] ∧ (tget s.fst.up p = [] ∨ ∃ f, tget s.fst.up p = [f] ∧ f.inFlight = true)) ∧
    ∀ p, cellsIn (tget s.fst.up p) ≤ s.cfg.uqMax ∧ cellsIn (tget s.fst.down p) ≤ s.cfg.dqMax

/-- No port is TRAINING while its binder's entry is PENDING or HELD (R24, R32). -/
def TrainingLaw (s : State) : Prop :=
  StartLaw s ∧ ∀ p, (s.port p).lineState = .training → s.claimed (s.port p).binder = false

/-- The card's own claim: an entry carries the own flag exactly while the own claim context names its binder in SENDING,
SETTLING or HELD, and is then PENDING or HELD itself (R99, R106, R109). -/
def ClaimLaw (s : State) : Prop :=
  (∀ b, (s.claim b).own = true ↔ ∃ st, s.clt.own = some (b, st) ∧ st ≠ .lost) ∧
    ∀ b, (s.claim b).own = true → (s.claim b).phase ≠ .free

/-- A port is TESTING exactly when the running test is on it in ISOLATING, MEASURING or RESTORING, and a port appears at most
once among the test queue and the running test (R121); outside RUNNING no test runs (R116), and a stage runs in MEASURING
alone (R120). -/
def TestLaw (s : State) : Prop :=
  ResetHolds s ∧ (s.stc.startState ≠ .running → s.tsq.running = none) ∧
    (∀ p, (s.port p).lineState = .testing ↔ ∃ run, s.tsq.running = some run ∧ run.req.port = p ∧ run.st ≠ .claiming) ∧
    (s.msu.run ≠ .none → ∃ run, s.tsq.running = some run ∧ run.st = .measuring) ∧
    ((s.tsq.queue ++ (s.tsq.running.map Running.req).toList).map TestReq.port).Nodup

/-! ## Premises of the statements -/

/-- Nothing waits that the end of a step would take up beside the event itself: no test is queued, no management request
waits, and no answer or notice waits for placement; and the card is out of RESET. -/
def Unburdened (s : State) : Prop :=
  s.stc.startState ≠ .reset ∧ s.tsq.queue = [] ∧ s.fst.requests = [] ∧ s.mga.waiting = []

/-- The Management Agent takes the next request at once and has room for its answer, and the request brings no start choice
but its own: no request and no item waits, no restart is pending, the response queue and the pools have room, and no test is
queued or one runs (R47, R48, R116, R156). -/
def AgentFree (s : State) : Prop :=
  s.stc.startState ≠ .reset ∧ s.fst.requests = [] ∧ s.mga.waiting = [] ∧ s.mga.restartPending = false ∧
    s.fst.responses.length < 8 ∧ 64 ≤ s.fst.freeCells ∧ 1 ≤ s.fst.freeRecords ∧
    (s.tsq.queue = [] ∨ s.tsq.running ≠ none)

/-- A port record at its reset values, whatever its relays and what its link has carried (R2, R22, R154). -/
def PortAtReset (r : Port) : Prop :=
  r.admin = false ∧ r.priority = false ∧ r.binder = 0 ∧ r.lineState = .disabled ∧ r.power = .off ∧ r.profile = none ∧
    r.weightOverride = 0 ∧ r.loopEst = none ∧ r.testCeiling = 0 ∧ r.failures = 0 ∧ r.marginLow = 0 ∧ r.idleFlag = false ∧
    r.wakeWatch = false ∧ r.phase = .none ∧ r.attempt = 0 ∧ r.lastReport = none ∧ r.lastCause = .none ∧
    r.persistTimer = false ∧ r.trainTimer = false ∧ r.readyTimer = false ∧ r.idleTimer = false ∧ r.wakeArmed = false ∧
    r.reportAwaited = false

/-- The Frame Store at its reset values (R39). -/
def StoreAtReset (x : Fst) : Prop :=
  x.freeCells = 4096 ∧ x.freeRecords = 1024 ∧ x.requests = [] ∧ x.responses = [] ∧ x.busStaging = [] ∧
    ∀ p, tget x.up p = [] ∧ tget x.down p = [] ∧ tget x.pull p = false ∧ tget x.upStaging p = []

/-- The Bus Access Unit at its reset values (R52, R60, R62). -/
def BusAtReset (x : Bau) : Prop :=
  x.tx.st = .idle ∧ x.tx.hand = none ∧ x.tx.collisions = 0 ∧ x.tx.backoff = 0 ∧ x.ctrl = [] ∧ x.lastWinner = .data

/-- The Share Unit at its reset values (R70, R73, R74, R78, R80, R83). -/
def ShareAtReset (x : Shu) : Prop :=
  (∀ t, tget x.peers t =
      { present := false, demand := 0, weight := 0, supply := .mains, joining := false, lastSeq := 0, age := 0 }) ∧
    x.notice = none ∧ x.cWork = 390 ∧ x.grant = 0 ∧ x.credit = 0 ∧ x.nextSeq = 0

/-- The Upstream Scheduler at its reset values (R86). -/
def SchedulerAtReset (x : Usc) : Prop :=
  x.active = [] ∧ x.chosen = none ∧
    ∀ p, tget x.ports p = { tokens := 0, heldDepth := 24, deficit := 0, turnOpen := false }

/-- The Claim Table at its reset values (R99). -/
def ClaimsAtReset (x : Clt) : Prop :=
  x.own = none ∧ ∀ b, tget x.entries b = { phase := .free, claimant := none, remaining := 0, own := false }

/-- The Measurement Unit at rest: no stage runs or waits, nothing drives the pair, the capture timer is stopped and the hazard
watch disarmed (R130, R132, R134). -/
def MeasurementAtReset (x : Msu) : Prop :=
  x.stageWaiting = false ∧ x.supplyWaiting = false ∧ x.run = .none ∧ x.drive = .off ∧ x.capRunning = false ∧
    x.hazardArmed = false

/-- The Supply Monitor at its reset values, but for the mains input as seen (R143). -/
def SupplyAtReset (x : Smn) : Prop :=
  x.own = .mains ∧ x.cabinet = .mains ∧ x.debounce = false ∧ x.sampleTimer = none ∧ x.differing = 0

/-- The values that both resets give (R39, R52, R70, R86, R99, R117, R130, R132, R134, R143, R155). -/
def CommonReset (t : State) : Prop :=
  (∀ p, PortAtReset (t.port p) ∧ (t.port p).testClosed = false) ∧ StoreAtReset t.fst ∧ ShareAtReset t.shu ∧
    SchedulerAtReset t.usc ∧ ClaimsAtReset t.clt ∧ t.tsq.queue = [] ∧ t.tsq.running = none ∧ t.msu.holder = .none ∧
    MeasurementAtReset t.msu ∧ SupplyAtReset t.smn ∧ t.mga.waiting = [] ∧ t.mga.restartPending = false ∧
    t.mga.flags = 0 ∧ t.mga.mask = 1023 ∧ (∀ i, tget t.stc.staging i = 0) ∧ t.cfg = defaultCfg

/-- What a hardware reset alone returns to its first value (R117, R127, R155). -/
def RecordsCleared (t : State) : Prop :=
  t.tsq.seq = 0 ∧ (∀ p, tget t.tsq.results p = none) ∧
    (∀ p c, t.portCounter p c = { value := 0, sticky := false }) ∧ ∀ c, t.cardCounter c = { value := 0, sticky := false }

/-! ## Safe steps -/

/-- A step is safe where it neither faults nor refuses its command. -/
def SafeStep (s : State) : Prop := ∃ t, step s = .next t

end Sys2Proof.Machine
end

