-- ==== Sys2Proof/Certificates/Slice0/Obligations.lean ====
section
/-! DEFINITION. The statements for the provers. -/

open Sys2Proof Sys2Proof.Machine

/-! ## The interface, the resets and the start -/

/-- A step runs the command at the front of the queue, with the queue's rest. The queue of commands is the model's own
(log 24). -/
def Obligations.StepRunsFrontCommand : Prop :=
  ∀ (s : State) (c : Instr) (rest : List Instr), s.pending = c :: rest → step s = exec c { s with pending := rest }

/-- The state right after reset, and the state after every HARDWARE_RESET, hold the reset values of every block (R2, R39,
R52, R60, R62, R70, R86, R99, R117, R127, R143, R155, R165); a test relay opens, and an open service relay stays open but
at power-up (R7). The values that the spec leaves open are not stated (log 8). -/
def Obligations.HardwareResetGivesResetValues : Prop :=
  (CommonReset State.reset ∧ BusAtReset State.reset.bau ∧ RecordsCleared State.reset ∧
      State.reset.stc.startState = .reset ∧ ∀ p, (State.reset.port p).serviceClosed = true) ∧
    ∀ (powerUp : Bool) (s : State), ∃ t, exec (.hardwareReset powerUp) s = .next t ∧
      CommonReset t ∧ BusAtReset t.bau ∧ RecordsCleared t ∧ t.stc.startState = .reset ∧ t.pins.resetAsserted = true ∧
      t.pending = s.pending ∧
      ∀ p, (t.port p).serviceClosed = (powerUp || (s.port p).serviceClosed) ∧
        (t.port p).serviceHeld = !(t.port p).serviceClosed

/-- RESET_RELEASE samples the straps and the mains input and enters LOADING; under DEFAULTS, and under the pins 11,
LOADING ends at once with the defaults (R144, R165, R166). The reset hold's end closes the held service relays, or waits
for the release of the reset input, where RESET_RELEASE closes them (R7); a relay whose test relay is closed stays open (R5; log 19). The strap
levels are the command's operands, and the pins keep them as last read (log 9). -/
def Obligations.ResetReleaseAndHoldEnd : Prop :=
  (∀ (s : State) (station : BitVec 3) (mode : BitVec 2) (mains : Bool),
    s.pins.resetAsserted = true → s.tsq.queue = [] → s.fst.requests = [] → s.mga.waiting = [] →
    ∃ t, exec (.resetRelease station mode mains) s = .next t ∧
      t.stc.station = station.toFin ∧ t.stc.startMode = mode ∧ t.smn.mainsSeen = mains ∧ t.smn.debounce = false ∧
      t.pins = { resetAsserted := false, station := station, startMode := mode, mains := mains } ∧
      (s.relayHold = .elapsed → t.relayHold = .none ∧ ∀ p, (t.port p).serviceHeld = false ∧
        (t.port p).serviceClosed =
          ((s.port p).serviceClosed || ((s.port p).serviceHeld && !(s.port p).testClosed))) ∧
      (s.relayHold ≠ .elapsed → t.relayHold = s.relayHold ∧ ∀ p,
        (t.port p).serviceHeld = (s.port p).serviceHeld ∧ (t.port p).serviceClosed = (s.port p).serviceClosed) ∧
      (mode = 0 ∨ mode = 2 → t.stc.startState = .loading ∧ t.cfg = s.cfg ∧ t.shu = s.shu) ∧
      (mode = 1 ∨ mode = 3 → t.stc.startState = .joining ∧ t.cfg = defaultCfg ∧
        ∀ p, (t.port p).admin = true ∧ (t.port p).priority = false ∧ (t.port p).binder.val = p.val ∧
          (t.port p).weightOverride = 0)) ∧
  ∀ s : State, s.relayHold = .running →
    (s.pins.resetAsserted = true → s.stc.startState = .reset →
      exec .relayHoldEnd s = .next { s with relayHold := .elapsed }) ∧
    (s.pins.resetAsserted = false → Unburdened s →
      ∃ t, exec .relayHoldEnd s = .next t ∧ t.relayHold = .none ∧
        ∀ p, t.port p =
          if (s.port p).serviceHeld = true then
            { s.port p with
              serviceHeld := false
              serviceClosed := (s.port p).serviceClosed || !(s.port p).testClosed }
          else s.port p)

/-- A stored image is good where its length is 16..512, all its words were read and they sum to 0; it then gives the
configuration, and the card joins; otherwise the defaults do, and CONFIG_DEFAULTED is raised (R166). An image gives each
field from the words that the layout names, clamped into its range, and a field whose words it does not wholly hold keeps
its default (R26, R168, R170, R175); so an image of no words gives the defaults. The fields of the profiles that the
defaults leave absent are the model's choice (log 8), and an image that ends within a profile gives figure by figure what
it holds (log 27). -/
def Obligations.StoredImageEndsLoading : Prop :=
  (∀ img : List Word16,
    let c := imageCfg img
    let w := fun (i : Nat) => (img[i]?.getD 0).toNat
    let one := fun (i lo hi default : Nat) => if i < img.length then max lo (min hi (w i)) else default
    let two := fun (i lo hi default : Nat) =>
      if i + 1 < img.length then max lo (min hi (w i * 65536 + w (i + 1))) else default
    c.cCfg = one 2 1 65535 390 ∧ (c.priorityEqual = true ↔ 3 < img.length ∧ w 3 = 1) ∧
    (c.autoTest = false ↔ 4 < img.length ∧ w 4 = 0) ∧ c.uqMax = one 5 24 1024 192 ∧ c.dqMax = one 6 24 1024 256 ∧
    c.batteryCeiling = one 7 0 7 2 ∧ c.retrainThreshold = one 8 0 255 6 ∧ c.vLow = one 9 300 800 460 ∧
    c.vCrit = min (one 10 250 790 430) (c.vLow - 10) ∧
    c.noticeMask.toNat = (if 11 < img.length then w 11 % 1024 else 1023) ∧ c.rRef = two 12 1000 100000 10000 ∧
    c.vS = one 14 64 1024 384 ∧ c.hazardThreshold = one 15 80 2047 480 ∧ c.warningThreshold = one 16 1 480 40 ∧
    c.settleTime = one 17 10 2000 200 ∧ c.insulationThreshold = two 18 1000 10000000 100000 ∧
    c.capPerKm = one 20 20 100 50 ∧ c.velocity = one 21 100 300 200 ∧ c.maxDistance = one 22 100 20000 8000 ∧
    c.pulseWidth = one 23 1 255 2 ∧
    c.filterLength = (if img.length ≤ 24 then 8 else if w 24 < 8 then 4 else if w 24 < 16 then 8 else 16) ∧
    c.noiseThreshold = one 25 1 2047 12 ∧ c.deadTime = one 26 2 50 10 ∧
    (∀ i : Fin 8,
      let q := tget c.profiles i
      let d := tget defaultCfg.profiles i
      let o := 32 + 8 * i.val
      q.present = (if o < img.length then decide (w o ≠ 0) else d.present) ∧
      q.minDown = two (o + 1) 0 1048575 d.minDown ∧ q.minUp = two (o + 3) 0 1048575 d.minUp ∧
      q.aUp = one (o + 5) 1 4095 d.aUp ∧ q.weight = one (o + 6) 1 255 d.weight ∧
      q.maxLoop = one (o + 7) 0 65535 d.maxLoop) ∧
    ∀ p : PortId,
      let m := tget c.portMap p
      if 96 + p.val < img.length then
        m.binder.val = w (96 + p.val) % 32 ∧ m.admin = (w (96 + p.val)).testBit 5 ∧
          m.priority = (w (96 + p.val)).testBit 6 ∧ m.weightOverride.toNat = w (96 + p.val) / 256
      else m.binder.val = p.val ∧ m.admin = true ∧ m.priority = false ∧ m.weightOverride = 0) ∧
  imageCfg [] = defaultCfg ∧
  (tget defaultCfg.profiles 0 =
      { present := true, minDown := 40000, minUp := 10000, aUp := 40, weight := 4, maxLoop := 1500 } ∧
    tget defaultCfg.profiles 1 =
      { present := true, minDown := 20000, minUp := 4000, aUp := 16, weight := 3, maxLoop := 3000 } ∧
    tget defaultCfg.profiles 2 =
      { present := true, minDown := 8000, minUp := 1000, aUp := 4, weight := 2, maxLoop := 5000 } ∧
    tget defaultCfg.profiles 3 =
      { present := true, minDown := 2000, minUp := 512, aUp := 2, weight := 1, maxLoop := 0 } ∧
    ∀ i : Fin 8, 4 ≤ i.val → (tget defaultCfg.profiles i).present = false) ∧
  ∀ (s : State) (words : List Word16),
    Unburdened s → s.stc.startState = .loading → s.stc.startMode = 0 →
    (∀ n, words.head? = some n → 16 ≤ n.toNat → n.toNat ≤ 512 → n.toNat ≤ words.length →
      ((words.take n.toNat).map BitVec.toNat).sum % 65536 = 0 →
      ∃ t, exec (.configLoadComplete words) s = .next t ∧ t.stc.startState = .joining ∧
        t.cfg = imageCfg (words.take n.toNat) ∧ t.mga.mask = t.cfg.noticeMask ∧ t.msu.hazardRef = t.cfg.hazardThreshold ∧
        t.shu.cWork = workingCapacity t.cfg s.shu.notice ∧
        ∀ p, (t.port p).admin = (tget t.cfg.portMap p).admin ∧ (t.port p).priority = (tget t.cfg.portMap p).priority ∧
          (t.port p).binder = (tget t.cfg.portMap p).binder ∧
          (t.port p).weightOverride = (tget t.cfg.portMap p).weightOverride) ∧
    ((∀ n, words.head? = some n → ¬(16 ≤ n.toNat ∧ n.toNat ≤ 512 ∧ n.toNat ≤ words.length ∧
        ((words.take n.toNat).map BitVec.toNat).sum % 65536 = 0)) →
      ∃ t, exec (.configLoadComplete words) s = .next t ∧ t.stc.startState = .joining ∧ t.cfg = defaultCfg ∧
        t.flagSet .configDefaulted = true)

/-! ## The line-port links -/

/-- The record of a port that begins training from WAITING or SHED, its link powered ON: POWER ON goes out first where the
mode was another, then TRAIN with the next attempt number (R4, R22, R24). -/
def trainingRecord (r : Port) : Port :=
  { r with
    lineState := .training
    power := .on
    profile := none
    marginLow := 0
    idleFlag := false
    wakeWatch := false
    phase := .report
    attempt := r.attempt + 1
    persistTimer := false
    trainTimer := true
    readyTimer := false
    idleTimer := false
    wakeArmed := false
    reportAwaited := false
    linkOut := r.linkOut ++ (if r.power = .on then [] else [.power .on]) ++ [.train (r.attempt + 1)] }

/-- The record of a port that a training attempt finds with its binder claimed: HOLD, its link powered ON, with no TRAIN and
no new attempt number (R4, R22, R24). -/
def holdRecord (r : Port) : Port :=
  { r with
    lineState := .hold
    power := .on
    profile := none
    marginLow := 0
    idleFlag := false
    wakeWatch := false
    phase := .none
    persistTimer := false
    trainTimer := false
    readyTimer := false
    idleTimer := false
    wakeArmed := false
    reportAwaited := false
    linkOut := r.linkOut ++ (if r.power = .on then [] else [.power .on]) }

/-- The record of a port whose training attempt begins, by its binder (R24). -/
def attemptRecord (claimed : Bool) (r : Port) : Port := if claimed = true then holdRecord r else trainingRecord r

/-- In WAITING, ACTIVITY on starts the persistence timer, ACTIVITY off stops it, and its expiry begins a training attempt:
TRAIN where the binder is free, and HOLD where it is claimed (R23, R24). In SHED with wake watch on, the report after POWER
WATCH arms or is taken, ACTIVITY off arms the port, and ACTIVITY on wakes an armed one into such an attempt (R154). In HOLD,
ACTIVITY off sends the port to WAITING, or to SHED by the supply state (R12, R33). -/
def Obligations.ActivityLeadsToTraining : Prop :=
  (∀ (s : State) (p : PortId), Unburdened s → (s.port p).lineState = .waiting →
    exec (.activityOn p) s = .next (txArbitrate (s.setPort p { s.port p with persistTimer := true })) ∧
    exec (.activityOff p) s = .next (txArbitrate (s.setPort p { s.port p with persistTimer := false })) ∧
    ((s.port p).persistTimer = true →
      exec (.persistenceTimerExpiry p) s =
        .next (txArbitrate (s.setPort p (attemptRecord (s.claimed (s.port p).binder) (s.port p)))))) ∧
  (∀ (s : State) (p : PortId), Unburdened s → (s.port p).lineState = .shed → (s.port p).wakeWatch = true →
    exec (.activityOff p) s =
      .next (txArbitrate (s.setPort p { s.port p with reportAwaited := false, wakeArmed := true })) ∧
    ((s.port p).reportAwaited = true →
      exec (.activityOn p) s = .next (txArbitrate (s.setPort p { s.port p with reportAwaited := false }))) ∧
    ((s.port p).reportAwaited = false → (s.port p).wakeArmed = true →
      exec (.activityOn p) s =
        .next (txArbitrate (s.setPort p (attemptRecord (s.claimed (s.port p).binder) (s.port p)))))) ∧
  ∀ (s : State) (p : PortId), Unburdened s → (s.port p).lineState = .hold → (s.port p).power = .on →
    ∃ t, exec (.activityOff p) s = .next t ∧
      (s.smn.cabinet = .mains ∨ s.smn.cabinet = .battery →
        (t.port p).lineState = .waiting ∧ (t.port p).power = .on ∧ (t.port p).linkOut = (s.port p).linkOut ∧
          (t.port p).failures = (s.port p).failures) ∧
      (s.smn.cabinet = .low ∨ (s.smn.cabinet = .critical ∧ (s.port p).priority = true) →
        (t.port p).lineState = .shed ∧ (t.port p).wakeWatch = true ∧ (t.port p).power = .watch ∧
          (t.port p).linkOut = (s.port p).linkOut ++ [.power .watch] ∧ (t.port p).failures = 0) ∧
      (s.smn.cabinet = .critical ∧ (s.port p).priority = false →
        (t.port p).lineState = .shed ∧ (t.port p).wakeWatch = false ∧ (t.port p).power = .off ∧
          (t.port p).linkOut = (s.port p).linkOut ++ [.power .off] ∧ (t.port p).failures = 0) ∧
      tget t.fst.up p = keptByFlush (tget s.fst.up p) ∧ tget t.fst.down p = [] ∧ ∀ q, q ≠ p → t.port q = s.port q

/-- Profile selection chooses the first profile from the port's ceiling up that is present and meets the report and the loop
estimate, and none exactly where no profile up to index 7 does (R27). -/
def Obligations.SelectionTakesFirstSuitableProfile : Prop :=
  ∀ (s : State) (p : PortId) (down up : Nat),
    (ceilingOf s p = max (if s.smn.cabinet = .mains then 0 else s.cfg.batteryCeiling) (s.port p).testCeiling) ∧
    (∀ i, selectProfile s.cfg.profiles (ceilingOf s p) down up (s.port p).loopEst = some i ↔
      ceilingOf s p ≤ i.val ∧ profileSuits (tget s.cfg.profiles i) down up (s.port p).loopEst = true ∧
        ∀ j, j < i → ceilingOf s p ≤ j.val →
          profileSuits (tget s.cfg.profiles j) down up (s.port p).loopEst = false) ∧
    ∀ (q : Profile) (loop : Option Nat),
      profileSuits q down up loop = true ↔
        q.present = true ∧ q.minDown ≤ down ∧ q.minUp ≤ up ∧ (loop = none ∨ q.maxLoop = 0 ∨ ∃ m, loop = some m ∧ m ≤ q.maxLoop)

/-- A TRAIN_REPORT of the present attempt in phase REPORT is stored and, where selection finds a profile, commits it: COMMIT
with the profile's rates, phase READY and the ready timer (R25). -/
def Obligations.TrainReportCommitsProfile : Prop :=
  ∀ (s : State) (p : PortId) (down up : BitVec 20) (attenuation margin : Byte) (i : Fin 8),
    Unburdened s → (s.port p).lineState = .training → (s.port p).phase = .report →
    selectProfile s.cfg.profiles (ceilingOf s p) down.toNat up.toNat (s.port p).loopEst = some i →
    exec (.trainReport p (s.port p).attempt down up attenuation margin) s =
      .next (txArbitrate (s.setPort p
        { s.port p with
          trainTimer := false
          lastReport := some { down := down, up := up, attenuation := attenuation, margin := margin }
          profile := some i
          phase := .ready
          readyTimer := true
          linkOut := (s.port p).linkOut ++
            [.commit (s.port p).attempt i (tget s.cfg.profiles i).minDown (tget s.cfg.profiles i).minUp] }))

/-- The record of a port that retries after a training failure (R22, R24, R29): the cause and the count are written, ABANDON
goes out but after TRAIN_FAIL, and TRAIN follows with the next attempt number. -/
def retryRecord (cause : FailCause) (r : Port) : Port :=
  { r with
    failures := r.failures + 1
    lastCause := cause
    profile := none
    phase := .report
    attempt := r.attempt + 1
    trainTimer := true
    readyTimer := false
    linkOut := r.linkOut ++ (if cause = .trainFail then [] else [.abandon]) ++ [.train (r.attempt + 1)] }

/-- The record of a port after a training failure below the third: the next attempt, or HOLD where its binder is claimed (R24,
R29). -/
def afterFailure (claimed : Bool) (cause : FailCause) (r : Port) : Port :=
  if claimed = true then
    holdRecord { r with
      failures := r.failures + 1
      lastCause := cause
      linkOut := r.linkOut ++ (if cause = .trainFail then [] else [.abandon]) }
  else retryRecord cause r

/-- A training failure below the third counts TRAIN_FAILS and begins the next attempt at once, by each of the four events
(R24, R29). -/
def Obligations.FailedAttemptRetries : Prop :=
  ∀ (s : State) (p : PortId), Unburdened s → (s.port p).lineState = .training → (s.port p).failures < 2 →
    (s.portCounter p .trainFails).saturates 1 = false →
    ((s.port p).phase = .report ∨ (s.port p).phase = .ready →
      exec (.trainFail p (s.port p).attempt) s =
        .next (txArbitrate (countPort p .trainFails 1 (s.setPort p
          (afterFailure (s.claimed (s.port p).binder) .trainFail (s.port p)))))) ∧
    ((s.port p).phase = .report → (s.port p).trainTimer = true →
      exec (.trainTimerExpiry p) s =
        .next (txArbitrate (countPort p .trainFails 1 (s.setPort p
          (afterFailure (s.claimed (s.port p).binder) .trainTimeout (s.port p)))))) ∧
    ((s.port p).phase = .ready → (s.port p).readyTimer = true →
      exec (.readyTimerExpiry p) s =
        .next (txArbitrate (countPort p .trainFails 1 (s.setPort p
          (afterFailure (s.claimed (s.port p).binder) .readyTimeout (s.port p)))))) ∧
    ∀ (down up : BitVec 20) (attenuation margin : Byte), (s.port p).phase = .report →
      selectProfile s.cfg.profiles (ceilingOf s p) down.toNat up.toNat (s.port p).loopEst = none →
      exec (.trainReport p (s.port p).attempt down up attenuation margin) s =
        .next (txArbitrate (countPort p .trainFails 1 (s.setPort p
          (afterFailure (s.claimed (s.port p).binder) .noProfile
          { s.port p with
            lastReport := some { down := down, up := up, attenuation := attenuation, margin := margin } }))))

/-- The third consecutive failure sends the port to WAITING with its count 0, its queues flushed but for a head in flight,
and places one LINE_CHECK auto-test in the queue where R30 allows it; here a test on another port runs, so that the request
waits (R29, R30, R46). Of the four failure events this is TRAIN_FAIL in phase REPORT, in MAINS. The request's arrival number
is the model's own (log 22). -/
def Obligations.ThirdFailureWaitsAndAsksForTest : Prop :=
  ∀ (s : State) (p : PortId) (other : Running), Unburdened s → (s.port p).lineState = .training →
    (s.port p).phase = .report → (s.port p).failures = 2 → s.smn.cabinet = .mains →
    s.tsq.running = some other → other.req.port ≠ p →
    ∃ t, exec (.trainFail p (s.port p).attempt) s = .next t ∧
      (t.port p).lineState = .waiting ∧ (t.port p).failures = 0 ∧ (t.port p).lastCause = .trainFail ∧
      (t.port p).profile = none ∧ (t.port p).phase = .none ∧ (t.port p).attempt = (s.port p).attempt ∧
      tget t.fst.up p = keptByFlush (tget s.fst.up p) ∧ tget t.fst.down p = [] ∧
      (∀ q, q ≠ p → t.port q = s.port q ∧ tget t.fst.down q = tget s.fst.down q) ∧
      t.tsq.queue =
        if s.cfg.autoTest = true then
          [{ port := p, kind := .lineCheck, intrusive := true, tone := none, origin := .auto, arrival := s.tsq.arrivals }]
        else []

/-- A READY of the present attempt in phase READY brings the port into service: its counts are 0, its idle timer runs, and
the scheduler writes its held depth and lapses its tokens (R10, R28, R87). -/
def Obligations.ReadyEntersService : Prop :=
  ∀ (s : State) (p : PortId), Unburdened s → (s.port p).lineState = .training → (s.port p).phase = .ready →
    (s.port p).power = .on →
    exec (.ready p (s.port p).attempt) s =
      .next (txArbitrate ((s.setPort p
        { s.port p with
          lineState := .inService
          failures := 0
          marginLow := 0
          idleFlag := false
          idleTimer := true
          persistTimer := false
          trainTimer := false
          readyTimer := false
          wakeWatch := false
          wakeArmed := false
          reportAwaited := false
          phase := .none }).modUsc p
        (fun u => { u with heldDepth := max (2 * s.aUpOf p) 24, tokens := min u.tokens 0 })))

/-- A MARGIN report on a port in service with a free binder: at or above the threshold it sets the count to 0, below it
raises it, and at the third the port is retrained with RETRAINS counted; with the binder claimed the report is ignored
(R34, R35). -/
def Obligations.MarginCountsAndRetrains : Prop :=
  ∀ (s : State) (p : PortId) (level : Byte), Unburdened s → (s.port p).lineState = .inService →
    (s.claimed (s.port p).binder = true → exec (.margin p level) s = .next (txArbitrate s)) ∧
    (s.claimed (s.port p).binder = false →
      (s.cfg.retrainThreshold ≤ level.toNat →
        exec (.margin p level) s = .next (txArbitrate (s.setPort p { s.port p with marginLow := 0 }))) ∧
      (level.toNat < s.cfg.retrainThreshold → (s.port p).marginLow < 2 →
        exec (.margin p level) s =
          .next (txArbitrate (s.setPort p { s.port p with marginLow := (s.port p).marginLow + 1 }))) ∧
      (level.toNat < s.cfg.retrainThreshold → (s.port p).marginLow = 2 →
        ∃ t, exec (.margin p level) s = .next t ∧ (t.port p).lineState = .training ∧ (t.port p).marginLow = 0 ∧
          (t.port p).profile = none ∧ (t.port p).phase = .report ∧ (t.port p).attempt = (s.port p).attempt + 1 ∧
          (t.port p).trainTimer = true ∧ (t.port p).idleTimer = false ∧ (t.port p).idleFlag = false ∧
          t.portCounter p .retrains = (s.portCounter p .retrains).rise 1 ∧
          tget t.fst.down p = tget s.fst.down p ∧ tget t.fst.pull p = false ∧ p ∉ t.usc.active ∧
          ∀ q, q ≠ p → t.port q = s.port q))

/-- A FAR_FAULT in WAITING, TRAINING, HOLD or IN_SERVICE counts FAR_FAULTS and sets the PORT_FAULT flag; no port record
changes (R36). A counter's rise stops at 4,294,967,295, where its sticky flag is set; a flag newly set raises COUNTER_SATURATED,
and no other rise raises anything (R163). A cause raised with its flag set does nothing; with its flag clear the flag becomes set,
and an enabled cause makes one NOTICE, with the cause and the flags, at the tail of the response queue, or, behind waiting
items and without room, at the tail of the waiting list (R48, R161). That it does so where an earlier NOTICE of the cause still
stands in the response queue is the model's choice (log 40). -/
def Obligations.FarFaultIsCountedAndNoticed : Prop :=
  (∀ (s : State) (p : PortId), Unburdened s →
    ((s.port p).lineState = .waiting ∨ (s.port p).lineState = .training ∨ (s.port p).lineState = .hold ∨
      (s.port p).lineState = .inService →
      ∃ t, exec (.farFault p) s = .next t ∧ t.ports = s.ports ∧ t.flagSet .portFault = true ∧
        (∀ q c, t.portCounter q c = if q = p ∧ c = .farFaults then (s.portCounter p .farFaults).rise 1 else s.portCounter q c)
        ∧ ((s.portCounter p .farFaults).sticky = false → 4294967294 ≤ (s.portCounter p .farFaults).value →
          t.flagSet .counterSaturated = true) ∧ (∀ q, tget t.fst.down q = tget s.fst.down q) ∧ t.clt = s.clt ∧ t.tsq = s.tsq ∧ t.smn = s.smn ∧ t.shu = s.shu) ∧
    ((s.port p).lineState = .disabled ∨ (s.port p).lineState = .testing ∨ (s.port p).lineState = .shed ∨
      (s.port p).lineState = .faulted → exec (.farFault p) s = .next (txArbitrate s))) ∧
  (∀ (k : Nat) (c : Counter), 1 ≤ k →
    (c.rise k).value = min 4294967295 (c.value + k) ∧
      ((c.rise k).sticky = true ↔ c.sticky = true ∨ 4294967295 ≤ c.value + k)) ∧
  (∀ (s : State) (p : PortId) (c : PortCounter) (k : Nat), 1 ≤ k →
    let old := s.portCounter p c
    let t := countPort p c k s
    (∀ q d, t.portCounter q d = if q = p ∧ d = c then old.rise k else s.portCounter q d) ∧
      (old.sticky = false → 4294967295 ≤ old.value + k → t.flagSet .counterSaturated = true) ∧
      (old.sticky = true ∨ old.value + k < 4294967295 →
        t = { s with mga := { s.mga with portCounters := t.mga.portCounters } })) ∧
  (∀ (s : State) (c : CardCounter),
    let old := s.cardCounter c
    let t := countCard c s
    (∀ d, t.cardCounter d = if d = c then old.rise 1 else s.cardCounter d) ∧
      (old.sticky = false → 4294967294 ≤ old.value → t.flagSet .counterSaturated = true) ∧
      (old.sticky = true ∨ old.value < 4294967294 →
        t = { s with mga := { s.mga with cardCounters := t.mga.cardCounters } })) ∧
  ∀ (s : State) (c : Cause),
    let enabled := s.mga.mask.getLsbD c.bit = true
    let room := s.fst.responses.length < 8 ∧ 1 ≤ s.fst.freeCells ∧ 1 ≤ s.fst.freeRecords
    (s.flagSet c = true → raiseNotice c s = s) ∧
      (s.flagSet c = false → ∃ flags : BitVec 10,
        (∀ d : Cause, flags.getLsbD d.bit = true ↔ d = c ∨ s.flagSet d = true) ∧
        let t := { s with mga := { s.mga with flags := flags } }
        (¬enabled → raiseNotice c s = t) ∧
        (enabled → s.mga.waiting = [] → room → raiseNotice c s =
          { t with fst := { s.fst with
            freeCells := s.fst.freeCells - 1
            freeRecords := s.fst.freeRecords - 1
            responses := s.fst.responses ++
              [{ kind := .notice, port := 31, inFlight := false,
                 payload := [u8 c.bit, u8 (flags.toNat / 256), u8 flags.toNat] }] } }) ∧
        (enabled → s.mga.waiting ≠ [] ∨ ¬room → raiseNotice c s =
          { t with mga := { t.mga with waiting := s.mga.waiting ++ [.notice c] } }))

/-- A SIGNAL_LOST of the present attempt in TRAINING or IN_SERVICE sends the port to WAITING in MAINS and BATTERY, and to
SHED in LOW and CRITICAL; no ABANDON goes out, no failure is counted, and both queues are flushed but for a head in flight
(R12, R31, R36, R46). The entry to SHED counts SHEDS (R11). -/
def Obligations.SignalLostLeavesTraffic : Prop :=
  ∀ (s : State) (p : PortId), Unburdened s →
    (s.port p).lineState = .inService ∨ ((s.port p).lineState = .training ∧ p ∉ s.usc.active) →
    (s.port p).power = .on →
    ∃ t, exec (.signalLost p (s.port p).attempt) s = .next t ∧
      (s.smn.cabinet = .mains ∨ s.smn.cabinet = .battery →
        (t.port p).lineState = .waiting ∧ (t.port p).power = .on ∧ (t.port p).linkOut = (s.port p).linkOut ∧
          (t.port p).failures = (s.port p).failures) ∧
      (s.smn.cabinet = .low ∨ (s.smn.cabinet = .critical ∧ (s.port p).priority = true) →
        (t.port p).lineState = .shed ∧ (t.port p).wakeWatch = true ∧ (t.port p).power = .watch ∧
          (t.port p).linkOut = (s.port p).linkOut ++ [.power .watch] ∧ (t.port p).failures = 0) ∧
      (s.smn.cabinet = .critical ∧ (s.port p).priority = false →
        (t.port p).lineState = .shed ∧ (t.port p).wakeWatch = false ∧ (t.port p).power = .off ∧
          (t.port p).linkOut = (s.port p).linkOut ++ [.power .off] ∧ (t.port p).failures = 0) ∧
      t.portCounter p .sheds =
        (if s.smn.cabinet = .mains ∨ s.smn.cabinet = .battery then s.portCounter p .sheds
        else (s.portCounter p .sheds).rise 1) ∧
      (t.port p).profile = none ∧ (t.port p).phase = .none ∧ (t.port p).marginLow = 0 ∧
      tget t.fst.up p = keptByFlush (tget s.fst.up p) ∧ tget t.fst.down p = [] ∧ tget t.fst.pull p = false ∧
      p ∉ t.usc.active ∧ t.portCounter p .trainFails = s.portCounter p .trainFails ∧
      ∀ q, q ≠ p → t.port q = s.port q

/-- A FRAME_REQUEST on a port in service: an empty queue sets the pull-pending flag; otherwise the head frame goes out on the
link, its record and cells return, DN_FRAMES and DN_BLOCKS rise and the idle timer starts again; in any other line state
nothing happens (R10, R43). -/
def Obligations.FrameRequestPullsHeadFrame : Prop :=
  ∀ (s : State) (p : PortId), Unburdened s →
    ((s.port p).lineState ≠ .inService → exec (.frameRequest p) s = .next (txArbitrate s)) ∧
    ((s.port p).lineState = .inService → tget s.fst.down p = [] →
      exec (.frameRequest p) s = .next (txArbitrate { s with fst := { s.fst with pull := tset s.fst.pull p true } })) ∧
    ∀ (f : Frame) (rest : List Frame), (s.port p).lineState = .inService → tget s.fst.down p = f :: rest →
      (s.portCounter p .dnFrames).saturates 1 = false → (s.portCounter p .dnBlocks).saturates f.blocks = false →
      ∃ t, exec (.frameRequest p) s = .next t ∧
        t.port p = { s.port p with idleFlag := false, idleTimer := true, linkOut := (s.port p).linkOut ++ [.frame f.payload] } ∧
        tget t.fst.down p = rest ∧ tget t.fst.pull p = false ∧ t.fst.freeCells = s.fst.freeCells + f.cells ∧
        t.fst.freeRecords = s.fst.freeRecords + 1 ∧ t.portCounter p .dnFrames = (s.portCounter p .dnFrames).rise 1 ∧
        t.portCounter p .dnBlocks = (s.portCounter p .dnBlocks).rise f.blocks ∧
        (∀ q, q ≠ p → t.port q = s.port q ∧ tget t.fst.down q = tget s.fst.down q) ∧ t.fst.responses = s.fst.responses

/-- The idle timer's expiry sets the idle flag of a port in service; in LOW, and in CRITICAL on a priority port, it sheds the
port with wake watch on and counts SHEDS (R10, R11, R153). -/
def Obligations.IdleExpirySetsFlagOrSheds : Prop :=
  ∀ (s : State) (p : PortId), Unburdened s → (s.port p).lineState = .inService → (s.port p).idleTimer = true →
    (s.smn.cabinet = .mains ∨ s.smn.cabinet = .battery ∨ (s.smn.cabinet = .critical ∧ (s.port p).priority = false) →
      exec (.idleTimerExpiry p) s =
        .next (txArbitrate (s.setPort p { s.port p with idleFlag := true, idleTimer := false }))) ∧
    (s.smn.cabinet = .low ∨ (s.smn.cabinet = .critical ∧ (s.port p).priority = true) →
      ∃ t, exec (.idleTimerExpiry p) s = .next t ∧ (t.port p).lineState = .shed ∧ (t.port p).wakeWatch = true ∧
        t.portCounter p .sheds = (s.portCounter p .sheds).rise 1 ∧
        (t.port p).power = .watch ∧ (t.port p).idleFlag = false ∧ (t.port p).profile = none ∧
        tget t.fst.up p = keptByFlush (tget s.fst.up p) ∧ tget t.fst.down p = [] ∧ p ∉ t.usc.active ∧
        ∀ q, q ≠ p → t.port q = s.port q)

/-! ## The Frame Store -/

/-- A DATA frame that fails a condition of R41, in either direction, raises the counter of the first one that fails, and that port
counter alone; no port record and no queued frame changes. -/
def Obligations.FailedAdmissionOnlyCounts : Prop :=
  ∀ (s : State) (p : PortId) (payload : List Byte), Unburdened s → 1 ≤ payload.length → payload.length ≤ 1536 →
    let n := (payload.length + 63) / 64
    let inService := (s.port p).lineState = .inService
    let room := fun (q : List Frame) (limit : Nat) => cellsIn q + n ≤ limit
    let pool := n + 48 ≤ s.fst.freeCells
    let dropped := fun (i : Instr) (c : PortCounter) =>
      ∃ t, exec i s = .next t ∧ t.ports = s.ports ∧ t.fst.down = s.fst.down ∧ t.fst.pull = s.fst.pull ∧
        (∀ q, (tget t.fst.up q).map Frame.payload = (tget s.fst.up q).map Frame.payload) ∧
        ∀ q d, t.portCounter q d = if q = p ∧ d = c then (s.portCounter p c).rise 1 else s.portCounter q d
    (¬inService → dropped (.upstreamFrame p payload) .upDropState ∧ dropped (.dataReceived p payload) .dnDropState) ∧
    (inService →
      (¬room (tget s.fst.up p) s.cfg.uqMax → dropped (.upstreamFrame p payload) .upDropFull) ∧
      (¬room (tget s.fst.down p) s.cfg.dqMax → dropped (.dataReceived p payload) .dnDropFull) ∧
      (room (tget s.fst.up p) s.cfg.uqMax → ¬pool → dropped (.upstreamFrame p payload) .upDropPool) ∧
      (room (tget s.fst.down p) s.cfg.dqMax → ¬pool → dropped (.dataReceived p payload) .dnDropPool) ∧
      (room (tget s.fst.up p) s.cfg.uqMax → pool → s.fst.freeRecords < 17 →
        dropped (.upstreamFrame p payload) .upDropRecord) ∧
      (room (tget s.fst.down p) s.cfg.dqMax → pool → s.fst.freeRecords < 17 →
        dropped (.dataReceived p payload) .dnDropRecord))

/-- An admitted upstream frame takes its cells and one record, joins the tail of its queue, is a passing frame, and
brings the scheduler's list up to the port; nothing else changes but by the arbiter's choice. An admitted downstream
frame joins the tail of its queue, and with the pull-pending flag set it is handed over in the same step, so that an
empty queue is empty again (R10, R41 to R43). That a staging buffer is empty after its frame's completion is the model's
reading (log 28). -/
def Obligations.AdmittedFramesJoinTheirQueues : Prop :=
  (∀ (s : State) (p : PortId) (payload : List Byte), Unburdened s → 1 ≤ payload.length → payload.length ≤ 1536 →
    (s.port p).lineState = .inService → cellsIn (tget s.fst.up p) + (payload.length + 63) / 64 ≤ s.cfg.uqMax →
    (payload.length + 63) / 64 + 48 ≤ s.fst.freeCells → 17 ≤ s.fst.freeRecords →
    exec (.upstreamFrame p payload) s =
      .next (txArbitrate (uscUpdate p
        { s with
          ports := tset s.ports p { s.port p with idleFlag := false, idleTimer := true }
          fst := { s.fst with
            freeCells := s.fst.freeCells - (payload.length + 63) / 64
            freeRecords := s.fst.freeRecords - 1
            upStaging := tset s.fst.upStaging p []
            up := tset s.fst.up p (tget s.fst.up p ++
              [{ kind := .data, port := ⟨p.val, by omega⟩, payload := payload, inFlight := false }]) } }))) ∧
  ∀ (s : State) (p : PortId) (payload : List Byte), Unburdened s → 1 ≤ payload.length → payload.length ≤ 1536 →
    (s.port p).lineState = .inService → cellsIn (tget s.fst.down p) + (payload.length + 63) / 64 ≤ s.cfg.dqMax →
    (payload.length + 63) / 64 + 48 ≤ s.fst.freeCells → 17 ≤ s.fst.freeRecords →
    (tget s.fst.pull p = false →
      exec (.dataReceived p payload) s =
        .next (txArbitrate
          { s with
            fst := { s.fst with
              freeCells := s.fst.freeCells - (payload.length + 63) / 64
              freeRecords := s.fst.freeRecords - 1
              busStaging := []
              down := tset s.fst.down p (tget s.fst.down p ++
                [{ kind := .data, port := ⟨p.val, by omega⟩, payload := payload, inFlight := false }]) } })) ∧
    (tget s.fst.pull p = true → tget s.fst.down p = [] →
      ∃ t, exec (.dataReceived p payload) s = .next t ∧ tget t.fst.down p = [] ∧ tget t.fst.pull p = false ∧
        (t.port p).linkOut = (s.port p).linkOut ++ [.frame payload] ∧ (t.port p).idleFlag = false ∧
        t.portCounter p .dnFrames = (s.portCounter p .dnFrames).rise 1 ∧
        t.portCounter p .dnBlocks = (s.portCounter p .dnBlocks).rise ((payload.length + 63) / 64) ∧
        ∀ q, q ≠ p → t.port q = s.port q ∧ tget t.fst.down q = tget s.fst.down q)

/-- A flush removes every record of a port's two queues but an upstream head in flight, returns the removed records and
their cells to the pools, counts FLUSHED once for each, and clears the pull-pending flag; it touches no other port's queue
and no management queue (R46). -/
def Obligations.FlushKeepsOnlyHeadInFlight : Prop :=
  ∀ (s : State) (p : PortId),
    let kept := match tget s.fst.up p with
      | f :: _ => if f.inFlight = true then [f] else []
      | [] => []
    let gone := (tget s.fst.up p).length - kept.length + (tget s.fst.down p).length
    let t := flushPort p s
    tget t.fst.up p = kept ∧ tget t.fst.down p = [] ∧ tget t.fst.pull p = false ∧
    t.portCounter p .flushed = (s.portCounter p .flushed).rise gone ∧
    ((s.portCounter p .flushed).saturates gone = false →
      t.fst.freeRecords = s.fst.freeRecords + gone ∧
      t.fst.freeCells + cellsIn kept = s.fst.freeCells + cellsIn (tget s.fst.up p) + cellsIn (tget s.fst.down p) ∧
      t.fst.responses = s.fst.responses) ∧
    t.fst.requests = s.fst.requests ∧ t.fst.upStaging = s.fst.upStaging ∧ t.ports = s.ports ∧
    ∀ q, q ≠ p → tget t.fst.up q = tget s.fst.up q ∧ tget t.fst.down q = tget s.fst.down q ∧
      tget t.fst.pull q = tget s.fst.pull q

/-! ## The cabinet bus: reception -/

/-- The card after carrier has ended: in DEFERRING the count of the gap begins again (R53). -/
def afterCarrier (s : State) : State :=
  if s.bau.tx.st = .deferring then { s with bau := { s.bau with tx := { s.bau.tx with gapCounting := true } } } else s

/-- A carrier that a collision met, in which the card itself sent, or that began before the reset ended is not received, and
a card that is sending receives nothing. Of the rest, in each other state of the transmitter, fewer than 64 bytes are a runt, a
wrong CRC-32 over the 1548 bytes at most that are taken counts RX_CRC, a longer carrier, a length over 1536 and one beyond the
bytes received count RX_LONG, and an unknown kind and a length that the kind does not allow count RX_BADKIND (R64, R67). Of the
frames that pass, one that carries the own station number as its source counts RX_BADSOURCE and sets STATION_CONFLICT, and one
whose source is 9 to 15 or does not fit its kind counts RX_BADSOURCE (R65); one for another station is ignored; an MRSP and
a NOTICE count RX_BADKIND, and a wrong port and station 15 as the destination of DATA and MREQ count RX_BADPORT (R66). Nothing of
any of these is stored, and no other card counter changes. Which sources fit a DATA frame for another station is the model's
reading (log 29). -/
def Obligations.BadCarriersAreCountedAndDropped : Prop :=
  ∀ (s : State) (bytes : List Byte), Unburdened s →
    let received := exec (.carrierEnd false false bytes false) s
    let dropped := fun (c : CardCounter) =>
      ∃ t, received = .next t ∧ t.ports = s.ports ∧ t.clt = s.clt ∧ t.shu = s.shu ∧ t.tsq = s.tsq ∧ t.smn = s.smn ∧
        t.fst.down = s.fst.down ∧ t.fst.requests = s.fst.requests ∧
        ∀ d, t.cardCounter d = if d = c then (s.cardCounter c).rise 1 else s.cardCounter d
    let taken := bytes.take 1548
    let whole := crcBytes (taken.take (taken.length - 4)) = taken.drop (taken.length - 4)
    let kind := (byteAt bytes 0).toNat
    let dest := (byteAt bytes 1).toNat / 16
    let source := (byteAt bytes 1).toNat % 16
    let port := (byteAt bytes 2).toNat % 32
    let announced := (byteAt bytes 4).toNat * 256 + (byteAt bytes 5).toNat
    let own := s.stc.station.val + 1
    let forCard := dest = own ∨ dest = 15
    let inLength := bytes.length ≤ 1548 ∧ announced ≤ 1536 ∧ announced + 12 ≤ bytes.length
    let kindOk := 1 ≤ kind ∧ kind ≤ 8 ∧ (kind = 1 → 1 ≤ announced) ∧ (kind = 2 → announced = 8) ∧
      (kind = 3 → announced = 4) ∧ (kind = 4 ∨ kind = 5 → announced = 2)
    let sourceOk :=
      (kind = 5 ∨ kind = 6 ∨ (kind = 1 ∧ forCard) → source = 0) ∧ (kind = 1 → source ≤ 8) ∧
        (kind = 2 ∨ kind = 3 ∨ kind = 4 ∨ kind = 7 ∨ kind = 8 → 1 ≤ source ∧ source ≤ 8)
    (∀ collided own stale : Bool, collided = true ∨ own = true ∨ stale = true ∨ s.bau.tx.st = .sending →
      exec (.carrierEnd collided own bytes stale) s = .next (txArbitrate (afterCarrier s))) ∧
    (s.bau.tx.st ≠ .sending →
      (bytes.length < 64 → dropped .rxRunt) ∧
      (64 ≤ bytes.length → ¬whole → dropped .rxCrc) ∧
      (64 ≤ bytes.length → whole → ¬inLength → dropped .rxLong) ∧
      (64 ≤ bytes.length → whole → inLength →
        (¬kindOk → dropped .rxBadKind) ∧
        (kindOk → source = own →
          dropped .rxBadSource ∧ ∀ t, received = .next t → t.flagSet .stationConflict = true) ∧
        (kindOk → source ≠ own → ¬sourceOk → dropped .rxBadSource) ∧
        (kindOk → source ≠ own → sourceOk →
          (¬forCard → received = .next (txArbitrate (afterCarrier s))) ∧
          (forCard → kind = 7 ∨ kind = 8 → dropped .rxBadKind) ∧
          (forCard → (kind = 1 ∧ 16 ≤ port) ∨ (kind = 6 ∧ port ≠ 31) ∨ ((kind = 1 ∨ kind = 6) ∧ dest = 15) →
            dropped .rxBadPort))))

/-- A carrier that holds a frame built by the layouts of R51, R172 and R173 for the card does what the row of that frame
does with the same fields, in every state of the transmitter but SENDING: the receiver reads back what the layout writes (R64 to
R67); in DEFERRING the gap's count begins again besides (R53). That the delivery rows and
CARRIER_END bring the same effect is the model's reading (log 5). -/
def Obligations.ReceiverReadsTheLayouts : Prop :=
  ∀ (s : State), s.stc.startState ≠ .reset → s.bau.tx.st ≠ .sending →
    let t := afterCarrier s
    (∀ (y : StationId) (b : BinderId) (held : Bool) (duration : Byte), y ≠ s.stc.station →
      exec (.carrierEnd false false (busFrame .claim 15 (y.val + 1) 31 [u8 b.val, flagByte held, duration, 0]) false) s =
        exec (.claimReceived y b (flagByte held) duration) t) ∧
    (∀ (y : StationId) (b : BinderId), y ≠ s.stc.station →
      exec (.carrierEnd false false (busFrame .release 15 (y.val + 1) 31 [u8 b.val, 0]) false) s =
        exec (.releaseReceived y b) t) ∧
    (∀ (y : StationId) (d w : BitVec 16) (supply q : Byte) (j : Bool), y ≠ s.stc.station →
      exec (.carrierEnd false false
        (busFrame .advert 15 (y.val + 1) 31 (u16 d.toNat ++ u16 w.toNat ++ [supply, flagByte j, q, 0])) false) s =
        exec (.advertReceived y d w supply j q) t) ∧
    (∀ c : BitVec 16, exec (.carrierEnd false false (busFrame .capacity 15 0 31 (u16 c.toNat)) false) s =
      exec (.capacityReceived c) t) ∧
    (∀ (p : PortId) (payload : List Byte), 1 ≤ payload.length → payload.length ≤ 1536 →
      exec (.carrierEnd false false (busFrame .data s.stationNumber 0 p.val payload) false) s =
        exec (.dataReceived p payload) t) ∧
    ∀ payload : List Byte, payload.length ≤ 1536 →
      exec (.carrierEnd false false (busFrame .mreq s.stationNumber 0 31 payload) false) s = exec (.mreqReceived payload) t

/-- An ADVERT from a peer is clamped and taken in JOINING and RUNNING, ADVERTS_HEARD is counted, a gap in the sequence of a
present entry counts ADVERT_GAPS, and the cabinet supply state is recomputed; here it does not change (R71, R148). A CAPACITY
frame in JOINING and RUNNING becomes the notice at age 0, and the working capacity the smaller of it and the configured one
(R73, R74). In LOADING both are discarded (R85). -/
def Obligations.AdvertsAndCapacityAreTaken : Prop :=
  (∀ (s : State) (y : StationId) (d w : BitVec 16) (supply q : Byte) (j : Bool), Unburdened s → y ≠ s.stc.station →
    let entry : Peer :=
      { present := true, demand := d.toNat,
        weight := if 4080 < w.toNat then 4080 else if w.toNat = 0 ∧ 0 < d.toNat then 1 else w.toNat,
        supply := if supply = 0 then .mains else if supply = 1 then .battery else if supply = 2 then .low else .critical,
        joining := j, lastSeq := q, age := 0 }
    let gap := (s.peer y).present = true ∧ q ≠ (s.peer y).lastSeq + 1
    (s.stc.startState = .loading → exec (.advertReceived y d w supply j q) s = .next (txArbitrate s)) ∧
    (s.stc.startState = .joining ∨ s.stc.startState = .running → worstSupply (setPeer y entry s) = s.smn.cabinet →
      ∃ t, exec (.advertReceived y d w supply j q) s = .next t ∧ t.peer y = entry ∧ (∀ u, u ≠ y → t.peer u = s.peer u) ∧
        t.cardCounter .advertsHeard = (s.cardCounter .advertsHeard).rise 1 ∧
        (gap → t.cardCounter .advertGaps = (s.cardCounter .advertGaps).rise 1) ∧
        (¬gap → t.cardCounter .advertGaps = s.cardCounter .advertGaps) ∧ t.ports = s.ports ∧ t.smn = s.smn)) ∧
  ∀ (s : State) (c : BitVec 16), Unburdened s →
    (s.stc.startState = .joining ∨ s.stc.startState = .running →
      exec (.capacityReceived c) s =
        .next (txArbitrate
          { s with shu := { s.shu with notice := some { capacity := c.toNat, age := 0 }, cWork := min s.cfg.cCfg c.toNat } }))
    ∧ (s.stc.startState = .loading → exec (.capacityReceived c) s = .next (txArbitrate s))

/-! ## Claims -/

/-- The entry that a CLAIM from a peer gives (R101). -/
def claimedBy (y : StationId) (phase duration : Byte) : ClaimEntry :=
  { phase := if phase = 1 then .held else .pending, claimant := some y, remaining := duration.toNat * 100 + 500,
    own := false }

/-- A CLAIM from a peer takes a FREE entry and refreshes its own one; a newly claimed binder sends its TRAINING ports to HOLD
with ABANDON and moves no other port (R32, R101). -/
def Obligations.ClaimTakesFreeEntry : Prop :=
  ∀ (s : State) (y : StationId) (b : BinderId) (phase duration : Byte), Unburdened s → y ≠ s.stc.station →
    ((s.claim b).phase = .free →
      ∃ t, exec (.claimReceived y b phase duration) s = .next t ∧ t.claim b = claimedBy y phase duration ∧
        (∀ c, c ≠ b → t.claim c = s.claim c) ∧
        (∀ p, (s.port p).binder = b → (s.port p).lineState = .training → (s.port p).phase ≠ .none → (s.port p).power = .on →
          (t.port p).lineState = .hold ∧ (t.port p).phase = .none ∧ (t.port p).profile = none ∧
            (t.port p).failures = (s.port p).failures ∧ (t.port p).linkOut = (s.port p).linkOut ++ [.abandon]) ∧
        ∀ p, (s.port p).binder ≠ b ∨ (s.port p).lineState ≠ .training → t.port p = s.port p) ∧
    ((s.claim b).phase ≠ .free → (s.claim b).own = false → (s.claim b).claimant = some y →
      exec (.claimReceived y b phase duration) s =
        .next (txArbitrate { s with clt := { s.clt with entries := tset s.clt.entries b (claimedBy y phase duration) } }))

/-- Two peers' claims for one binder are resolved by their phases and their station numbers, and a meeting of two HELD claims
is counted and noticed (R102). -/
def Obligations.PeerClaimsAreResolvedByPhase : Prop :=
  ∀ (s : State) (x y : StationId) (b : BinderId) (phase duration : Byte), Unburdened s → y ≠ s.stc.station → x ≠ y →
    (s.claim b).phase ≠ .free → (s.claim b).own = false → (s.claim b).claimant = some x →
    let xHeld := (s.claim b).phase = .held
    let yHeld := phase = 1
    ∃ t, exec (.claimReceived y b phase duration) s = .next t ∧
      (xHeld ∧ ¬yHeld → t.claim b = s.claim b) ∧ (¬xHeld ∧ yHeld → t.claim b = claimedBy y phase duration) ∧
      ((xHeld ↔ yHeld) → t.claim b = if x < y then s.claim b else claimedBy y phase duration) ∧
      (xHeld ∧ yHeld → t.cardCounter .claimClashes = (s.cardCounter .claimClashes).rise 1 ∧
        t.flagSet .claimClash = true) ∧
      (¬(xHeld ∧ yHeld) → t.mga = s.mga) ∧
      (∀ c, c ≠ b → t.claim c = s.claim c) ∧ t.ports = s.ports ∧ t.clt.own = s.clt.own

/-- The running test as it enters RESTORING, with its outcome by the first line of R126 that applies (R121; log 18). -/
def restoringRun (run : Running) : Running :=
  { run with
    st := .restoring
    stage := none
    deadTimer := true
    outcome := some
      (if run.abort ≠ none then .aborted
      else if run.faultFound = true then .fault
      else if run.clash = true then .disturbed
      else if run.req.kind = .tone then .completed
      else .pass) }

/-- A step that takes a test to RESTORING: no stage runs and nothing drives the pair, the test relay opens, and no other port
changes (R121, R131; log 18). -/
def EntersRestoring (run : Running) (s t : State) : Prop :=
  t.tsq.running = some (restoringRun run) ∧ t.msu.run = .none ∧ t.msu.drive = .off ∧
    t.port run.req.port = { s.port run.req.port with testClosed := false } ∧
    ∀ q, q ≠ run.req.port → t.port q = s.port q

/-- A peer's CLAIM against the card's own claim: who keeps the entry, what is placed and withdrawn, and what the sequencer is
told, by the six rows of R109; a HELD claim kept is repeated, and a clash lost stops REFLECTION and NOISE, after which RESTORING
follows, and leaves every other stage and state as it was (R125). That the dead time runs in RESTORING wherever the test relay
stood is the model's reading (log 18). -/
def Obligations.OwnClaimMeetsPeerClaim : Prop :=
  ∀ (s : State) (y : StationId) (b : BinderId) (step : ClaimStep) (phase duration : Byte) (run : Running),
    Unburdened s → y ≠ s.stc.station → s.clt.own = some (b, step) → (s.claim b).own = true →
    s.tsq.running = some run → run.req.kind = .lineCheck → (s.port run.req.port).binder = b →
    ((s.claim b).phase = .pending → run.st = .claiming →
      (phase ≠ 1 → s.stc.station < y → exec (.claimReceived y b phase duration) s = .next (txArbitrate s)) ∧
      (phase = 1 ∨ y < s.stc.station →
        exec (.claimReceived y b phase duration) s =
          .next (txArbitrate
            { s with
              clt := { entries := tset s.clt.entries b (claimedBy y phase duration), own := none }
              bau := { s.bau with ctrl := s.bau.ctrl.filter (fun i => !i.isClaimFor b) }
              tsq := { s.tsq with queue := [run.req], running := none } }))) ∧
    ((s.claim b).phase = .held →
      (phase ≠ 1 → exec (.claimReceived y b phase duration) s =
        .next (txArbitrate (s.modCtrl (ctrlPlaceClaim (.claim b true 20))))) ∧
      (phase = 1 → ∃ u, exec (.claimReceived y b phase duration) s = .next (txArbitrate u) ∧
        u.cardCounter .claimClashes = (s.cardCounter .claimClashes).rise 1 ∧ u.flagSet .claimClash = true ∧
        (s.stc.station < y → u.clt = s.clt ∧ u.tsq = s.tsq ∧ u.ports = s.ports ∧
          u.bau.ctrl = ctrlPlaceClaim (.claim b true 20) s.bau.ctrl) ∧
        (y < s.stc.station →
          let quiet := run.st = .measuring ∧ (run.stage = some .reflection ∨ run.stage = some .noise)
          u.claim b = claimedBy y phase duration ∧ u.clt.own = some (b, .lost) ∧ u.bau.ctrl = s.bau.ctrl ∧
            (¬quiet → u.tsq.running = some { run with clash := true } ∧ u.ports = s.ports ∧ u.msu = s.msu) ∧
            (quiet → EntersRestoring { run with clash := true } s u))))

/-- A RELEASE from the claimant, and the end of a peer's claim's remaining time, free the entry, and every HOLD port of the
binder begins a training attempt; a RELEASE for an entry that is FREE, names another claimant or holds the card's own claim
changes nothing; an entry whose time was restored does not expire, nor does the card's own claim (R33, R103, R104). A step with
no command is one millisecond: a peer's claim in its last one expires, and the time of every other falls by 1 (R104; that such a
step is a millisecond is the model's choice, log 3). -/
def Obligations.ReleaseAndExpiryFreeAPeersEntry : Prop :=
  (∀ (s : State) (y : StationId) (b : BinderId), Unburdened s → y ≠ s.stc.station →
    ((s.claim b).phase ≠ .free → (s.claim b).own = false → (s.claim b).claimant = some y →
      ∃ t, exec (.releaseReceived y b) s = .next t ∧
        t.claim b = { phase := .free, claimant := none, remaining := 0, own := false } ∧
        (∀ c, c ≠ b → t.claim c = s.claim c) ∧
        (∀ p, (s.port p).binder = b → (s.port p).lineState = .hold →
          (t.port p).lineState = .training ∧ (t.port p).phase = .report ∧ (t.port p).attempt = (s.port p).attempt + 1 ∧
            (t.port p).trainTimer = true ∧ (t.port p).failures = (s.port p).failures) ∧
        ∀ p, (s.port p).binder ≠ b ∨ (s.port p).lineState ≠ .hold → t.port p = s.port p) ∧
    ((s.claim b).phase = .free ∨ (s.claim b).own = true ∨ (s.claim b).claimant ≠ some y →
      exec (.releaseReceived y b) s = .next (txArbitrate s))) ∧
  (∀ (s : State) (b : BinderId), Unburdened s →
    ((s.claim b).phase ≠ .free → (s.claim b).own = false → (s.claim b).remaining ≤ 1 →
      ∃ t, exec (.claimExpiry b) s = .next t ∧
        t.claim b = { phase := .free, claimant := none, remaining := 0, own := false } ∧
        (∀ c, c ≠ b → t.claim c = s.claim c) ∧
        (∀ p, (s.port p).binder = b → (s.port p).lineState = .hold →
          (t.port p).lineState = .training ∧ (t.port p).phase = .report) ∧
        ∀ p, (s.port p).binder ≠ b ∨ (s.port p).lineState ≠ .hold → t.port p = s.port p) ∧
    ((s.claim b).phase = .free ∨ (s.claim b).own = true ∨ 1 < (s.claim b).remaining →
      exec (.claimExpiry b) s = .next (txArbitrate s))) ∧
  ∀ s : State, Unburdened s → s.pending = [] →
    let counts := fun (b : BinderId) => (s.claim b).phase ≠ .free ∧ (s.claim b).own = false
    ∃ t, step s = .next t ∧
      (∀ b, (counts b → (s.claim b).remaining ≤ 1 →
          t.claim b = { phase := .free, claimant := none, remaining := 0, own := false }) ∧
        (counts b → 1 < (s.claim b).remaining →
          t.claim b = { s.claim b with remaining := (s.claim b).remaining - 1 }) ∧
        (¬counts b → t.claim b = s.claim b)) ∧
      ∀ p,
        let expires := counts (s.port p).binder ∧ (s.claim (s.port p).binder).remaining ≤ 1
        (expires → (s.port p).lineState = .hold → (t.port p).lineState = .training ∧ (t.port p).phase = .report) ∧
          (¬expires ∨ (s.port p).lineState ≠ .hold → t.port p = s.port p)

/-- The settle timer's end confirms the own claim: the entry is HELD, a CLAIM HELD is placed, the renewal timer runs, and the
test leaves CLAIMING for ISOLATING with its port TESTING and the service relay open; each renewal places the CLAIM again
(R108, R118, R119). -/
def Obligations.SettledClaimIsHeldAndRenewed : Prop :=
  ∀ (s : State) (b : BinderId), Unburdened s →
    (∀ run : Running, s.clt.own = some (b, .settling) → s.tsq.running = some run → run.st = .claiming →
      (s.claim b).phase = .pending →
      ∃ u, exec .settleExpiry s = .next (txArbitrate u) ∧
        u.claim b = { phase := .held, claimant := some s.stc.station, remaining := 0, own := true } ∧
        u.clt.own = some (b, .held) ∧ u.bau.ctrl = ctrlPlaceClaim (.claim b true 20) s.bau.ctrl ∧
        (u.port run.req.port).lineState = .testing ∧ (u.port run.req.port).serviceClosed = false ∧
        (u.port run.req.port).profile = none ∧
        u.tsq.running = some { run with
          st := .isolating
          fromFaulted := (s.port run.req.port).lineState == .faulted
          deadTimer := true } ∧
        tget u.fst.down run.req.port = [] ∧ ∀ q, q ≠ run.req.port → u.port q = s.port q) ∧
    (s.clt.own = some (b, .held) →
      exec .renewalExpiry s = .next (txArbitrate (s.modCtrl (ctrlPlaceClaim (.claim b true 20)))))

/-! ## The cabinet bus: transmission -/

/-- The transmitter's moves that end no transmission: the gap's end, its break by carrier, the collision's jam, and the
back-off's end (R49, R53, R55, R56, R59). The jam's end counts COLLISIONS and raises the frame's count to n; below 12 the
back-off is 64 byte-times a slot, with 0 to 2^min(n,8) − 1 slots, each of which some draw gives, and 0 slots defer at
once (R55, R56). The marks of the gap and of the jam, the moment of a response frame's in-flight mark, the draw as an
operand and the record of the jam are the model's reading (log 4, 10, 11, 13, 16). -/
def Obligations.TransmitterMovesByItsEvents : Prop :=
  (∀ s : State, Unburdened s →
    (s.bau.tx.st = .deferring → s.bau.tx.gapCounting = true → s.bau.tx.hand ≠ some .mgmt →
      exec .deferGapComplete s =
        .next { s with bau := { s.bau with tx := { s.bau.tx with st := .sending, gapCounting := false } } }) ∧
    (∀ (f : Frame) (rest : List Frame), s.bau.tx.st = .deferring → s.bau.tx.gapCounting = true →
      s.bau.tx.hand = some .mgmt → s.fst.responses = f :: rest →
      exec .deferGapComplete s =
        .next { s with
          bau := { s.bau with tx := { s.bau.tx with st := .sending, gapCounting := false } }
          fst := { s.fst with responses := { f with inFlight := true } :: rest } }) ∧
    (s.bau.tx.st = .deferring →
      exec .carrierSensedInGap s = .next { s with bau := { s.bau with tx := { s.bau.tx with gapCounting := false } } }) ∧
    (s.bau.tx.st = .sending → s.bau.tx.jamming = false →
      exec .collision s = .next
        { s with bau := { s.bau with tx := { s.bau.tx with jamming := true }, sent := s.bau.sent ++ [.jam] } }) ∧
    (s.bau.tx.st = .backingOff →
      exec .backoffExpiry s =
        .next { s with bau := { s.bau with tx := { s.bau.tx with st := .deferring, backoff := 0, gapCounting := true } } })) ∧
  (∀ (s : State) (draw : Byte) (straps : Straps), Unburdened s → s.bau.tx.st = .sending → s.bau.tx.jamming = true → s.bau.tx.collisions < 11 →
    (s.cardCounter .collisions).saturates 1 = false →
    let n := s.bau.tx.collisions + 1
    let slots := draw.toNat % 2 ^ min n 8
    exec (.jamEnd draw straps) s = .next (countCard .collisions
      { s with bau := { s.bau with tx :=
        { s.bau.tx with
          st := if slots = 0 then .deferring else .backingOff
          collisions := n
          backoff := 64 * slots
          jamming := false
          gapCounting := if slots = 0 then true else s.bau.tx.gapCounting } } })) ∧
  ∀ n slots : Nat, 1 ≤ n → slots < 2 ^ min n 8 → ∃ draw : Byte, draw.toNat % 2 ^ min n 8 = slots

/-- The successful end of a DATA frame: its bytes have gone out, the head leaves its queue, UP_FRAMES and UP_BLOCKS rise,
and its blocks are charged to the credit and the port's tokens; the transmitter is IDLE for the next choice. An aborted
one, by its twelfth collision or by a late one, leaves its queue with TX_ABORT counted and nothing charged; at the late one
jam goes out and BUS_FAULT is raised, and a frame of 64 bytes meets none (R45, R54, R55, R57, R58, R81, R89). The record of
what was sent and the reading of R57 against R61 are the model's (log 13, 15). That the frames behind stay, and the tokens are the
old figure less the blocks, for a port that left service too, is the model's choice (log 34). -/
def Obligations.DataFramesEndSentOrAborted : Prop :=
  (∀ (s : State) (p : PortId) (f : Frame) (rest : List Frame) (straps : Straps), Unburdened s → s.bau.tx.st = .sending →
    s.bau.tx.jamming = false → s.bau.tx.hand = some (.data p) → tget s.fst.up p = f :: rest →
    ∃ u, exec (.successfulEnd straps) s = .next (txArbitrate u) ∧ u.bau.tx = Tx.initial ∧
      u.bau.sent = s.bau.sent ++ [.frame (busFrame .data 0 s.stationNumber p.val f.payload)] ∧ tget u.fst.up p = rest ∧
      u.shu.credit = s.shu.credit - (f.blocks : Int) ∧ (u.uscPort p).tokens = (s.uscPort p).tokens - (f.blocks : Int) ∧
      u.portCounter p .upFrames = (s.portCounter p .upFrames).rise 1 ∧
      u.portCounter p .upBlocks = (s.portCounter p .upBlocks).rise f.blocks ∧
      u.portCounter p .txAbort = s.portCounter p .txAbort ∧ u.usc.chosen = none ∧
      (∀ q, q ≠ p → u.uscPort q = s.uscPort q ∧ tget u.fst.up q = tget s.fst.up q) ∧ u.ports = s.ports) ∧
  ∀ (s : State) (p : PortId) (f : Frame) (rest : List Frame) (draw : Byte) (straps : Straps), Unburdened s →
    s.bau.tx.st = .sending → s.bau.tx.hand = some (.data p) → tget s.fst.up p = f :: rest →
    let aborted := fun (i : Instr) (c : CardCounter) (out : List BusOut) =>
      ∃ t, exec i s = .next t ∧ t.bau.sent = s.bau.sent ++ out ∧
        (tget t.fst.up p).map Frame.payload = rest.map Frame.payload ∧
        t.shu = s.shu ∧ (t.uscPort p).tokens = (s.uscPort p).tokens ∧
        t.portCounter p .txAbort = (s.portCounter p .txAbort).rise 1 ∧
        t.portCounter p .upFrames = s.portCounter p .upFrames ∧ t.cardCounter c = (s.cardCounter c).rise 1 ∧
        t.ports = s.ports
    (s.bau.tx.jamming = true → s.bau.tx.collisions = 11 → aborted (.jamEnd draw straps) .collisions []) ∧
    (s.bau.tx.jamming = false → 52 < f.payload.length →
      aborted .lateCollision .lateCollisions [.jam] ∧
      ∀ t, exec .lateCollision s = .next t → t.flagSet .busFault = true ∧
        t.cardCounter .collisions = s.cardCounter .collisions) ∧
    (s.bau.tx.jamming = false → f.payload.length ≤ 52 → exec .lateCollision s = .next s)

/-- The end of a control item. A sent ADVERT counts ADVERTS_SENT, a sent CLAIM PENDING of the own claim starts the settle
timer, and any other end changes no more than the transmitter (R58, R61, R83, R107). An item aborted by its twelfth collision:
an ADVERT is dropped; a RELEASE is placed once more with its retried mark and then dropped; a CLAIM PENDING of the own claim is
withdrawn, its entry FREE and its test's request back in the queue, which the start choice takes again at once, with a new
claim, where it may start (R61, R107, R110, R116, R118). A control item's 64 bytes meet no late collision (R57; log 15). The
record of what was sent is the model's (log 13). -/
def Obligations.ControlItemsEndByKind : Prop :=
  (∀ (s : State) (item : CtrlItem) (straps : Straps), Unburdened s → s.bau.tx.st = .sending → s.bau.tx.jamming = false →
    s.bau.tx.hand = some (.control item) →
    let sent : State := { s with bau := { s.bau with
      tx := Tx.initial
      sent := s.bau.sent ++ [.frame (wireOf (.control item) s)] } }
    exec .lateCollision s = .next s ∧
    (item.isAdvert = true → (s.cardCounter .advertsSent).saturates 1 = false →
      exec (.successfulEnd straps) s = .next (txArbitrate (countCard .advertsSent sent))) ∧
    (item.isRelease = true → exec (.successfulEnd straps) s = .next (txArbitrate sent)) ∧
    ∀ (b : BinderId) (held : Bool) (d : Byte), item = .claim b held d →
      exec (.successfulEnd straps) s = .next (txArbitrate
        (if held = false ∧ s.clt.own = some (b, .sending) then { sent with clt := { s.clt with own := some (b, .settling) } }
        else sent))) ∧
  ∀ (s : State) (item : CtrlItem) (draw : Byte) (straps : Straps), Unburdened s → s.bau.tx.st = .sending →
    s.bau.tx.jamming = true → s.bau.tx.collisions = 11 → s.bau.tx.hand = some (.control item) →
    (s.cardCounter .collisions).saturates 1 = false →
    let ended := fun (ctrl : List CtrlItem) =>
      Host.Outcome.next (txArbitrate (countCard .collisions { s with bau := { s.bau with tx := Tx.initial, ctrl := ctrl } }))
    (item.isAdvert = true → exec (.jamEnd draw straps) s = ended s.bau.ctrl) ∧
    (∀ (b : BinderId) (retried : Bool), item = .release b retried →
      exec (.jamEnd draw straps) s = ended (if retried = true then s.bau.ctrl else ctrlPlaceRelease b true s.bau.ctrl)) ∧
    ∀ (b : BinderId) (held : Bool) (d : Byte), item = .claim b held d →
      (held = true ∨ s.clt.own ≠ some (b, .sending) → exec (.jamEnd draw straps) s = ended s.bau.ctrl) ∧
      ∀ run : Running, held = false → s.clt.own = some (b, .sending) → s.tsq.running = some run → run.st = .claiming →
        run.req.kind = .lineCheck → (s.port run.req.port).binder = b →
        let ls := (s.port run.req.port).lineState
        let again := s.smn.cabinet = .mains ∧ s.stc.startState = .running ∧
          (run.req.intrusive = true ∨ (ls ≠ .inService ∧ ls ≠ .training ∧ ls ≠ .hold))
        let left := s.bau.ctrl.filter (fun i => !i.isClaimFor b)
        ∃ u, exec (.jamEnd draw straps) s = .next (txArbitrate u) ∧ u.bau.tx = Tx.initial ∧
          (¬again → u.clt.own = none ∧ u.claim b = { phase := .free, claimant := none, remaining := 0, own := false } ∧
            u.bau.ctrl = left ∧ u.tsq.running = none ∧ u.tsq.queue = [run.req]) ∧
          (again → u.clt.own = some (b, .sending) ∧
            u.claim b = { phase := .pending, claimant := some s.stc.station, remaining := 0, own := true } ∧
            u.bau.ctrl = ctrlPlaceClaim (.claim b false 20) left ∧ u.tsq.queue = [] ∧
            u.tsq.running = some
              { req := run.req, seq := (s.tsq.seq + 1) % 65536, st := .claiming, stage := none, parts := Parts.empty,
                faultFound := false, fromFaulted := false, clash := false, abort := none, deadTimer := false,
                outcome := none })

/-- The arbiter chooses the head control item first; of MGMT and DATA the one that waits, and where both do, MGMT under ABOVE
and the one that lost the last contested choice under EQUAL, with the winner recorded (R62). Before it, a placement on the
control list: a pending ADVERT, CLAIM or RELEASE for the same binder is replaced in its place, and an item with none to replace
joins the tail; a RELEASE first removes the pending CLAIM for its binder, and of two RELEASE items for other binders drops the
older (R60). That the older is the one that stands first is the model's choice (log 33). -/
def Obligations.ArbiterChoosesByClass : Prop :=
  (∀ (l pre post : List CtrlItem) (x item : CtrlItem),
    ((∀ y, y ∈ l → y.isAdvert = false) → ctrlPlaceAdvert item l = l ++ [item]) ∧
    ((∀ y, y ∈ l → y.isClaim = false) → ctrlPlaceClaim item l = l ++ [item]) ∧
    (l = pre ++ x :: post → x.isAdvert = true → (∀ y, y ∈ pre → y.isAdvert = false) →
      ctrlPlaceAdvert item l = pre ++ item :: post) ∧
    (l = pre ++ x :: post → x.isClaim = true → (∀ y, y ∈ pre → y.isClaim = false) →
      ctrlPlaceClaim item l = pre ++ item :: post)) ∧
  (∀ (l pre post : List CtrlItem) (b : BinderId) (r : CtrlItem) (retried : Bool),
    let left := l.filter (fun y => !y.isClaimFor b)
    let placed := CtrlItem.release b retried
    (left = pre ++ r :: post → r.isReleaseFor b = true → (∀ y, y ∈ pre → y.isReleaseFor b = false) →
      ctrlPlaceRelease b retried l = pre ++ placed :: post) ∧
    ((∀ y, y ∈ left → y.isReleaseFor b = false) →
      (left.countP CtrlItem.isRelease < 2 → ctrlPlaceRelease b retried l = left ++ [placed]) ∧
      (left = pre ++ r :: post → 2 ≤ left.countP CtrlItem.isRelease → r.isRelease = true →
        (∀ y, y ∈ pre → y.isRelease = false) → ctrlPlaceRelease b retried l = pre ++ post ++ [placed]))) ∧
  ∀ s : State, s.bau.tx.st = .idle →
    let dataWaits := 0 < s.shu.credit ∧ s.usc.active ≠ []
    let mgmtWaits := s.fst.responses ≠ []
    let inHand := fun (h : InHand) (t : State) => t.bau.tx =
      { st := .deferring, hand := some h, collisions := 0, backoff := 0, jamming := false, gapCounting := true }
    (∀ (item : CtrlItem) (rest : List CtrlItem), s.bau.ctrl = item :: rest →
      inHand (.control item) (txArbitrate s) ∧ (txArbitrate s).bau.ctrl = rest ∧
        (txArbitrate s).bau.lastWinner = s.bau.lastWinner ∧ (txArbitrate s).usc = s.usc ∧ (txArbitrate s).fst = s.fst) ∧
    (s.bau.ctrl = [] → ¬dataWaits → ¬mgmtWaits → txArbitrate s = s) ∧
    (s.bau.ctrl = [] → mgmtWaits → ¬dataWaits ∨ s.cfg.priorityEqual = false →
      inHand .mgmt (txArbitrate s) ∧ (txArbitrate s).bau.lastWinner = s.bau.lastWinner ∧ (txArbitrate s).usc = s.usc) ∧
    (s.bau.ctrl = [] → mgmtWaits → dataWaits → s.cfg.priorityEqual = true → s.bau.lastWinner = .data →
      inHand .mgmt (txArbitrate s) ∧ (txArbitrate s).bau.lastWinner = .mgmt ∧ (txArbitrate s).usc = s.usc) ∧
    ∀ (p : PortId) (others : List PortId), s.bau.ctrl = [] → 0 < s.shu.credit → s.usc.active = p :: others →
      tget s.fst.up p ≠ [] → ¬mgmtWaits ∨ (s.cfg.priorityEqual = true ∧ s.bau.lastWinner = .mgmt) →
      inHand (.data p) (txArbitrate s) ∧
        (mgmtWaits → (txArbitrate s).bau.lastWinner = .data) ∧ (txArbitrate s).usc.active = s.usc.active

/-- USC's choice: the head port of the list, with a quantum of 24 times its effective weight where its turn is new; the head
frame's blocks leave the deficit, the turn is open, and the frame is marked in flight; credit and tokens are untouched (R93).
At the end of the chosen port's frame, a port that is no longer eligible leaves the list with deficit 0 and a closed turn; at
the head with its turn open it stays while its deficit covers its next frame, and else moves to the tail with its deficit kept
and its turn closed (R90, R94). -/
def Obligations.SchedulerServesTurns : Prop :=
  (∀ (s : State) (p : PortId) (others : List PortId) (f : Frame) (rest : List Frame),
    s.usc.active = p :: others → tget s.fst.up p = f :: rest →
    ∃ t, uscChoose s = some (p, t) ∧ t.usc.chosen = some p ∧ t.usc.active = s.usc.active ∧
      tget t.fst.up p = { f with inFlight := true } :: rest ∧
      t.uscPort p =
        { s.uscPort p with
          deficit := (if (s.uscPort p).turnOpen = true then (s.uscPort p).deficit
            else (s.uscPort p).deficit + 24 * s.weightOf p) - f.blocks
          turnOpen := true } ∧
      t.shu = s.shu ∧ ∀ q, q ≠ p → t.uscPort q = s.uscPort q ∧ tget t.fst.up q = tget s.fst.up q) ∧
  ∀ (s : State) (p : PortId) (others : List PortId), s.usc.active = p :: others → p ∉ others →
    (s.eligible p = false →
      (uscAfterEnd p s).usc.active = others ∧
        (uscAfterEnd p s).uscPort p = { s.uscPort p with deficit := 0, turnOpen := false }) ∧
    ∀ (f : Frame) (rest : List Frame), s.eligible p = true → tget s.fst.up p = f :: rest → (s.uscPort p).turnOpen = true →
      (f.blocks ≤ (s.uscPort p).deficit →
        (uscAfterEnd p s).usc.active = p :: others ∧ (uscAfterEnd p s).uscPort p = s.uscPort p) ∧
      ((s.uscPort p).deficit < f.blocks →
        (uscAfterEnd p s).usc.active = others ++ [p] ∧
          (uscAfterEnd p s).uscPort p = { s.uscPort p with turnOpen := false })

/-! ## The share period -/

/-- A share-period expiry ages the peers and removes those that reach age 3, the cabinet supply state following the rest; it grants
by the computation on what stands then and lets positive credit lapse (R69, R72, R80, R148). Where no peer is removed, it
ages the notice, rewrites the own entry, places the ADVERT and refills the tokens besides (R73, R83, R88). The own demand sums,
over the ports in service, the lesser of queue depth and A_up, at most 65535, and the own weight the weights of those with frames;
both are 0 in JOINING (R75). In JOINING it asks for nothing, and its third expiry enters RUNNING, where every enabled port goes to WAITING or
SHED (R12, R84, R169). That the arbiter
chooses once, after the whole event, where CONTROL and DATA begin to wait at one expiry, is the model's choice (log 2), and so is
the refill of a port that entered IN_SERVICE at that moment (log 38), and the move of a port whose service relay the reset hold
still holds open (log 36). -/
def Obligations.SharePeriodRenewsCredit : Prop :=
  (∀ s : State,
    let serving := allPorts.filter (fun p => (s.port p).lineState == .inService)
    (s.stc.startState = .joining → ownDemand s = 0 ∧ ownWeight s = 0) ∧
    (s.stc.startState ≠ .joining →
      ownDemand s = min 65535 ((serving.map (fun p => min (cellsIn (tget s.fst.up p)) (s.aUpOf p))).sum) ∧
      ownWeight s = ((serving.filter (fun p => decide (tget s.fst.up p ≠ []))).map s.weightOf).sum)) ∧
  (∀ s : State, Unburdened s → s.stc.startState = .joining ∨ s.stc.startState = .running →
    let stale := fun (y : StationId) => y ≠ s.stc.station ∧ (s.peer y).present = true ∧ 2 ≤ (s.peer y).age
    ∃ t, exec .sharePeriodExpiry s = .next t ∧
      (∀ y, (stale y → t.peer y =
          { present := false, demand := 0, weight := 0, supply := .mains, joining := false, lastSeq := 0, age := 0 }) ∧
        (y ≠ s.stc.station → ¬stale y →
          t.peer y = if (s.peer y).present = true then { s.peer y with age := (s.peer y).age + 1 } else s.peer y)) ∧
      t.smn.cabinet = (if ∃ y, stale y then worstSupply t else s.smn.cabinet) ∧
      (t.smn.cabinet ≠ s.smn.cabinet → t.flagSet .supplyChange = true ∧
        (s.stc.startState = .running → t.smn.cabinet = .mains ∨ t.smn.cabinet = .battery →
          ∀ p, (s.port p).lineState = .shed → (t.port p).lineState = .waiting)) ∧
      t.shu.grant = (computeShares t.shu.cWork (sharersOf t.shu.peers)).grantOf s.stc.station ∧
      t.shu.credit = min s.shu.credit 0 + (t.shu.grant : Int) ∧ t.shu.nextSeq = s.shu.nextSeq + 1) ∧
  ∀ s : State, Unburdened s →
    (∀ y, y ≠ s.stc.station → (s.peer y).present = true → (s.peer y).age < 2) →
    (s.stc.startState = .running →
      ∃ u, exec .sharePeriodExpiry s = .next (txArbitrate u) ∧
        (∀ y, y ≠ s.stc.station →
          u.peer y = if (s.peer y).present = true then { s.peer y with age := (s.peer y).age + 1 } else s.peer y) ∧
        u.peer s.stc.station =
          { present := true, demand := ownDemand s, weight := ownWeight s, supply := s.smn.own, joining := false,
            lastSeq := s.shu.nextSeq, age := 0 } ∧
        (s.shu.notice = none → u.shu.notice = none ∧ u.shu.cWork = s.shu.cWork) ∧
        (∀ n, s.shu.notice = some n →
          (n.age < 2 → u.shu.notice = some { n with age := n.age + 1 } ∧ u.shu.cWork = s.shu.cWork) ∧
          (2 ≤ n.age → u.shu.notice = none ∧ u.shu.cWork = s.cfg.cCfg)) ∧
        u.shu.grant = (computeShares u.shu.cWork (sharersOf u.shu.peers)).grantOf s.stc.station ∧
        u.shu.credit = min s.shu.credit 0 + (u.shu.grant : Int) ∧ u.shu.nextSeq = s.shu.nextSeq + 1 ∧
        u.bau.ctrl =
          ctrlPlaceAdvert (.advert (ownDemand s) (ownWeight s) s.smn.own false s.shu.nextSeq) s.bau.ctrl ∧
        (∀ p, (u.uscPort p).tokens =
          if (s.port p).lineState = .inService then
            min ((s.uscPort p).tokens + (s.aUpOf p : Int)) ((s.uscPort p).heldDepth : Int)
          else 0) ∧
        u.ports = s.ports ∧ u.fst = s.fst ∧ u.smn = s.smn) ∧
    (s.stc.startState = .joining →
      ∃ t, exec .sharePeriodExpiry s = .next t ∧ t.stc.joinCount = s.stc.joinCount + 1 ∧
        t.peer s.stc.station =
          { present := true, demand := 0, weight := 0, supply := s.smn.own, joining := true, lastSeq := s.shu.nextSeq,
            age := 0 } ∧
        (s.stc.joinCount < 2 → t.stc.startState = .joining ∧ t.ports = s.ports) ∧
        (2 ≤ s.stc.joinCount → t.stc.startState = .running ∧
          ∀ p, ((s.port p).admin = false → t.port p = s.port p) ∧
            ((s.port p).admin = true → (t.port p).lineState =
              if s.smn.cabinet = .mains ∨ s.smn.cabinet = .battery then .waiting else .shed)))

/-- The share computation: with every weight above 0, the satisfied entries receive their demands, an entry left over failed
the last test and is allotted less than its demand, and all that is handed out stays within the working capacity, short of it
by less than one block for each entry left over (R76 to R79). -/
def Obligations.SharesStayWithinCapacity : Prop :=
  ∀ (cWork : Nat) (ss : List Sharer), (∀ j, j ∈ ss → 0 < j.weight) → (ss.map Sharer.station).Nodup →
    let x := computeShares cWork ss
    (x.satisfied ++ x.left).Perm ss ∧ sumDemand x.satisfied + x.remainder = cWork ∧ x.handedOut ≤ cWork ∧
      (∀ j, j ∈ x.satisfied → x.grantOf j.station = j.demand) ∧
      (∀ j, j ∈ x.left → x.remainder * j.weight < j.demand * sumWeight x.left ∧
        x.grantOf j.station = x.remainder * j.weight / sumWeight x.left ∧ x.grantOf j.station < j.demand) ∧
      (x.left ≠ [] → cWork < x.handedOut + x.left.length) ∧
      ∀ y, (∀ j, j ∈ ss → j.station ≠ y) → x.grantOf y = 0

/-! ## The Supply Monitor -/

/-- A change of the mains input starts or stops the debounce timer; its expiry takes the level as seen; that expiry, in
JOINING and RUNNING, and the sample timer's request a conversion, which a free converter begins at once and a stage that holds it
lets wait; while a conversion waits or is in progress the request adds nothing (R130, R144, R145). That a stimulus stays on while
the pair select names the DC bus is the model's choice (log 35). -/
def Obligations.SupplySamplesAreRequested : Prop :=
  ∀ s : State, Unburdened s →
    (∀ present : Bool, exec (.mainsInputChange present) s =
      .next (txArbitrate
        { s with
          pins := { s.pins with mains := present }
          smn := { s.smn with debounce := decide (present ≠ s.smn.mainsSeen) } })) ∧
    (s.smn.debounce = true → s.stc.startState = .loading →
      exec .debounceExpiry s =
        .next (txArbitrate { s with smn := { s.smn with mainsSeen := s.pins.mains, debounce := false } })) ∧
    (s.smn.debounce = true → s.stc.startState = .joining ∨ s.stc.startState = .running → s.msu.supplyWaiting = false →
      (s.msu.holder = .none →
        exec .debounceExpiry s =
          .next (txArbitrate
            { s with
              smn := { s.smn with mainsSeen := s.pins.mains, debounce := false, sampleTimer := none }
              msu := { s.msu with holder := .supply, pairSelect := .dcBus } })) ∧
      (s.msu.holder = .stage →
        exec .debounceExpiry s =
          .next (txArbitrate
            { s with
              smn := { s.smn with mainsSeen := s.pins.mains, debounce := false, sampleTimer := none }
              msu := { s.msu with supplyWaiting := true } }))) ∧
    (s.smn.debounce = true → s.stc.startState = .joining ∨ s.stc.startState = .running →
      s.msu.holder = .supply ∨ s.msu.supplyWaiting = true →
      exec .debounceExpiry s =
        .next (txArbitrate
          { s with smn := { s.smn with mainsSeen := s.pins.mains, debounce := false, sampleTimer := none } })) ∧
    (s.smn.sampleTimer ≠ none → s.msu.holder = .supply ∨ s.msu.supplyWaiting = true →
      exec .sampleTimerExpiry s = .next (txArbitrate { s with smn := { s.smn with sampleTimer := none } })) ∧
    (s.smn.sampleTimer ≠ none → s.msu.supplyWaiting = false →
      (s.msu.holder = .none →
        exec .sampleTimerExpiry s =
          .next (txArbitrate
            { s with
              smn := { s.smn with sampleTimer := none }
              msu := { s.msu with holder := .supply, pairSelect := .dcBus } })) ∧
      (s.msu.holder = .stage →
        exec .sampleTimerExpiry s =
          .next (txArbitrate
            { s with smn := { s.smn with sampleTimer := none }, msu := { s.msu with supplyWaiting := true } })))

/-- A completed supply sample of v decivolts gives the candidate of R146's table, with the thresholds 5 dV higher for a state
better than the own one; the first differing candidate only counts, the second is taken, and the cabinet supply state follows
it; the sample timer starts with the own state's interval and the converter is free (R130, R145 to R148). That the pair select
then names the stimulus's input again, or stays where it is where none drives, is the model's choice (log 35). -/
def Obligations.SupplySampleIsEvaluated : Prop :=
  ∀ (s : State) (code : BitVec 12), Unburdened s → s.msu.holder = .supply → s.msu.supplyWaiting = false →
    s.msu.stageWaiting = false →
    let v := code.toNat / 5
    let own := s.smn.own
    let mainsAt := if own = .mains then s.cfg.vLow else s.cfg.vLow + 5
    let batteryAt := if own = .mains ∨ own = .battery then s.cfg.vLow else s.cfg.vLow + 5
    let lowAt := if own = .critical then s.cfg.vCrit + 5 else s.cfg.vCrit
    let cand : Supply :=
      if s.smn.mainsSeen = true ∧ mainsAt ≤ v then .mains
      else if batteryAt ≤ v then .battery
      else if lowAt ≤ v then .low
      else .critical
    let interval := fun (x : Supply) => some (if x = .mains then 4000 else 250)
    let answer := fun (count : Nat) =>
      Host.Outcome.next (txArbitrate
        { s with
          smn := { s.smn with differing := count, sampleTimer := interval own }
          msu := { s.msu with
            holder := .none
            pairSelect := match s.msu.drive with
              | .stimulus _ i => i
              | _ => s.msu.pairSelect } })
    (cand = own → exec (.supplySampleComplete code) s = answer 0) ∧
    (cand ≠ own → s.smn.differing = 0 → exec (.supplySampleComplete code) s = answer 1) ∧
    (cand ≠ own → s.smn.differing ≠ 0 →
      ∃ t, exec (.supplySampleComplete code) s = .next t ∧ t.smn.own = cand ∧ t.smn.differing = 0 ∧
        t.smn.sampleTimer = interval cand ∧ t.smn.mainsSeen = s.smn.mainsSeen ∧
        t.smn.cabinet = worstSupply { s with smn := { s.smn with own := cand } } ∧
        (t.smn.cabinet ≠ s.smn.cabinet → t.flagSet .supplyChange = true) ∧
        (t.smn.cabinet = s.smn.cabinet → t.ports = s.ports))

/-- LSV's moves at a change of the cabinet supply state: in LOW, WAITING ports and idle ports in service are shed with wake
watch on; in CRITICAL, every port without priority in WAITING, TRAINING, HOLD or IN_SERVICE is shed with its link OFF; BATTERY
and MAINS return the SHED ports to WAITING; no other port changes (R150 to R152). Each port that enters SHED from another state counts SHEDS once, and a
change of wake watch counts nothing (R11). A supply sample or an ADVERT that changes the
cabinet supply state sets SUPPLY_CHANGE and moves the ports so (R148); CRITICAL aborts the running test, and LOW one that is no
TONE, with cause SUPPLY: in CLAIMING it ends, from ISOLATING and MEASURING it goes to RESTORING, and in RESTORING it goes on
(R123). The dead time of RESTORING where the test relay stands open is the model's choice (log 18). -/
def Obligations.SupplyChangeMovesPorts : Prop :=
  (∀ (s : State) (p : PortId),
    let r := s.port p
    let low := fun (r' : Port) =>
      (r.lineState = .waiting ∨ (r.lineState = .inService ∧ r.idleFlag = true) →
        r'.lineState = .shed ∧ r'.wakeWatch = true ∧ r'.power = .watch) ∧
      (r.lineState = .shed → r'.lineState = .shed ∧ r'.wakeWatch = true) ∧
      (r.lineState ≠ .waiting → r.lineState ≠ .shed → ¬(r.lineState = .inService ∧ r.idleFlag = true) → r' = r)
    low ((lsvSupply .low s).port p) ∧
    (r.priority = true → low ((lsvSupply .critical s).port p)) ∧
    (r.priority = false →
      let r' := (lsvSupply .critical s).port p
      (r.lineState = .waiting ∨ r.lineState = .training ∨ r.lineState = .hold ∨ r.lineState = .inService →
        r'.lineState = .shed ∧ r'.wakeWatch = false ∧ r'.power = .off) ∧
      (r.lineState = .shed → r'.lineState = .shed ∧ r'.wakeWatch = false) ∧
      (r.lineState = .disabled ∨ r.lineState = .testing ∨ r.lineState = .faulted → r' = r)) ∧
    ∀ new : Supply, new = .mains ∨ new = .battery →
      (r.lineState = .shed →
        ((lsvSupply new s).port p).lineState = .waiting ∧ ((lsvSupply new s).port p).power = .on) ∧
      (r.lineState ≠ .shed → (lsvSupply new s).port p = r)) ∧
  (∀ (s : State) (new : Supply) (p : PortId),
    (lsvSupply new s).portCounter p .sheds =
      if (s.port p).lineState ≠ .shed ∧ ((lsvSupply new s).port p).lineState = .shed then (s.portCounter p .sheds).rise 1
      else s.portCounter p .sheds) ∧
  ∀ (s : State) (i : Instr), Unburdened s →
    (∃ code, i = .supplySampleComplete code) ∨ (∃ y d w x j q, i = .advertReceived y d w x j q) →
    ∃ t, exec i s = .next t ∧ (t.smn.cabinet ≠ s.smn.cabinet →
      let moved := lsvSupply t.smn.cabinet s
      t.flagSet .supplyChange = true ∧
      (s.tsq.running = none → t.tsq.running = none ∧ t.ports = moved.ports) ∧
      ∀ run : Running, s.tsq.running = some run →
        let aborts := t.smn.cabinet = .critical ∨ (t.smn.cabinet = .low ∧ run.req.kind ≠ .tone)
        (¬aborts ∨ run.st = .restoring → t.tsq.running = some run ∧ t.ports = moved.ports) ∧
        (aborts → run.st = .isolating → t.tsq.running = some (restoringRun { run with abort := some .supply }) ∧
          (t.port run.req.port).testClosed = false ∧ ∀ p, p ≠ run.req.port → t.port p = moved.port p) ∧
        (aborts → run.st = .measuring → t.msu.run = .none ∧ t.msu.drive = .off ∧
          (t.port run.req.port).testClosed = false ∧ (∀ p, p ≠ run.req.port → t.port p = moved.port p) ∧
          ∃ run', t.tsq.running = some run' ∧ run'.st = .restoring ∧ run'.abort = some .supply ∧
            run'.outcome = some .aborted ∧ run'.req = run.req) ∧
        (aborts → run.st = .claiming → run.outcome = none → t.tsq.running = none ∧
          tget t.tsq.results run.req.port = some
            { seq := run.seq, kind := run.req.kind, origin := run.req.origin, outcome := .aborted, cause := some .supply,
              parts := run.parts }))

/-! ## The test sequence -/

/-- ISOLATING's dead time ends with the test relay closed, the hazard watch armed and the kind's first stage started.
RESTORING's ends with the test relay's port reconnected, the result stored, TEST_DONE raised and the port in WAITING, or in
SHED in LOW and CRITICAL, or DISABLED where its admin field says so (R12, R119, R121, R128); a measured CAPACITANCE part writes
the loop estimate and a NOISE part the test ceiling (R15). A port that came from FAULTED and whose FOREIGN_VOLTAGE stage never
completed stays FAULTED with its service relay open. A LINE_CHECK gives up its claim with a RELEASE: from HELD its entry becomes
FREE and the binder's HOLD ports begin to train, and from LOST the entry stays (R33, R111). The tone's start is the model's
reading (log 20). -/
def Obligations.DeadTimesMoveTheTest : Prop :=
  ∀ (s : State) (run : Running), Unburdened s → s.tsq.running = some run → run.deadTimer = true →
    let p := run.req.port
    (run.st = .isolating → (s.port p).serviceClosed = false → (∀ q, q ≠ p → (s.port q).testClosed = false) →
      s.msu.holder = .supply ∨ (s.msu.holder = .none ∧ s.msu.supplyWaiting = false) → s.msu.stageWaiting = false →
      (run.req.kind ≠ .tone →
        exec (.isolatingDeadTimeExpiry false) s = .next (txArbitrate
          { s with
            ports := tset s.ports p { s.port p with testClosed := true }
            tsq := { s.tsq with
              running := some { run with st := .measuring, deadTimer := false, stage := some .foreignVoltage } }
            msu := { s.msu with
              hazardArmed := true
              run := .fv [] []
              holder := if s.msu.holder = .none then .stage else .supply
              stageWaiting := decide (s.msu.holder = .supply)
              pairSelect := if s.msu.holder = .none then .ab else s.msu.pairSelect } })) ∧
      ∀ spec : ToneSpec, run.req.kind = .tone → run.req.tone = some spec →
        exec (.isolatingDeadTimeExpiry false) s = .next (txArbitrate
          { s with
            ports := tset s.ports p { s.port p with testClosed := true }
            tsq := { s.tsq with
              running := some { run with st := .measuring, deadTimer := false, stage := some .tone } }
            msu := { s.msu with hazardArmed := true, run := .tone spec 0, drive := .tone spec.freq 8 } })) ∧
    ∀ o : TestOutcome, run.st = .restoring → run.outcome = some o → o ≠ .hazard →
      (s.port p).lineState = .testing → (s.port p).testClosed = false →
      let held := fun (b : BinderId) => run.req.kind = .lineCheck ∧ s.clt.own = some (b, .held)
      let lost := fun (b : BinderId) => run.req.kind = .lineCheck ∧ s.clt.own = some (b, .lost)
      run.req.kind ≠ .lineCheck ∨ (∃ b, held b ∧ (s.claim b).phase ≠ .free) ∨ (∃ b, lost b) →
      ∃ u, exec .restoringDeadTimeExpiry s = .next (txArbitrate u) ∧ u.tsq.running = none ∧ u.msu.hazardArmed = false ∧
        u.flagSet .testDone = true ∧ (o = .fault → u.flagSet .portFault = true) ∧
        tget u.tsq.results p = some
          { seq := run.seq, kind := run.req.kind, origin := run.req.origin, outcome := o,
            cause := if o = .aborted then run.abort else none, parts := run.parts } ∧
        (∀ q, q ≠ p → tget u.tsq.results q = tget s.tsq.results q) ∧
        (run.req.kind ≠ .lineCheck → u.clt = s.clt ∧ u.bau.ctrl = s.bau.ctrl) ∧
        (∀ b, held b → u.clt.own = none ∧ u.bau.ctrl = ctrlPlaceRelease b false s.bau.ctrl ∧
          u.claim b = { phase := .free, claimant := none, remaining := 0, own := false } ∧
          ∀ c, c ≠ b → u.claim c = s.claim c) ∧
        (∀ b, lost b → u.clt = { s.clt with own := none } ∧ u.bau.ctrl = ctrlPlaceRelease b false s.bau.ctrl) ∧
        (∀ q, q ≠ p →
          (held (s.port q).binder → (s.port q).lineState = .hold →
            (u.port q).lineState = .training ∧ (u.port q).phase = .report) ∧
          (¬held (s.port q).binder ∨ (s.port q).lineState ≠ .hold → u.port q = s.port q)) ∧
        (∀ nf m, run.parts.cap = some (.measured nf m) → (u.port p).loopEst = some m) ∧
        ((∀ nf m, run.parts.cap ≠ some (.measured nf m)) → (u.port p).loopEst = (s.port p).loopEst) ∧
        (∀ n, run.parts.noise = some n → (u.port p).testCeiling = if n.noisy = true then 1 else 0) ∧
        (run.parts.noise = none → (u.port p).testCeiling = (s.port p).testCeiling) ∧
        (run.fromFaulted = false ∨ run.parts.fv ≠ none →
          (u.port p).serviceClosed = true ∧
          ((s.port p).admin = false → (u.port p).lineState = .disabled) ∧
          ((s.port p).admin = true → s.smn.cabinet = .mains ∨ s.smn.cabinet = .battery →
            (u.port p).lineState = .waiting ∧ (u.port p).power = .on) ∧
          ((s.port p).admin = true →
            s.smn.cabinet = .low ∨ (s.smn.cabinet = .critical ∧ (s.port p).priority = true) →
            (u.port p).lineState = .shed ∧ (u.port p).wakeWatch = true ∧ (u.port p).power = .watch) ∧
          ((s.port p).admin = true → s.smn.cabinet = .critical → (s.port p).priority = false →
            (u.port p).lineState = .shed ∧ (u.port p).wakeWatch = false ∧ (u.port p).power = .off)) ∧
        (run.fromFaulted = true → run.parts.fv = none →
          (u.port p).lineState = .faulted ∧ (u.port p).serviceClosed = (s.port p).serviceClosed)

/-- A hazard report while the watch is armed opens the test relay, ends the test with the outcome HAZARD in its record, sets
HAZARD and TEST_DONE, and leaves the port FAULTED with its service relay as it was; while the watch is disarmed the report is
ignored (R19, R122, R126, R128). A comparator that stands above as the watch is armed, at the end of ISOLATING's dead time,
reports at once and does the same (R134). -/
def Obligations.HazardReportShutsDown : Prop :=
  ∀ s : State, Unburdened s →
    (s.msu.hazardArmed = false → exec .hazardReport s = .next (txArbitrate s)) ∧
    ∀ run : Running, s.tsq.running = some run → (s.port run.req.port).lineState = .testing →
      let shutDown := fun (i : Instr) =>
        ∃ t, exec i s = .next t ∧ t.tsq.running = none ∧
          (∃ rec, tget t.tsq.results run.req.port = some rec ∧ rec.outcome = .hazard ∧ rec.seq = run.seq ∧
            rec.cause = none) ∧
          t.flagSet .hazard = true ∧ t.flagSet .testDone = true ∧ t.msu.hazardArmed = false ∧ t.msu.drive = .off ∧
          t.msu.run = .none ∧ t.msu.capRunning = false ∧ (t.port run.req.port).lineState = .faulted ∧
          (t.port run.req.port).testClosed = false ∧ (t.port run.req.port).power = .off ∧
          (t.port run.req.port).serviceClosed = (s.port run.req.port).serviceClosed
      (s.msu.hazardArmed = true → shutDown .hazardReport) ∧
        (run.st = .isolating → run.deadTimer = true → shutDown (.isolatingDeadTimeExpiry true))

/-! ## The measurements -/

/-- A sample of the stage that holds the converter joins the input's samples; the 64th of an input of FOREIGN_VOLTAGE gives
its mean, rounded half up, and its peak, and that of INSULATION its resistance by the divider and its class; the next input
follows; samples in the settle time are not taken, and its end begins the input's samples (R129, R136, R137, R141). The third
input's 64th sample completes the stage. A peak of FOREIGN_VOLTAGE above the hazard threshold shuts the test down, its part kept;
else a mean above the warning threshold marks the fault found, and INSULATION takes the converter, behind a waiting supply
sample (R120, R122, R130). A class but GOOD marks the fault found; CAPACITANCE follows in a LINE_CHECK and RESTORING in a
QUICK_CHECK (R120, R121). The 256th sample of NOISE gives its level and noisy mark, and RESTORING follows (R141). -/
def Obligations.StageSamplesAreTaken : Prop :=
  ∀ (s : State) (code : BitVec 12) (xs : List Int), Unburdened s → s.msu.holder = .stage →
    let all := code.toInt :: xs
    let mean := (all.sum + 32) / 64
    let nextInput := fun (n : Nat) => if n = 0 then SenseInput.ae else SenseInput.be
    let ohms :=
      if mean ≤ 0 then 0
      else if (s.cfg.vS : Int) ≤ mean then 10000000
      else min 10000000 (s.cfg.rRef * mean.toNat / (s.cfg.vS - mean.toNat))
    let cls : InsClass := if ohms < 200 then .short else if ohms < s.cfg.insulationThreshold then .leak else .good
    let isFigure := fun (f : VoltFigure) =>
      f.mean = mean ∧ (∀ x, x ∈ all → x.natAbs ≤ f.peak) ∧ ∃ x, x ∈ all ∧ x.natAbs = f.peak
    (∀ done : List VoltFigure, s.msu.run = .fv xs done →
      (xs.length < 63 → exec (.stageSample code) s = .next (txArbitrate { s with msu := { s.msu with run := .fv all done } }))
      ∧ (63 ≤ xs.length → done.length < 2 →
        ∃ f : VoltFigure, isFigure f ∧
          exec (.stageSample code) s = .next (txArbitrate
            { s with msu := { s.msu with run := .fv [] (done ++ [f]), pairSelect := nextInput done.length } }))) ∧
    (∀ done : List InsFigure,
      (s.msu.run = .ins true xs done → exec (.stageSample code) s = .next (txArbitrate s) ∧
        exec .insulationSettleExpiry s = .next (txArbitrate { s with msu := { s.msu with run := .ins false [] done } })) ∧
      (s.msu.run = .ins false xs done → xs.length < 63 →
        exec (.stageSample code) s = .next (txArbitrate { s with msu := { s.msu with run := .ins false all done } })) ∧
      (s.msu.run = .ins false xs done → 63 ≤ xs.length → done.length < 2 →
        exec (.stageSample code) s = .next (txArbitrate
          { s with msu := { s.msu with
            run := .ins true [] (done ++ [{ ohms := ohms, cls := cls }])
            pairSelect := nextInput done.length
            drive := .stimulus s.cfg.vS (nextInput done.length) } }))) ∧
    (s.msu.run = .noise xs → xs.length < 255 →
      exec (.stageSample code) s = .next (txArbitrate { s with msu := { s.msu with run := .noise all } })) ∧
    ∀ run : Running, s.tsq.running = some run →
      let p := run.req.port
      (∀ a b : VoltFigure, s.msu.run = .fv xs [a, b] → 63 ≤ xs.length → run.stage = some .foreignVoltage →
        run.req.kind ≠ .tone →
        ∃ f : VoltFigure, isFigure f ∧ ∃ t, exec (.stageSample code) s = .next t ∧
          let parts := { run.parts with fv := some { ab := a, ae := b, be := f } }
          let hazard := s.cfg.hazardThreshold < a.peak ∨ s.cfg.hazardThreshold < b.peak ∨ s.cfg.hazardThreshold < f.peak
          let warned := s.cfg.warningThreshold < a.mean.natAbs ∨ s.cfg.warningThreshold < b.mean.natAbs ∨
            s.cfg.warningThreshold < f.mean.natAbs
          (hazard → t.tsq.running = none ∧ t.flagSet .hazard = true ∧ t.msu.run = .none ∧ t.msu.drive = .off ∧
            (∃ rec, tget t.tsq.results p = some rec ∧ rec.outcome = .hazard ∧ rec.parts = parts) ∧
            (t.port p).testClosed = false ∧ ((s.port p).lineState = .testing → (t.port p).lineState = .faulted)) ∧
          (¬hazard → t.ports = s.ports ∧ t.msu.run = .ins true [] [] ∧
            (∃ mark : Bool, (mark = true ↔ run.faultFound = true ∨ warned) ∧
              t.tsq.running = some { run with stage := some .insulation, parts := parts, faultFound := mark }) ∧
            (s.msu.supplyWaiting = false → t.msu.holder = .stage ∧ t.msu.pairSelect = .ab ∧
              t.msu.drive = .stimulus s.cfg.vS .ab) ∧
            (s.msu.supplyWaiting = true → t.msu.holder = .supply ∧ t.msu.stageWaiting = true ∧
              t.msu.pairSelect = .dcBus ∧ t.msu.drive = .off))) ∧
      (∀ a b : InsFigure, s.msu.run = .ins false xs [a, b] → 63 ≤ xs.length → run.stage = some .insulation →
        ∃ mark : Bool, (mark = true ↔ run.faultFound = true ∨ a.cls ≠ .good ∨ b.cls ≠ .good ∨ cls ≠ .good) ∧
          ∃ t, exec (.stageSample code) s = .next t ∧
          let kept := { run with
            parts := { run.parts with ins := some { ab := a, ae := b, be := { ohms := ohms, cls := cls } } }
            faultFound := mark }
          (run.req.kind = .quickCheck → EntersRestoring kept s t) ∧
          (run.req.kind = .lineCheck → t.tsq.running = some { kept with stage := some .capacitance } ∧
            t.ports = s.ports ∧ t.msu.run = .cap .opening ∧ t.msu.drive = .discharge ∧
            t.msu.holder = if s.msu.supplyWaiting = true then .supply else .none)) ∧
      (s.msu.run = .noise xs → 255 ≤ xs.length → run.stage = some .noise →
        let level := (all.map (fun x => (x - (all.sum + 128) / 256).natAbs)).sum / 256
        ∃ t, exec (.stageSample code) s = .next t ∧
          EntersRestoring { run with parts := { run.parts with
            noise := some { level := level, noisy := decide (s.cfg.noiseThreshold < level) } } } s t)

/-- CAPACITANCE: the opening discharge's end starts the run against 632/1000 of the stimulus; a rise of the comparator
starts a candidate and a fall cancels it, but nothing before the blanking of a shot has ended; a candidate confirmed by its
filter length gives the figures of its time, and the limit without one gives above range; either way the closing discharge
follows, and its end completes the part, after which REFLECTION starts, or RESTORING follows where a clash was lost (R120, R125,
R133, R138, R139). That times and levels come with the commands is the model's reading (log 21), and so are the pair select of
the run (log 35) and the dead time of RESTORING where the test relay stands open (log 18). -/
def Obligations.CapacitanceRunsBetweenDischarges : Prop :=
  ∀ s : State, Unburdened s →
    let closing := fun (v : CapPart) =>
      Host.Outcome.next (txArbitrate
        { s with msu := { s.msu with run := .cap (.closing v), drive := .discharge, capRunning := false, candidate := none } })
    (s.msu.run = .cap .opening → exec .dischargeEnd s = .next (txArbitrate
      { s with msu := { s.msu with
        run := .cap .running, drive := .stimulus s.cfg.vS .ab, capRunning := true, capFast := false, candidate := none
        blanked := true, capRef := s.cfg.vS * 632 / 1000
        pairSelect := if s.msu.holder = .supply then s.msu.pairSelect else .ab } })) ∧
    (∀ (above : Bool) (tick : BitVec 16),
      exec (.captureComparatorChange above tick) s = .next (txArbitrate
        { s with msu := { s.msu with
          capAbove := above
          candidate :=
            if s.msu.capRunning = false ∨ s.msu.blanked = false then s.msu.candidate
            else if above = false then none
            else if s.msu.capAbove = false ∧ (s.msu.capFast = false ∨ 25 * s.cfg.pulseWidth + 50 ≤ tick.toNat) then
              some tick.toNat
            else s.msu.candidate } })) ∧
    (∀ (code : BitVec 12) (tau : Nat), s.msu.run = .cap .running → s.msu.capRunning = true → s.msu.candidate = some tau →
      tau + s.cfg.filterLength ≤ 65535 →
      exec (.crossingConfirmed code) s =
        closing (.measured (tau * 1000 / s.cfg.rRef) (min 65535 (tau * 1000 / s.cfg.rRef * 1000 / s.cfg.capPerKm)))) ∧
    (s.msu.run = .cap .running → s.msu.capRunning = true →
      (∀ tau, s.msu.candidate = some tau → 65535 < tau + s.cfg.filterLength) →
      exec .captureLimit s = closing .aboveRange) ∧
    ∀ (v : CapPart) (run : Running), s.msu.run = .cap (.closing v) → s.tsq.running = some run →
      run.req.kind = .lineCheck → run.stage = some .capacitance →
      let kept := { run with parts := { run.parts with cap := some v } }
      (run.clash = false → s.msu.holder = .none → s.msu.supplyWaiting = false →
        ∃ t, exec .dischargeEnd s = .next t ∧ t.tsq.running = some { kept with stage := some .reflection } ∧
          t.msu.run = .refl 0 [] ∧ t.msu.drive = .off ∧ t.msu.holder = .stage ∧ t.ports = s.ports) ∧
      (run.clash = true → ∃ t, exec .dischargeEnd s = .next t ∧ EntersRestoring kept s t)

/-- REFLECTION: each 50 ms a shot drives one pulse and starts the capture timer at its fast rate, blanked; the blanking's
end reads the starting level; a confirmed crossing within the window gives an echo with the polarity of its code, and the
window's end without one gives none (R133, R139). The fourth shot completes the stage: no echo is no reflection, one or two are
inconsistent, and of three or four the mean time gives the distance, rounded half up, their majority the polarity, and the loop
estimate the class; a FAULT_POINT marks the fault found; NOISE follows, or RESTORING where a clash was lost (R120, R125, R140).
That times and levels come with the commands, and that the pulse is over by the blanking's end, is the model's reading (log 21),
and so is the dead time of RESTORING where the test relay stands open (log 18); that a pulse longer than the window ends with it
is the model's choice (log 37). -/
def Obligations.ReflectionShotsAreCaptured : Prop :=
  ∀ (s : State) (n : Nat) (es : List (Option Echo)), Unburdened s → s.msu.run = .refl n es →
    let ended := fun (e : Option Echo) =>
      Host.Outcome.next (txArbitrate
        { s with msu := { s.msu with
          run := .refl n (es ++ [e]), drive := .off, capRunning := false, candidate := none } })
    let window := (s.cfg.maxDistance * 50 + s.cfg.velocity - 1) / s.cfg.velocity
    let unconfirmed := ∀ tick, s.msu.candidate = some tick → window < tick + s.cfg.filterLength
    let echo := fun (code : BitVec 12) (tick : Nat) =>
      some { ticks := tick, polarity := if 0 ≤ code.toInt then Polarity.openEnd else .short }
    (s.msu.holder = .stage → s.msu.capRunning = false → n < 4 →
      exec .shotTimerExpiry s = .next (txArbitrate
        { s with msu := { s.msu with
          run := .refl (n + 1) es, drive := .pulse s.cfg.vS s.cfg.pulseWidth, capRunning := true, capFast := true
          candidate := none, blanked := false, capRef := s.cfg.vS / 16 } })) ∧
    (∀ above : Bool, s.msu.capRunning = true → s.msu.blanked = false →
      exec (.blankingEnd above) s = .next (txArbitrate
        { s with msu := { s.msu with blanked := true, capAbove := above, candidate := none, drive := .off } })) ∧
    (∀ (code : BitVec 12) (tick : Nat), s.msu.capRunning = true → s.msu.candidate = some tick → es.length < 3 →
      tick + s.cfg.filterLength ≤ window →
      exec (.crossingConfirmed code) s = ended (echo code tick)) ∧
    (s.msu.capRunning = true → unconfirmed → es.length < 3 → exec .captureLimit s = ended none) ∧
    ∀ run : Running, es.length = 3 → s.msu.capRunning = true → s.tsq.running = some run → run.req.kind = .lineCheck →
      run.stage = some .reflection →
      let estimate := match run.parts.cap with
        | some (.measured _ m) => some m
        | _ => (s.port run.req.port).loopEst
      let completes := fun (e : Option Echo) (i : Instr) =>
        let hits := (es ++ [e]).filterMap id
        let opens := (hits.filter (fun h => h.polarity == .openEnd)).length
        let distance := ((hits.map Echo.ticks).sum / hits.length * s.cfg.velocity + 25) / 50
        ∃ (part : ReflPart) (mark : Bool),
          (hits.length = 0 → part = .noReflection ∧ mark = run.faultFound) ∧
          (hits.length = 1 ∨ hits.length = 2 → part = .inconsistent ∧ mark = run.faultFound) ∧
          (3 ≤ hits.length → ∃ (c : ReflClass) (q : Polarity), part = .located distance c q ∧
            (c = .lineEnd ↔ ∃ m, estimate = some m ∧ distance ≤ m + m / 20 ∧ m ≤ distance + m / 20) ∧
            (hits.length < 2 * opens → q = .openEnd) ∧ (2 * opens < hits.length → q = .short) ∧
            (2 * opens = hits.length → hits.head?.map Echo.polarity = some q) ∧
            (mark = true ↔ run.faultFound = true ∨ c = .faultPoint)) ∧
          ∃ t, exec i s = .next t ∧
          let kept := { run with parts := { run.parts with refl := some part }, faultFound := mark }
          (run.clash = false → t.tsq.running = some { kept with stage := some .noise } ∧ t.msu.run = .noise [] ∧
            t.msu.drive = .off ∧ t.ports = s.ports) ∧
          (run.clash = true → EntersRestoring kept s t)
      (∀ (code : BitVec 12) (tick : Nat), s.msu.candidate = some tick → tick + s.cfg.filterLength ≤ window →
        completes (echo code tick) (.crossingConfirmed code)) ∧
      (unconfirmed → completes none .captureLimit)

/-- TONE: each eighth of the burst width lowers the level by an eighth through a burst and keeps silence through the
next; the duration's end stores the minutes asked for and enters RESTORING with the outcome COMPLETED (R120, R121, R126,
R142). The count in eighths of the width is the model's reading (log 20), and so is the dead time of RESTORING where the test
relay stands open (log 18). -/
def Obligations.ToneStepsThroughItsDuration : Prop :=
  ∀ (s : State) (spec : ToneSpec) (k : Nat), Unburdened s → s.msu.run = .tone spec k →
    exec .toneLevelStep s = .next (txArbitrate
      { s with msu := { s.msu with
        run := .tone spec (k + 1)
        drive := if (k + 1) % 16 < 8 then .tone spec.freq (8 - (k + 1) % 16) else .off } }) ∧
    ∀ run : Running, s.tsq.running = some run → run.req.kind = .tone → run.stage = some .tone → run.abort = none →
      run.faultFound = false → run.clash = false →
      ∃ t, exec .toneDurationExpiry s = .next t ∧
        t.tsq.running = some
          { run with
            st := .restoring
            stage := none
            deadTimer := true
            outcome := some .completed
            parts := { run.parts with tone := some spec.minutes } } ∧
        t.msu.run = .none ∧ t.msu.drive = .off ∧ (t.port run.req.port).testClosed = false ∧
        ∀ q, q ≠ run.req.port → t.port q = s.port q

/-! ## Management requests -/

/-- The card after an answer to a request was placed at the tail of the response queue: the tag, the kind, the status and the
data, with one record and the cells they take (R48, R156, R174). -/
def answered (tag : BitVec 16) (kind : Nat) (st : Status) (data : List Byte) (s : State) : State :=
  let bytes := u16 tag.toNat ++ [u8 kind, u8 st.code] ++ data
  { s with fst := { s.fst with
    busStaging := []
    freeCells := s.fst.freeCells - cellsOf bytes
    freeRecords := s.fst.freeRecords - 1
    responses := s.fst.responses ++ [{ kind := .mrsp, port := 31, payload := bytes, inFlight := false }] } }

/-- The requests that read: a port's or every port's status, the card's status, a result record or REFUSED_STATE for an
empty slot, and the counters of a scope, which the clear flag then sets to 0; a port out of range gives REFUSED_ARGUMENT,
and in LOADING a PORT_STATUS is answered NOT_READY (R156, R158, R164). The bytes are those of the model's reading of the
layout (log 14). -/
def Obligations.ReadingRequestsReport : Prop :=
  ∀ (s : State) (tag : BitVec 16) (p : PortId), AgentFree s →
    exec (.cardStatus tag) s = .next (txArbitrate (answered tag 9 .ok (cardStatusBytes s) s)) ∧
    (s.stc.startState = .loading → ∀ port : Byte,
      exec (.portStatus tag port) s = .next (txArbitrate (answered tag 1 .notReady [] s))) ∧
    (s.stc.startState ≠ .loading →
      exec (.portStatus tag (u8 p.val)) s = .next (txArbitrate (answered tag 1 .ok (portStatusBytes s p) s)) ∧
      exec (.portStatus tag 255) s =
        .next (txArbitrate (answered tag 1 .ok (allPorts.flatMap (portStatusBytes s)) s)) ∧
      (∀ port : Byte, 16 ≤ port.toNat → port ≠ 255 →
        exec (.portStatus tag port) s = .next (txArbitrate (answered tag 1 .refusedArgument [] s))) ∧
      (∀ r : TestRecord, tget s.tsq.results p = some r →
        exec (.testResult tag (u8 p.val)) s = .next (txArbitrate (answered tag 7 .ok (recordBytes r) s))) ∧
      (tget s.tsq.results p = none →
        exec (.testResult tag (u8 p.val)) s = .next (txArbitrate (answered tag 7 .refusedState [] s))) ∧
      (∀ scope : Option PortId,
        let byte := match scope with
          | some q => u8 q.val
          | none => 254
        exec (.readCounters tag byte false) s = .next (txArbitrate (answered tag 8 .ok (countersBytes s scope) s)) ∧
        ∃ t, exec (.readCounters tag byte true) s = .next t ∧
          t.fst.responses = (answered tag 8 .ok (countersBytes s scope) s).fst.responses ∧
          (∀ c, t.cardCounter c = if scope = none then { value := 0, sticky := false } else s.cardCounter c) ∧
          (∀ q c, t.portCounter q c = if scope = some q then { value := 0, sticky := false } else s.portCounter q c) ∧
          t.mga.flags = s.mga.flags ∧ t.ports = s.ports))

/-- The requests that act on a port: WEIGHT writes the override in every line state; enable sets the admin field and takes a
DISABLED port to WAITING in RUNNING, and is refused on a FAULTED port already enabled; disable clears it, takes the port's
request out of the queue and the port to DISABLED with its queues flushed but for a head in flight, and aborts the running test
on it with cause ADMIN: in CLAIMING it ends, from ISOLATING and MEASURING it goes to RESTORING, and in RESTORING it goes on
(R8, R17, R46, R123). RETRAIN retrains a port in service with its queues kept, in HOLD with ABANDON where its binder is claimed,
and is refused on another (R9, R13, R16, R24, R35). The dead time of RESTORING where the test relay stands open is the model's
choice (log 18), and so is the enable of a port whose service relay the reset hold still holds open (log 36). -/
def Obligations.PortRequestsAct : Prop :=
  ∀ (s : State) (tag : BitVec 16) (p : PortId), AgentFree s → s.stc.startState ≠ .loading →
    let r := s.port p
    let placed := fun (kind : Nat) (t : State) => t.fst.responses = (answered tag kind .ok [] s).fst.responses
    (∀ v : Byte, exec (.weight tag (u8 p.val) v) s =
      .next (txArbitrate (answered tag 4 .ok [] (s.setPort p { r with weightOverride := v })))) ∧
    (∀ port v : Byte, 16 ≤ port.toNat →
      exec (.weight tag port v) s = .next (txArbitrate (answered tag 4 .refusedArgument [] s))) ∧
    (s.stc.startState = .joining ∨ (r.lineState ≠ .disabled ∧ ¬(r.lineState = .faulted ∧ r.admin = true)) →
      exec (.portAdminEnable tag (u8 p.val)) s =
        .next (txArbitrate (answered tag 2 .ok [] (s.setPort p { r with admin := true })))) ∧
    (s.stc.startState = .running → r.lineState = .faulted → r.admin = true →
      exec (.portAdminEnable tag (u8 p.val)) s = .next (txArbitrate (answered tag 2 .refusedState [] s))) ∧
    (s.stc.startState = .running → r.lineState = .disabled → s.smn.cabinet = .mains ∨ s.smn.cabinet = .battery →
      tget s.fst.up p = [] → tget s.fst.down p = [] →
      ∃ t, exec (.portAdminEnable tag (u8 p.val)) s = .next t ∧ placed 2 t ∧ (t.port p).admin = true ∧
        (t.port p).lineState = .waiting ∧ (t.port p).power = .on ∧ ∀ q, q ≠ p → t.port q = s.port q) ∧
    ((s.portCounter p .flushed).saturates (flushedFrom (tget s.fst.up p) ++ tget s.fst.down p).length = false →
      let asked := exec (.portAdminDisable tag (u8 p.val)) s
      let gone := r.lineState ≠ .testing ∧ r.lineState ≠ .faulted ∧ r.lineState ≠ .disabled
      ((∀ run, s.tsq.running = some run → run.req.port ≠ p ∨ run.st = .restoring) →
        ∃ t, asked = .next t ∧ placed 2 t ∧ (t.port p).admin = false ∧
          (gone → (t.port p).lineState = .disabled ∧ (t.port p).power = .off ∧
            tget t.fst.up p = keptByFlush (tget s.fst.up p) ∧ tget t.fst.down p = [] ∧ tget t.fst.pull p = false ∧
            t.portCounter p .flushed =
              (s.portCounter p .flushed).rise (flushedFrom (tget s.fst.up p) ++ tget s.fst.down p).length) ∧
          (¬gone → t.port p = { r with admin := false }) ∧
          t.tsq.queue = s.tsq.queue.filter (fun q => q.port != p) ∧ t.tsq.running = s.tsq.running ∧
          ∀ q, q ≠ p → t.port q = s.port q) ∧
      ∀ run : Running, s.tsq.running = some run → run.req.port = p →
        (run.st = .isolating → r.lineState = .testing → ∃ t, asked = .next t ∧ placed 2 t ∧
          t.tsq.running = some (restoringRun { run with abort := some .admin }) ∧
          t.port p = { r with admin := false, testClosed := false } ∧ ∀ q, q ≠ p → t.port q = s.port q) ∧
        (run.st = .measuring → r.lineState = .testing → ∃ t, asked = .next t ∧ placed 2 t ∧ t.msu.run = .none ∧
          t.msu.drive = .off ∧ t.port p = { r with admin := false, testClosed := false } ∧
          (∀ q, q ≠ p → t.port q = s.port q) ∧
          ∃ run', t.tsq.running = some run' ∧ run'.st = .restoring ∧ run'.abort = some .admin ∧
            run'.outcome = some .aborted ∧ run'.req = run.req) ∧
        (run.st = .claiming → run.outcome = none → s.tsq.queue = [] → gone → ∃ t, asked = .next t ∧
          t.tsq.running = none ∧ (t.port p).admin = false ∧ (t.port p).lineState = .disabled ∧
          tget t.tsq.results p = some
            { seq := run.seq, kind := run.req.kind, origin := run.req.origin, outcome := .aborted, cause := some .admin,
              parts := run.parts })) ∧
    (r.lineState ≠ .inService →
      exec (.retrain tag (u8 p.val)) s = .next (txArbitrate (answered tag 3 .refusedState [] s))) ∧
    (r.lineState = .inService → (s.portCounter p .retrains).saturates 1 = false →
      ∃ t, exec (.retrain tag (u8 p.val)) s = .next t ∧ placed 3 t ∧
        (s.claimed r.binder = false → (t.port p).lineState = .training ∧ (t.port p).phase = .report ∧
          (t.port p).attempt = r.attempt + 1) ∧
        (s.claimed r.binder = true → (t.port p).lineState = .hold ∧ (t.port p).phase = .none ∧
          (t.port p).attempt = r.attempt ∧ (r.power = .on → (t.port p).linkOut = r.linkOut ++ [.abandon])) ∧
        (t.port p).profile = none ∧ tget t.fst.up p = tget s.fst.up p ∧ tget t.fst.down p = tget s.fst.down p ∧
        p ∉ t.usc.active ∧ t.portCounter p .retrains = (s.portCounter p .retrains).rise 1 ∧
        ∀ q, q ≠ p → t.port q = s.port q)

/-- A TEST_REQUEST that passes its arguments is answered by the first condition that applies: a duplicate for its port, a
DISABLED port, TONE on a FAULTED port, a port in traffic without the intrusive flag; otherwise it is QUEUED at the tail
with origin MANAGEMENT, its tone fields kept for TONE alone, and the start choice follows; a refused request changes nothing
(R114, R116). TEST_CANCEL removes the port's queued request; it aborts the port's running test with cause REQUEST, in CLAIMING
with its claim given up, from ISOLATING and MEASURING through RESTORING, and leaves a RESTORING test alone; with neither it is
refused (R111, R115, R118, R123). The start choice of an IDLE sequencer in RUNNING takes the first request whose kind may start
in the cabinet supply state, a LINE_CHECK in MAINS alone and with its binder FREE, and whose port is out of traffic or its
intrusive flag set (R116); it gets the next sequence number and a fresh context; a LINE_CHECK claims its binder, the other kinds
isolate their port at once (R106, R117, R119). The arrival number is the model's own (log 22); the dead time of RESTORING
where the test relay stands open is its choice (log 18), and so is the RELEASE of a CLAIM that is neither on the control list
nor in hand (log 39). -/
def Obligations.TestRequestsAreCheckedAndCancelled : Prop :=
  (∀ (s : State) (tag : BitVec 16) (p : PortId) (kind : TestKind) (intrusive : Bool) (tone : Option ToneArgs)
    (spec : Option ToneSpec), AgentFree s → s.stc.startState ≠ .loading →
    (kind ≠ .tone → spec = none) →
    (kind = .tone → ∃ a w, tone = some a ∧ spec = some w ∧
      toneSpecOf a.freq.toNat a.width.toNat a.minutes.toNat = some w) →
    let ls := (s.port p).lineState
    let mine := (s.tsq.queue.any (fun q => q.port == p)) = true ∨ (∃ run, s.tsq.running = some run ∧ run.req.port = p)
    let refused := ls = .disabled ∨ (ls = .faulted ∧ kind = .tone) ∨
      ((ls = .inService ∨ ls = .training ∨ ls = .hold) ∧ intrusive = false)
    let asked := exec (.testRequest tag (u8 p.val) (u8 kind.code) intrusive tone) s
    (mine → asked = .next (txArbitrate (answered tag 5 .refusedDuplicate [] s))) ∧
    (¬mine → refused → asked = .next (txArbitrate (answered tag 5 .refusedState [] s))) ∧
    (¬mine → ¬refused → asked = .next (txArbitrate (startChoice (answered tag 5 .queued []
      { s with tsq := { s.tsq with
        queue := s.tsq.queue ++
          [{ port := p, kind := kind, intrusive := intrusive, tone := spec, origin := .management,
             arrival := s.tsq.arrivals }]
        arrivals := s.tsq.arrivals + 1 } }))))) ∧
  (∀ s : State,
    let idle := s.tsq.running = none ∧ s.stc.startState = .running
    let may := fun (q : TestReq) =>
      (s.smn.cabinet = .mains ∨ (s.smn.cabinet = .battery ∧ q.kind ≠ .lineCheck) ∨
        (s.smn.cabinet = .low ∧ q.kind = .tone)) ∧
      (q.kind = .lineCheck → (s.claim (s.port q.port).binder).phase = .free) ∧
      (q.intrusive = true ∨ ((s.port q.port).lineState ≠ .inService ∧ (s.port q.port).lineState ≠ .training ∧
        (s.port q.port).lineState ≠ .hold))
    (¬idle ∨ (∀ q, q ∈ s.tsq.queue → ¬may q) → startChoice s = s) ∧
    ∀ (before after : List TestReq) (q : TestReq), idle → s.tsq.queue = before ++ q :: after →
      (∀ x, x ∈ before → ¬may x) → may q →
      let t := startChoice s
      let b := (s.port q.port).binder
      let fresh : Running :=
        { req := q, seq := (s.tsq.seq + 1) % 65536, st := .claiming, stage := none, parts := Parts.empty,
          faultFound := false, fromFaulted := false, clash := false, abort := none, deadTimer := false, outcome := none }
      t.tsq.seq = (s.tsq.seq + 1) % 65536 ∧ t.tsq.results = s.tsq.results ∧
      (q.kind = .lineCheck → s.clt.own = none →
        t.tsq.queue = before ++ after ∧ t.tsq.running = some fresh ∧ t.clt.own = some (b, .sending) ∧
          t.claim b = { phase := .pending, claimant := some s.stc.station, remaining := 0, own := true } ∧
          (∀ c, c ≠ b → t.claim c = s.claim c) ∧ t.bau.ctrl = ctrlPlaceClaim (.claim b false 20) s.bau.ctrl ∧
          ∀ p, (s.port p).binder ≠ b ∨ (s.port p).lineState ≠ .training → t.port p = s.port p) ∧
      (q.kind = .lineCheck → s.clt.own ≠ none → t.tsq.queue.Perm s.tsq.queue ∧ t.tsq.running = none ∧ t.clt = s.clt) ∧
      (q.kind ≠ .lineCheck →
        t.tsq.queue = before ++ after ∧ t.clt = s.clt ∧ t.tsq.running = some { fresh with
          st := .isolating
          fromFaulted := (s.port q.port).lineState == .faulted
          deadTimer := true } ∧
        (t.port q.port).lineState = .testing ∧ (t.port q.port).serviceClosed = false ∧
        (t.port q.port).power = .off ∧ (t.port q.port).profile = none ∧ ∀ p, p ≠ q.port → t.port p = s.port p)) ∧
  ∀ (s : State) (tag : BitVec 16) (p : PortId), AgentFree s → s.stc.startState ≠ .loading →
    let queued := (s.tsq.queue.any (fun q => q.port == p)) = true
    let asked := exec (.testCancel tag (u8 p.val)) s
    (queued → asked = .next (txArbitrate (answered tag 6 .ok []
      { s with tsq := { s.tsq with queue := s.tsq.queue.filter (fun q => q.port != p) } }))) ∧
    (¬queued → (∀ run, s.tsq.running = some run → run.req.port ≠ p) →
      asked = .next (txArbitrate (answered tag 6 .refusedState [] s))) ∧
    ∀ run : Running, ¬queued → s.tsq.running = some run → run.req.port = p →
      (run.st = .restoring → asked = .next (txArbitrate (answered tag 6 .ok [] s))) ∧
      (run.st = .isolating → asked = .next (txArbitrate (answered tag 6 .ok []
        { s with
          ports := tset s.ports p { s.port p with testClosed := false }
          tsq := { s.tsq with
            running := some
              { run with
                abort := some .request, st := .restoring, stage := none, deadTimer := true
                outcome := some .aborted } } }))) ∧
      (run.st = .measuring → ∃ t, asked = .next t ∧ t.msu.run = .none ∧ t.msu.drive = .off ∧
        (t.port p).testClosed = false ∧ t.fst.responses = (answered tag 6 .ok [] s).fst.responses ∧
        ∃ run', t.tsq.running = some run' ∧ run'.st = .restoring ∧ run'.abort = some .request ∧
          run'.outcome = some .aborted ∧ run'.req = run.req) ∧
      ∀ (b : BinderId) (step : ClaimStep), run.st = .claiming → run.req.kind = .lineCheck → run.outcome = none →
        run.parts = Parts.empty → s.tsq.queue = [] → (s.port p).lineState ≠ .testing →
        s.clt.own = some (b, step) → step = .sending ∨ step = .settling → (s.claim b).phase ≠ .free →
        let unsent := step = .sending ∧ (s.bau.ctrl.any (CtrlItem.isClaimFor b)) = true
        ∃ u, asked = .next (txArbitrate u) ∧ u.tsq.running = none ∧ u.clt.own = none ∧
          u.claim b = { phase := .free, claimant := none, remaining := 0, own := false } ∧
          tget u.tsq.results p = some
            { seq := run.seq, kind := .lineCheck, origin := run.req.origin, outcome := .aborted, cause := some .request,
              parts := Parts.empty } ∧
          (unsent → u.bau.ctrl = s.bau.ctrl.filter (fun i => !i.isClaimFor b)) ∧
          (¬unsent → u.bau.ctrl = ctrlPlaceRelease b false s.bau.ctrl) ∧
          ∀ q, ((s.port q).binder = b → (s.port q).lineState = .hold →
              (u.port q).lineState = .training ∧ (u.port q).phase = .report) ∧
            ((s.port q).binder ≠ b ∨ (s.port q).lineState ≠ .hold → u.port q = s.port q)

/-- NOTICE_ACK clears each flag its mask names and no other, and takes the waiting notices of the causes named from the
waiting list (R162). R156 lets none be taken while a notice waits, so that this is said of its effect (log 41). -/
def Obligations.NoticeAckClearsNamedFlags : Prop :=
  (∀ (s : State) (tag mask : BitVec 16), AgentFree s → s.stc.startState ≠ .loading →
    ∃ u, exec (.noticeAck tag mask) s = .next (txArbitrate (answered tag 10 .ok [] u)) ∧
      u = { s with mga := { s.mga with flags := u.mga.flags } } ∧
      ∀ c : Cause, u.flagSet c = (s.flagSet c && !mask.getLsbD c.bit)) ∧
  ∀ (s : State) (mask : BitVec 16), (ackNotices mask s).card.mga.waiting =
    s.mga.waiting.filter (fun i => match i with
      | .notice c => !mask.getLsbD c.bit
      | .answer _ => true)

/-- RESTART is answered OK and sets restart pending; at the end of that answer's transmission, successful or aborted by its
twelfth collision, the card restarts: every block at its restart values, the counters, the result store and the test sequence
number kept, the straps and the mains input read at once, test relays open and open service relays held; a start with the
defaults has their port map in force and its first supply sample in progress (R7, R117, R127, R143, R144, R155, R160, R165, R166,
R169). The
end of any other response frame removes it and returns its record and cells (R49, R54, R55, R57, R58); with the room that it
leaves, the first waiting notice or answer is placed where it fits, an answer with its request leaving the request queue, and
those behind it wait (R48, R157, R161). The strap levels are the command's operands (log 9), the record of what was sent
is the model's (log 13), and so is its reading of R57 for a frame of 64 bytes (log 15). -/
def Obligations.RestartFollowsItsAnswer : Prop :=
  (∀ (s : State) (tag : BitVec 16), AgentFree s → s.stc.startState ≠ .loading →
    exec (.restart tag) s =
      .next (txArbitrate (answered tag 11 .ok [] { s with mga := { s.mga with restartPending := true } }))) ∧
  (∀ (s : State) (a b : Byte) (rest : List Frame) (mark : Bool) (straps : Straps) (draw : Byte), s.stc.startState ≠ .reset →
    s.bau.tx.st = .sending → s.bau.tx.hand = some .mgmt → s.mga.restartPending = true →
    s.fst.responses = { kind := .mrsp, port := 31, payload := [a, b, 11, 0], inFlight := mark } :: rest →
    let restarted := fun (t : State) =>
      let starts := straps.startMode = 0 ∨ straps.startMode = 2
      t.tsq.results = s.tsq.results ∧ t.tsq.seq = s.tsq.seq ∧
      t.mga.portCounters = s.mga.portCounters ∧ t.mga.flags = 0 ∧
      t.mga.restartPending = false ∧ t.mga.waiting = [] ∧ t.tsq.running = none ∧ t.tsq.queue = [] ∧
      StoreAtReset t.fst ∧ ShareAtReset t.shu ∧ SchedulerAtReset t.usc ∧ ClaimsAtReset t.clt ∧ BusAtReset t.bau ∧
      t.stc.station = straps.station.toFin ∧ t.stc.startMode = straps.startMode ∧
      t.stc.startState = (if starts then .loading else .joining) ∧ t.stc.joinCount = 0 ∧
      (∀ i, tget t.stc.staging i = 0) ∧ t.cfg = defaultCfg ∧ t.mga.mask = 1023 ∧ MeasurementAtReset t.msu ∧
      t.msu.holder = (if starts then .none else .supply) ∧ SupplyAtReset t.smn ∧ t.smn.mainsSeen = s.pins.mains ∧
      t.relayHold = (if ∃ p, (s.port p).serviceClosed = false then .running else .none) ∧
      ∀ p, (t.port p).testClosed = false ∧
        PortAtReset { t.port p with admin := false, priority := false, binder := 0, weightOverride := 0 } ∧
        (t.port p).admin = decide (¬starts) ∧ (t.port p).priority = false ∧ (t.port p).weightOverride = 0 ∧
        (t.port p).binder.val = (if starts then 0 else p.val) ∧
        (t.port p).serviceClosed = (s.port p).serviceClosed ∧ (t.port p).serviceHeld = !(s.port p).serviceClosed
    (s.bau.tx.jamming = false →
      ∃ t, exec (.successfulEnd straps) s = .next t ∧ restarted t ∧ t.mga.cardCounters = s.mga.cardCounters) ∧
    (s.bau.tx.jamming = true → s.bau.tx.collisions = 11 →
      ∃ t, exec (.jamEnd draw straps) s = .next t ∧ restarted t ∧
        ∀ c, t.cardCounter c = if c = .collisions then (s.cardCounter c).rise 1 else s.cardCounter c)) ∧
  (∀ (s : State) (f : Frame) (rest : List Frame) (straps : Straps) (draw : Byte), Unburdened s → s.bau.tx.st = .sending →
    s.bau.tx.hand = some .mgmt → s.fst.responses = f :: rest → s.mga.restartPending = false ∨ f.kind = .notice →
    let removed := fun (out : List BusOut) =>
      { s with
        bau := { s.bau with tx := Tx.initial, sent := s.bau.sent ++ out }
        fst := { s.fst with
          freeCells := s.fst.freeCells + f.cells, freeRecords := s.fst.freeRecords + 1, responses := rest } }
    (s.bau.tx.jamming = false →
      exec (.successfulEnd straps) s = .next (txArbitrate (removed
        [.frame (busFrame (if f.kind = .notice then .notice else .mrsp) 0 s.stationNumber 31 f.payload)]))) ∧
    (s.bau.tx.jamming = true → s.bau.tx.collisions = 11 → (s.cardCounter .collisions).saturates 1 = false →
      exec (.jamEnd draw straps) s = .next (txArbitrate (countCard .collisions (removed [])))) ∧
    (s.bau.tx.jamming = false →
      (f.payload.length ≤ 52 → exec .lateCollision s = .next s) ∧
      (52 < f.payload.length → (s.cardCounter .lateCollisions).saturates 1 = false → s.flagSet .busFault = true →
        exec .lateCollision s = .next (txArbitrate (countCard .lateCollisions (removed [.jam])))))) ∧
  ∀ (s : State) (f : Frame) (rest : List Frame) (item : WaitItem) (later : List WaitItem) (straps : Straps),
    s.stc.startState ≠ .reset → s.tsq.queue = [] → s.bau.tx.st = .sending → s.bau.tx.jamming = false →
    s.bau.tx.hand = some .mgmt → s.fst.responses = f :: rest → rest.length = 7 → s.mga.waiting = item :: later →
    s.mga.restartPending = false ∨ f.kind = .notice →
    ∃ u, exec (.successfulEnd straps) s = .next (txArbitrate u) ∧
      (∀ c : Cause, item = .notice c → u.mga.waiting = later ∧ u.fst.requests = s.fst.requests ∧
        u.fst.freeCells = s.fst.freeCells + f.cells - 1 ∧ u.fst.freeRecords = s.fst.freeRecords ∧
        u.fst.responses = rest ++
          [{ kind := .notice, port := 31, inFlight := false,
             payload := [u8 c.bit, u8 (s.mga.flags.toNat / 256), u8 s.mga.flags.toNat] }]) ∧
      ∀ (payload : List Byte) (r : Frame) (others : List Frame), item = .answer payload → s.fst.requests = r :: others →
        let room := s.fst.freeCells + f.cells + r.cells
        (cellsOf payload ≤ room → u.mga.waiting = later ∧ u.fst.requests = others ∧
          u.fst.freeCells = room - cellsOf payload ∧ u.fst.freeRecords = s.fst.freeRecords + 1 ∧
          u.fst.responses = rest ++ [{ kind := .mrsp, port := 31, payload := payload, inFlight := false }]) ∧
        (room < cellsOf payload → u.mga.waiting = item :: later ∧ u.fst.requests = s.fst.requests ∧
          u.fst.responses = rest)

/-- In LOADING under REMOTE, CONFIG_WRITE copies its words into the staging image from its offset on, and CONFIG_APPLY of a
good image ends LOADING with its configuration while a bad one is REFUSED_ARGUMENT; elsewhere both are REFUSED_STATE (R159,
R166, R167). -/
def Obligations.RemoteConfigurationIsWrittenAndApplied : Prop :=
  ∀ (s : State) (tag : BitVec 16), AgentFree s →
    let remote := s.stc.startState = .loading ∧ s.stc.startMode = 2
    (∀ (offset : BitVec 16) (words : List Word16), words ≠ [] → offset.toNat + words.length ≤ 512 →
      (remote →
        ∃ t, exec (.configWrite tag offset words) s = .next t ∧
          t.fst.responses = (answered tag 12 .ok [] s).fst.responses ∧ t.stc.startState = .loading ∧ t.cfg = s.cfg ∧
          ∀ i : Fin 512, tget t.stc.staging i =
            if offset.toNat ≤ i.val ∧ i.val < offset.toNat + words.length then
              (words[i.val - offset.toNat]?).getD 0
            else tget s.stc.staging i) ∧
      (¬remote → exec (.configWrite tag offset words) s = .next (txArbitrate (answered tag 12 .refusedState [] s)))) ∧
    (∀ img : List Word16, remote → goodImage s.stc.staging.toList = some img →
      ∃ t, exec (.configApply tag) s = .next t ∧ t.fst.responses = (answered tag 13 .ok [] s).fst.responses ∧
        t.stc.startState = .joining ∧ t.cfg = imageCfg img ∧ t.mga.mask = t.cfg.noticeMask) ∧
    (remote → goodImage s.stc.staging.toList = none →
      exec (.configApply tag) s = .next (txArbitrate (answered tag 13 .refusedArgument [] s))) ∧
    (¬remote → exec (.configApply tag) s = .next (txArbitrate (answered tag 13 .refusedState [] s)))

/-- An MREQ that meets a full request queue, or too few cells or records, is discarded with MREQ_OVERRUN counted and its
notice flag set; otherwise it takes its cells and a record and waits; here the waiting list keeps the agent from taking
requests (R47, R156). One without a known kind is answered UNKNOWN_KIND with its tag, and one too short to hold a tag
with tag 0; it has no other effect (R156). The kind byte of an answer to a request that holds none is a free value (log
7). -/
def Obligations.MreqsAreAdmittedOrCounted : Prop :=
  (∀ (s : State) (payload : List Byte), s.stc.startState ≠ .reset → s.tsq.queue = [] → payload.length ≤ 1536 →
    s.fst.responses.length = 8 → s.mga.waiting ≠ [] →
    (s.fst.requests.length = 8 ∨ s.fst.freeCells < max 1 ((payload.length + 63) / 64) ∨ s.fst.freeRecords = 0 →
      ∃ t, exec (.mreqReceived payload) s = .next t ∧ t.fst.requests = s.fst.requests ∧
        t.cardCounter .mreqOverrun = (s.cardCounter .mreqOverrun).rise 1 ∧ t.flagSet .mreqOverrun = true ∧
        t.ports = s.ports) ∧
    (s.fst.requests.length < 8 → max 1 ((payload.length + 63) / 64) ≤ s.fst.freeCells → 1 ≤ s.fst.freeRecords →
      ∃ t, exec (.mreqReceived payload) s = .next t ∧
        t.fst.requests = s.fst.requests ++ [{ kind := .mreq, port := 31, payload := payload, inFlight := false }] ∧
        t.fst.freeCells = s.fst.freeCells - max 1 ((payload.length + 63) / 64) ∧
        t.fst.freeRecords = s.fst.freeRecords - 1 ∧ t.mga = s.mga ∧ t.ports = s.ports)) ∧
  ∀ (s : State), AgentFree s →
    (∀ (tag : BitVec 16) (k : Byte) (args : List Byte), args.length ≤ 1533 → ¬(1 ≤ k.toNat ∧ k.toNat ≤ 13) →
      exec (.mreqUnknownKind (u16 tag.toNat ++ k :: args)) s =
        .next (txArbitrate (answered tag k.toNat .unknownKind [] s))) ∧
    ∀ payload : List Byte, payload.length < 3 → ∃ (k : Byte) (tag : BitVec 16),
      exec (.mreqUnknownKind payload) s = .next (txArbitrate (answered tag k.toNat .unknownKind [] s)) ∧
      (payload.length < 2 → tag = 0) ∧ (payload.length = 2 → payload = u16 tag.toNat)

/-! ## Refusals -/

/-- The card refuses exactly the commands that none of its interfaces can carry (log 23), and answers every other with a next
state, in which the commands behind it wait as they stood. -/
def Obligations.OnlyIllFormedCommandsAreRefused : Prop :=
  ∀ (c : Instr) (s : State),
    (WellFormed c = false → exec c s = .refused .illFormed) ∧
    (WellFormed c = true → ∃ t, exec c s = .next t ∧ t.pending = s.pending)

/-! ## The laws of the card -/

/-- Every step keeps the relay law in its three parts: a port's relays are never both closed, at most one port's test relay
is closed, and no step but a power-up reset takes a port from one closed relay to the other, a test relay closing at the end of
ISOLATING's dead time alone and a service relay at the end of RESTORING's or by the reset hold (R5, R6, R7). That the hold
holds no relay of a port under test or FAULTED is the model's choice (log 19). -/
def Obligations.EveryStepKeepsTheRelayLaw : Prop :=
  ∀ s t : State, RelayLaw s → step s = .next t →
    RelayLaw t ∧ (s.pending.head? ≠ some (.hardwareReset true) → RelaysPart s t)

/-- Every step keeps every cell and record in its pool or in a queue, and the bounds of the management queues (R37, R38,
R47, R48). -/
def Obligations.EveryStepKeepsTheStoreLaw : Prop :=
  ∀ s t : State, StoreLaw s → step s = .next t → StoreLaw t

/-- Every step keeps the bounds of the control list, and every counter within its range and with its sticky flag set at the
maximum (R60, R163). -/
def Obligations.EveryStepKeepsListsAndCounters : Prop :=
  ∀ s t : State, ControlLaw s ∧ CounterLaw s → step s = .next t → ControlLaw t ∧ CounterLaw t

/-- Every step keeps the cabinet supply state the worst of the own measured state and the present peers' (R85, R148). -/
def Obligations.EveryStepKeepsTheSupplyLaw : Prop :=
  ∀ s t : State, SupplyLaw s → step s = .next t → SupplyLaw t

/-- Every step keeps the active port list equal to the eligible ports, each listed once, and the credit and the tokens within
their bounds (R81, R89, R90). -/
def Obligations.EveryStepKeepsTheSchedulerLaws : Prop :=
  ∀ s t : State, ActiveLaw s ∧ CreditLaw s → step s = .next t → ActiveLaw t ∧ CreditLaw t

/-- Every step keeps the queues of a port out of traffic empty but for an upstream frame in flight, and every queue within its
limit (R8, R41). -/
def Obligations.EveryStepKeepsTheQueueLaw : Prop :=
  ∀ s t : State, QueueLaw s → step s = .next t → QueueLaw t

/-- Every step keeps the ports of a claimed binder out of TRAINING (R24, R32). -/
def Obligations.EveryStepKeepsTheTrainingLaw : Prop :=
  ∀ s t : State, TrainingLaw s → step s = .next t → TrainingLaw t

/-- Every step keeps the card's own claim single and its entry in step with its context (R99, R106, R109). -/
def Obligations.EveryStepKeepsTheClaimLaw : Prop :=
  ∀ s t : State, ClaimLaw s → step s = .next t → ClaimLaw t

/-- Every step keeps a port TESTING exactly while the running test has taken it, and a port once at most among the test queue
and the running test (R113, R121). -/
def Obligations.EveryStepKeepsTheTestLaw : Prop :=
  ∀ s t : State, TestLaw s → step s = .next t → TestLaw t

/-- Every law holds right after reset. -/
def Obligations.LawsHoldAtReset : Prop :=
  RelayLaw State.reset ∧ StoreLaw State.reset ∧ ControlLaw State.reset ∧ CounterLaw State.reset ∧
    SupplyLaw State.reset ∧ ActiveLaw State.reset ∧ CreditLaw State.reset ∧ QueueLaw State.reset ∧
    TrainingLaw State.reset ∧ ClaimLaw State.reset ∧ TestLaw State.reset
end

