-- ==== Sys2Proof/Laws/State.lean ====
section
/-! SUPPORT. Tables read and written, and one lemma for each field that an update of the state leaves or writes. -/

namespace Sys2Proof

variable {α : Type} {n : Nat}

@[simp] theorem tget_tset_self (v : Tbl α n) (i : Fin n) (x : α) : tget (tset v i x) i = x := by
  simp [tget, tset]

theorem tget_tset_ne (v : Tbl α n) {i j : Fin n} (x : α) (h : i ≠ j) : tget (tset v i x) j = tget v j := by
  have h' : i.val ≠ j.val := fun e => h (Fin.ext e)
  simp [tget, tset, Vector.getElem_set_ne, h']

theorem tget_tset (v : Tbl α n) (i j : Fin n) (x : α) : tget (tset v i x) j = if i = j then x else tget v j := by
  split
  · subst i; simp
  · exact tget_tset_ne v x ‹_›

@[simp] theorem tget_tconst (i : Fin n) (x : α) : tget (tconst n x) i = x := by
  simp [tget, tconst]

@[simp] theorem tget_map {β : Type} (v : Tbl α n) (f : α → β) (i : Fin n) : tget (v.map f) i = f (tget v i) := by
  simp [tget]

end Sys2Proof

namespace Sys2Proof.Machine

/-! ## setPort -/

@[simp] theorem setPort_pins (s : State) (p : PortId) (r : Port) : (s.setPort p r).pins = s.pins := rfl
@[simp] theorem setPort_relayHold (s : State) (p : PortId) (r : Port) : (s.setPort p r).relayHold = s.relayHold := rfl
@[simp] theorem setPort_stc (s : State) (p : PortId) (r : Port) : (s.setPort p r).stc = s.stc := rfl
@[simp] theorem setPort_cfg (s : State) (p : PortId) (r : Port) : (s.setPort p r).cfg = s.cfg := rfl
@[simp] theorem setPort_fst (s : State) (p : PortId) (r : Port) : (s.setPort p r).fst = s.fst := rfl
@[simp] theorem setPort_bau (s : State) (p : PortId) (r : Port) : (s.setPort p r).bau = s.bau := rfl
@[simp] theorem setPort_shu (s : State) (p : PortId) (r : Port) : (s.setPort p r).shu = s.shu := rfl
@[simp] theorem setPort_usc (s : State) (p : PortId) (r : Port) : (s.setPort p r).usc = s.usc := rfl
@[simp] theorem setPort_clt (s : State) (p : PortId) (r : Port) : (s.setPort p r).clt = s.clt := rfl
@[simp] theorem setPort_tsq (s : State) (p : PortId) (r : Port) : (s.setPort p r).tsq = s.tsq := rfl
@[simp] theorem setPort_msu (s : State) (p : PortId) (r : Port) : (s.setPort p r).msu = s.msu := rfl
@[simp] theorem setPort_smn (s : State) (p : PortId) (r : Port) : (s.setPort p r).smn = s.smn := rfl
@[simp] theorem setPort_mga (s : State) (p : PortId) (r : Port) : (s.setPort p r).mga = s.mga := rfl
@[simp] theorem setPort_pending (s : State) (p : PortId) (r : Port) : (s.setPort p r).pending = s.pending := rfl

/-! ## modPort -/

@[simp] theorem modPort_pins (s : State) (p : PortId) (f : Port → Port) : (s.modPort p f).pins = s.pins := rfl
@[simp] theorem modPort_relayHold (s : State) (p : PortId) (f : Port → Port) : (s.modPort p f).relayHold = s.relayHold := rfl
@[simp] theorem modPort_stc (s : State) (p : PortId) (f : Port → Port) : (s.modPort p f).stc = s.stc := rfl
@[simp] theorem modPort_cfg (s : State) (p : PortId) (f : Port → Port) : (s.modPort p f).cfg = s.cfg := rfl
@[simp] theorem modPort_fst (s : State) (p : PortId) (f : Port → Port) : (s.modPort p f).fst = s.fst := rfl
@[simp] theorem modPort_bau (s : State) (p : PortId) (f : Port → Port) : (s.modPort p f).bau = s.bau := rfl
@[simp] theorem modPort_shu (s : State) (p : PortId) (f : Port → Port) : (s.modPort p f).shu = s.shu := rfl
@[simp] theorem modPort_usc (s : State) (p : PortId) (f : Port → Port) : (s.modPort p f).usc = s.usc := rfl
@[simp] theorem modPort_clt (s : State) (p : PortId) (f : Port → Port) : (s.modPort p f).clt = s.clt := rfl
@[simp] theorem modPort_tsq (s : State) (p : PortId) (f : Port → Port) : (s.modPort p f).tsq = s.tsq := rfl
@[simp] theorem modPort_msu (s : State) (p : PortId) (f : Port → Port) : (s.modPort p f).msu = s.msu := rfl
@[simp] theorem modPort_smn (s : State) (p : PortId) (f : Port → Port) : (s.modPort p f).smn = s.smn := rfl
@[simp] theorem modPort_mga (s : State) (p : PortId) (f : Port → Port) : (s.modPort p f).mga = s.mga := rfl
@[simp] theorem modPort_pending (s : State) (p : PortId) (f : Port → Port) : (s.modPort p f).pending = s.pending := rfl

/-! ## openService -/

@[simp] theorem openService_pins (s : State) (p : PortId) : (openService p s).pins = s.pins := rfl
@[simp] theorem openService_relayHold (s : State) (p : PortId) : (openService p s).relayHold = s.relayHold := rfl
@[simp] theorem openService_stc (s : State) (p : PortId) : (openService p s).stc = s.stc := rfl
@[simp] theorem openService_cfg (s : State) (p : PortId) : (openService p s).cfg = s.cfg := rfl
@[simp] theorem openService_fst (s : State) (p : PortId) : (openService p s).fst = s.fst := rfl
@[simp] theorem openService_bau (s : State) (p : PortId) : (openService p s).bau = s.bau := rfl
@[simp] theorem openService_shu (s : State) (p : PortId) : (openService p s).shu = s.shu := rfl
@[simp] theorem openService_usc (s : State) (p : PortId) : (openService p s).usc = s.usc := rfl
@[simp] theorem openService_clt (s : State) (p : PortId) : (openService p s).clt = s.clt := rfl
@[simp] theorem openService_tsq (s : State) (p : PortId) : (openService p s).tsq = s.tsq := rfl
@[simp] theorem openService_msu (s : State) (p : PortId) : (openService p s).msu = s.msu := rfl
@[simp] theorem openService_smn (s : State) (p : PortId) : (openService p s).smn = s.smn := rfl
@[simp] theorem openService_mga (s : State) (p : PortId) : (openService p s).mga = s.mga := rfl
@[simp] theorem openService_pending (s : State) (p : PortId) : (openService p s).pending = s.pending := rfl

/-! ## openTest -/

@[simp] theorem openTest_pins (s : State) (p : PortId) : (openTest p s).pins = s.pins := rfl
@[simp] theorem openTest_relayHold (s : State) (p : PortId) : (openTest p s).relayHold = s.relayHold := rfl
@[simp] theorem openTest_stc (s : State) (p : PortId) : (openTest p s).stc = s.stc := rfl
@[simp] theorem openTest_cfg (s : State) (p : PortId) : (openTest p s).cfg = s.cfg := rfl
@[simp] theorem openTest_fst (s : State) (p : PortId) : (openTest p s).fst = s.fst := rfl
@[simp] theorem openTest_bau (s : State) (p : PortId) : (openTest p s).bau = s.bau := rfl
@[simp] theorem openTest_shu (s : State) (p : PortId) : (openTest p s).shu = s.shu := rfl
@[simp] theorem openTest_usc (s : State) (p : PortId) : (openTest p s).usc = s.usc := rfl
@[simp] theorem openTest_clt (s : State) (p : PortId) : (openTest p s).clt = s.clt := rfl
@[simp] theorem openTest_tsq (s : State) (p : PortId) : (openTest p s).tsq = s.tsq := rfl
@[simp] theorem openTest_msu (s : State) (p : PortId) : (openTest p s).msu = s.msu := rfl
@[simp] theorem openTest_smn (s : State) (p : PortId) : (openTest p s).smn = s.smn := rfl
@[simp] theorem openTest_mga (s : State) (p : PortId) : (openTest p s).mga = s.mga := rfl
@[simp] theorem openTest_pending (s : State) (p : PortId) : (openTest p s).pending = s.pending := rfl

/-! ## modCtrl -/

@[simp] theorem modCtrl_pins (s : State) (f : List CtrlItem → List CtrlItem) : (s.modCtrl f).pins = s.pins := rfl
@[simp] theorem modCtrl_relayHold (s : State) (f : List CtrlItem → List CtrlItem) : (s.modCtrl f).relayHold = s.relayHold := rfl
@[simp] theorem modCtrl_stc (s : State) (f : List CtrlItem → List CtrlItem) : (s.modCtrl f).stc = s.stc := rfl
@[simp] theorem modCtrl_cfg (s : State) (f : List CtrlItem → List CtrlItem) : (s.modCtrl f).cfg = s.cfg := rfl
@[simp] theorem modCtrl_ports (s : State) (f : List CtrlItem → List CtrlItem) : (s.modCtrl f).ports = s.ports := rfl
@[simp] theorem modCtrl_fst (s : State) (f : List CtrlItem → List CtrlItem) : (s.modCtrl f).fst = s.fst := rfl
@[simp] theorem modCtrl_shu (s : State) (f : List CtrlItem → List CtrlItem) : (s.modCtrl f).shu = s.shu := rfl
@[simp] theorem modCtrl_usc (s : State) (f : List CtrlItem → List CtrlItem) : (s.modCtrl f).usc = s.usc := rfl
@[simp] theorem modCtrl_clt (s : State) (f : List CtrlItem → List CtrlItem) : (s.modCtrl f).clt = s.clt := rfl
@[simp] theorem modCtrl_tsq (s : State) (f : List CtrlItem → List CtrlItem) : (s.modCtrl f).tsq = s.tsq := rfl
@[simp] theorem modCtrl_msu (s : State) (f : List CtrlItem → List CtrlItem) : (s.modCtrl f).msu = s.msu := rfl
@[simp] theorem modCtrl_smn (s : State) (f : List CtrlItem → List CtrlItem) : (s.modCtrl f).smn = s.smn := rfl
@[simp] theorem modCtrl_mga (s : State) (f : List CtrlItem → List CtrlItem) : (s.modCtrl f).mga = s.mga := rfl
@[simp] theorem modCtrl_pending (s : State) (f : List CtrlItem → List CtrlItem) : (s.modCtrl f).pending = s.pending := rfl

/-! ## modUsc -/

@[simp] theorem modUsc_pins (s : State) (p : PortId) (f : UscPort → UscPort) : (s.modUsc p f).pins = s.pins := rfl
@[simp] theorem modUsc_relayHold (s : State) (p : PortId) (f : UscPort → UscPort) : (s.modUsc p f).relayHold = s.relayHold := rfl
@[simp] theorem modUsc_stc (s : State) (p : PortId) (f : UscPort → UscPort) : (s.modUsc p f).stc = s.stc := rfl
@[simp] theorem modUsc_cfg (s : State) (p : PortId) (f : UscPort → UscPort) : (s.modUsc p f).cfg = s.cfg := rfl
@[simp] theorem modUsc_ports (s : State) (p : PortId) (f : UscPort → UscPort) : (s.modUsc p f).ports = s.ports := rfl
@[simp] theorem modUsc_fst (s : State) (p : PortId) (f : UscPort → UscPort) : (s.modUsc p f).fst = s.fst := rfl
@[simp] theorem modUsc_bau (s : State) (p : PortId) (f : UscPort → UscPort) : (s.modUsc p f).bau = s.bau := rfl
@[simp] theorem modUsc_shu (s : State) (p : PortId) (f : UscPort → UscPort) : (s.modUsc p f).shu = s.shu := rfl
@[simp] theorem modUsc_clt (s : State) (p : PortId) (f : UscPort → UscPort) : (s.modUsc p f).clt = s.clt := rfl
@[simp] theorem modUsc_tsq (s : State) (p : PortId) (f : UscPort → UscPort) : (s.modUsc p f).tsq = s.tsq := rfl
@[simp] theorem modUsc_msu (s : State) (p : PortId) (f : UscPort → UscPort) : (s.modUsc p f).msu = s.msu := rfl
@[simp] theorem modUsc_smn (s : State) (p : PortId) (f : UscPort → UscPort) : (s.modUsc p f).smn = s.smn := rfl
@[simp] theorem modUsc_mga (s : State) (p : PortId) (f : UscPort → UscPort) : (s.modUsc p f).mga = s.mga := rfl
@[simp] theorem modUsc_pending (s : State) (p : PortId) (f : UscPort → UscPort) : (s.modUsc p f).pending = s.pending := rfl

/-! ## setTx -/

@[simp] theorem setTx_pins (s : State) (t : Tx) : (setTx t s).pins = s.pins := rfl
@[simp] theorem setTx_relayHold (s : State) (t : Tx) : (setTx t s).relayHold = s.relayHold := rfl
@[simp] theorem setTx_stc (s : State) (t : Tx) : (setTx t s).stc = s.stc := rfl
@[simp] theorem setTx_cfg (s : State) (t : Tx) : (setTx t s).cfg = s.cfg := rfl
@[simp] theorem setTx_ports (s : State) (t : Tx) : (setTx t s).ports = s.ports := rfl
@[simp] theorem setTx_fst (s : State) (t : Tx) : (setTx t s).fst = s.fst := rfl
@[simp] theorem setTx_shu (s : State) (t : Tx) : (setTx t s).shu = s.shu := rfl
@[simp] theorem setTx_usc (s : State) (t : Tx) : (setTx t s).usc = s.usc := rfl
@[simp] theorem setTx_clt (s : State) (t : Tx) : (setTx t s).clt = s.clt := rfl
@[simp] theorem setTx_tsq (s : State) (t : Tx) : (setTx t s).tsq = s.tsq := rfl
@[simp] theorem setTx_msu (s : State) (t : Tx) : (setTx t s).msu = s.msu := rfl
@[simp] theorem setTx_smn (s : State) (t : Tx) : (setTx t s).smn = s.smn := rfl
@[simp] theorem setTx_mga (s : State) (t : Tx) : (setTx t s).mga = s.mga := rfl
@[simp] theorem setTx_pending (s : State) (t : Tx) : (setTx t s).pending = s.pending := rfl

/-! ## takeInHand -/

@[simp] theorem takeInHand_pins (s : State) (h : InHand) : (takeInHand h s).pins = s.pins := rfl
@[simp] theorem takeInHand_relayHold (s : State) (h : InHand) : (takeInHand h s).relayHold = s.relayHold := rfl
@[simp] theorem takeInHand_stc (s : State) (h : InHand) : (takeInHand h s).stc = s.stc := rfl
@[simp] theorem takeInHand_cfg (s : State) (h : InHand) : (takeInHand h s).cfg = s.cfg := rfl
@[simp] theorem takeInHand_ports (s : State) (h : InHand) : (takeInHand h s).ports = s.ports := rfl
@[simp] theorem takeInHand_fst (s : State) (h : InHand) : (takeInHand h s).fst = s.fst := rfl
@[simp] theorem takeInHand_shu (s : State) (h : InHand) : (takeInHand h s).shu = s.shu := rfl
@[simp] theorem takeInHand_usc (s : State) (h : InHand) : (takeInHand h s).usc = s.usc := rfl
@[simp] theorem takeInHand_clt (s : State) (h : InHand) : (takeInHand h s).clt = s.clt := rfl
@[simp] theorem takeInHand_tsq (s : State) (h : InHand) : (takeInHand h s).tsq = s.tsq := rfl
@[simp] theorem takeInHand_msu (s : State) (h : InHand) : (takeInHand h s).msu = s.msu := rfl
@[simp] theorem takeInHand_smn (s : State) (h : InHand) : (takeInHand h s).smn = s.smn := rfl
@[simp] theorem takeInHand_mga (s : State) (h : InHand) : (takeInHand h s).mga = s.mga := rfl
@[simp] theorem takeInHand_pending (s : State) (h : InHand) : (takeInHand h s).pending = s.pending := rfl

/-! ## recordWinner -/

@[simp] theorem recordWinner_pins (s : State) (w : Winner) : (recordWinner w s).pins = s.pins := rfl
@[simp] theorem recordWinner_relayHold (s : State) (w : Winner) : (recordWinner w s).relayHold = s.relayHold := rfl
@[simp] theorem recordWinner_stc (s : State) (w : Winner) : (recordWinner w s).stc = s.stc := rfl
@[simp] theorem recordWinner_cfg (s : State) (w : Winner) : (recordWinner w s).cfg = s.cfg := rfl
@[simp] theorem recordWinner_ports (s : State) (w : Winner) : (recordWinner w s).ports = s.ports := rfl
@[simp] theorem recordWinner_fst (s : State) (w : Winner) : (recordWinner w s).fst = s.fst := rfl
@[simp] theorem recordWinner_shu (s : State) (w : Winner) : (recordWinner w s).shu = s.shu := rfl
@[simp] theorem recordWinner_usc (s : State) (w : Winner) : (recordWinner w s).usc = s.usc := rfl
@[simp] theorem recordWinner_clt (s : State) (w : Winner) : (recordWinner w s).clt = s.clt := rfl
@[simp] theorem recordWinner_tsq (s : State) (w : Winner) : (recordWinner w s).tsq = s.tsq := rfl
@[simp] theorem recordWinner_msu (s : State) (w : Winner) : (recordWinner w s).msu = s.msu := rfl
@[simp] theorem recordWinner_smn (s : State) (w : Winner) : (recordWinner w s).smn = s.smn := rfl
@[simp] theorem recordWinner_mga (s : State) (w : Winner) : (recordWinner w s).mga = s.mga := rfl
@[simp] theorem recordWinner_pending (s : State) (w : Winner) : (recordWinner w s).pending = s.pending := rfl

/-! ## setPeer -/

@[simp] theorem setPeer_pins (s : State) (t : StationId) (e : Peer) : (setPeer t e s).pins = s.pins := rfl
@[simp] theorem setPeer_relayHold (s : State) (t : StationId) (e : Peer) : (setPeer t e s).relayHold = s.relayHold := rfl
@[simp] theorem setPeer_stc (s : State) (t : StationId) (e : Peer) : (setPeer t e s).stc = s.stc := rfl
@[simp] theorem setPeer_cfg (s : State) (t : StationId) (e : Peer) : (setPeer t e s).cfg = s.cfg := rfl
@[simp] theorem setPeer_ports (s : State) (t : StationId) (e : Peer) : (setPeer t e s).ports = s.ports := rfl
@[simp] theorem setPeer_fst (s : State) (t : StationId) (e : Peer) : (setPeer t e s).fst = s.fst := rfl
@[simp] theorem setPeer_bau (s : State) (t : StationId) (e : Peer) : (setPeer t e s).bau = s.bau := rfl
@[simp] theorem setPeer_usc (s : State) (t : StationId) (e : Peer) : (setPeer t e s).usc = s.usc := rfl
@[simp] theorem setPeer_clt (s : State) (t : StationId) (e : Peer) : (setPeer t e s).clt = s.clt := rfl
@[simp] theorem setPeer_tsq (s : State) (t : StationId) (e : Peer) : (setPeer t e s).tsq = s.tsq := rfl
@[simp] theorem setPeer_msu (s : State) (t : StationId) (e : Peer) : (setPeer t e s).msu = s.msu := rfl
@[simp] theorem setPeer_smn (s : State) (t : StationId) (e : Peer) : (setPeer t e s).smn = s.smn := rfl
@[simp] theorem setPeer_mga (s : State) (t : StationId) (e : Peer) : (setPeer t e s).mga = s.mga := rfl
@[simp] theorem setPeer_pending (s : State) (t : StationId) (e : Peer) : (setPeer t e s).pending = s.pending := rfl

/-! ## setNotice -/

@[simp] theorem setNotice_pins (s : State) (n : Option Notice) : (setNotice n s).pins = s.pins := rfl
@[simp] theorem setNotice_relayHold (s : State) (n : Option Notice) : (setNotice n s).relayHold = s.relayHold := rfl
@[simp] theorem setNotice_stc (s : State) (n : Option Notice) : (setNotice n s).stc = s.stc := rfl
@[simp] theorem setNotice_cfg (s : State) (n : Option Notice) : (setNotice n s).cfg = s.cfg := rfl
@[simp] theorem setNotice_ports (s : State) (n : Option Notice) : (setNotice n s).ports = s.ports := rfl
@[simp] theorem setNotice_fst (s : State) (n : Option Notice) : (setNotice n s).fst = s.fst := rfl
@[simp] theorem setNotice_bau (s : State) (n : Option Notice) : (setNotice n s).bau = s.bau := rfl
@[simp] theorem setNotice_usc (s : State) (n : Option Notice) : (setNotice n s).usc = s.usc := rfl
@[simp] theorem setNotice_clt (s : State) (n : Option Notice) : (setNotice n s).clt = s.clt := rfl
@[simp] theorem setNotice_tsq (s : State) (n : Option Notice) : (setNotice n s).tsq = s.tsq := rfl
@[simp] theorem setNotice_msu (s : State) (n : Option Notice) : (setNotice n s).msu = s.msu := rfl
@[simp] theorem setNotice_smn (s : State) (n : Option Notice) : (setNotice n s).smn = s.smn := rfl
@[simp] theorem setNotice_mga (s : State) (n : Option Notice) : (setNotice n s).mga = s.mga := rfl
@[simp] theorem setNotice_pending (s : State) (n : Option Notice) : (setNotice n s).pending = s.pending := rfl

/-! ## chargeCredit -/

@[simp] theorem chargeCredit_pins (s : State) (n : Nat) : (chargeCredit n s).pins = s.pins := rfl
@[simp] theorem chargeCredit_relayHold (s : State) (n : Nat) : (chargeCredit n s).relayHold = s.relayHold := rfl
@[simp] theorem chargeCredit_stc (s : State) (n : Nat) : (chargeCredit n s).stc = s.stc := rfl
@[simp] theorem chargeCredit_cfg (s : State) (n : Nat) : (chargeCredit n s).cfg = s.cfg := rfl
@[simp] theorem chargeCredit_ports (s : State) (n : Nat) : (chargeCredit n s).ports = s.ports := rfl
@[simp] theorem chargeCredit_fst (s : State) (n : Nat) : (chargeCredit n s).fst = s.fst := rfl
@[simp] theorem chargeCredit_bau (s : State) (n : Nat) : (chargeCredit n s).bau = s.bau := rfl
@[simp] theorem chargeCredit_usc (s : State) (n : Nat) : (chargeCredit n s).usc = s.usc := rfl
@[simp] theorem chargeCredit_clt (s : State) (n : Nat) : (chargeCredit n s).clt = s.clt := rfl
@[simp] theorem chargeCredit_tsq (s : State) (n : Nat) : (chargeCredit n s).tsq = s.tsq := rfl
@[simp] theorem chargeCredit_msu (s : State) (n : Nat) : (chargeCredit n s).msu = s.msu := rfl
@[simp] theorem chargeCredit_smn (s : State) (n : Nat) : (chargeCredit n s).smn = s.smn := rfl
@[simp] theorem chargeCredit_mga (s : State) (n : Nat) : (chargeCredit n s).mga = s.mga := rfl
@[simp] theorem chargeCredit_pending (s : State) (n : Nat) : (chargeCredit n s).pending = s.pending := rfl

/-! ## expiryGrant -/

@[simp] theorem expiryGrant_pins (s : State) : (expiryGrant s).pins = s.pins := rfl
@[simp] theorem expiryGrant_relayHold (s : State) : (expiryGrant s).relayHold = s.relayHold := rfl
@[simp] theorem expiryGrant_stc (s : State) : (expiryGrant s).stc = s.stc := rfl
@[simp] theorem expiryGrant_cfg (s : State) : (expiryGrant s).cfg = s.cfg := rfl
@[simp] theorem expiryGrant_ports (s : State) : (expiryGrant s).ports = s.ports := rfl
@[simp] theorem expiryGrant_fst (s : State) : (expiryGrant s).fst = s.fst := rfl
@[simp] theorem expiryGrant_bau (s : State) : (expiryGrant s).bau = s.bau := rfl
@[simp] theorem expiryGrant_usc (s : State) : (expiryGrant s).usc = s.usc := rfl
@[simp] theorem expiryGrant_clt (s : State) : (expiryGrant s).clt = s.clt := rfl
@[simp] theorem expiryGrant_tsq (s : State) : (expiryGrant s).tsq = s.tsq := rfl
@[simp] theorem expiryGrant_msu (s : State) : (expiryGrant s).msu = s.msu := rfl
@[simp] theorem expiryGrant_smn (s : State) : (expiryGrant s).smn = s.smn := rfl
@[simp] theorem expiryGrant_mga (s : State) : (expiryGrant s).mga = s.mga := rfl
@[simp] theorem expiryGrant_pending (s : State) : (expiryGrant s).pending = s.pending := rfl

/-! ## expiryCredit -/

@[simp] theorem expiryCredit_pins (s : State) : (expiryCredit s).pins = s.pins := rfl
@[simp] theorem expiryCredit_relayHold (s : State) : (expiryCredit s).relayHold = s.relayHold := rfl
@[simp] theorem expiryCredit_stc (s : State) : (expiryCredit s).stc = s.stc := rfl
@[simp] theorem expiryCredit_cfg (s : State) : (expiryCredit s).cfg = s.cfg := rfl
@[simp] theorem expiryCredit_ports (s : State) : (expiryCredit s).ports = s.ports := rfl
@[simp] theorem expiryCredit_fst (s : State) : (expiryCredit s).fst = s.fst := rfl
@[simp] theorem expiryCredit_bau (s : State) : (expiryCredit s).bau = s.bau := rfl
@[simp] theorem expiryCredit_usc (s : State) : (expiryCredit s).usc = s.usc := rfl
@[simp] theorem expiryCredit_clt (s : State) : (expiryCredit s).clt = s.clt := rfl
@[simp] theorem expiryCredit_tsq (s : State) : (expiryCredit s).tsq = s.tsq := rfl
@[simp] theorem expiryCredit_msu (s : State) : (expiryCredit s).msu = s.msu := rfl
@[simp] theorem expiryCredit_smn (s : State) : (expiryCredit s).smn = s.smn := rfl
@[simp] theorem expiryCredit_mga (s : State) : (expiryCredit s).mga = s.mga := rfl
@[simp] theorem expiryCredit_pending (s : State) : (expiryCredit s).pending = s.pending := rfl

/-! ## setOwnClaim -/

@[simp] theorem setOwnClaim_pins (s : State) (c : Option (BinderId × ClaimStep)) : (setOwnClaim c s).pins = s.pins := rfl
@[simp] theorem setOwnClaim_relayHold (s : State) (c : Option (BinderId × ClaimStep)) : (setOwnClaim c s).relayHold = s.relayHold := rfl
@[simp] theorem setOwnClaim_stc (s : State) (c : Option (BinderId × ClaimStep)) : (setOwnClaim c s).stc = s.stc := rfl
@[simp] theorem setOwnClaim_cfg (s : State) (c : Option (BinderId × ClaimStep)) : (setOwnClaim c s).cfg = s.cfg := rfl
@[simp] theorem setOwnClaim_ports (s : State) (c : Option (BinderId × ClaimStep)) : (setOwnClaim c s).ports = s.ports := rfl
@[simp] theorem setOwnClaim_fst (s : State) (c : Option (BinderId × ClaimStep)) : (setOwnClaim c s).fst = s.fst := rfl
@[simp] theorem setOwnClaim_bau (s : State) (c : Option (BinderId × ClaimStep)) : (setOwnClaim c s).bau = s.bau := rfl
@[simp] theorem setOwnClaim_shu (s : State) (c : Option (BinderId × ClaimStep)) : (setOwnClaim c s).shu = s.shu := rfl
@[simp] theorem setOwnClaim_usc (s : State) (c : Option (BinderId × ClaimStep)) : (setOwnClaim c s).usc = s.usc := rfl
@[simp] theorem setOwnClaim_tsq (s : State) (c : Option (BinderId × ClaimStep)) : (setOwnClaim c s).tsq = s.tsq := rfl
@[simp] theorem setOwnClaim_msu (s : State) (c : Option (BinderId × ClaimStep)) : (setOwnClaim c s).msu = s.msu := rfl
@[simp] theorem setOwnClaim_smn (s : State) (c : Option (BinderId × ClaimStep)) : (setOwnClaim c s).smn = s.smn := rfl
@[simp] theorem setOwnClaim_mga (s : State) (c : Option (BinderId × ClaimStep)) : (setOwnClaim c s).mga = s.mga := rfl
@[simp] theorem setOwnClaim_pending (s : State) (c : Option (BinderId × ClaimStep)) : (setOwnClaim c s).pending = s.pending := rfl

/-! ## placeOwnClaim -/

@[simp] theorem placeOwnClaim_pins (s : State) (b : BinderId) (held : Bool) : (placeOwnClaim b held s).pins = s.pins := rfl
@[simp] theorem placeOwnClaim_relayHold (s : State) (b : BinderId) (held : Bool) : (placeOwnClaim b held s).relayHold = s.relayHold := rfl
@[simp] theorem placeOwnClaim_stc (s : State) (b : BinderId) (held : Bool) : (placeOwnClaim b held s).stc = s.stc := rfl
@[simp] theorem placeOwnClaim_cfg (s : State) (b : BinderId) (held : Bool) : (placeOwnClaim b held s).cfg = s.cfg := rfl
@[simp] theorem placeOwnClaim_ports (s : State) (b : BinderId) (held : Bool) : (placeOwnClaim b held s).ports = s.ports := rfl
@[simp] theorem placeOwnClaim_fst (s : State) (b : BinderId) (held : Bool) : (placeOwnClaim b held s).fst = s.fst := rfl
@[simp] theorem placeOwnClaim_shu (s : State) (b : BinderId) (held : Bool) : (placeOwnClaim b held s).shu = s.shu := rfl
@[simp] theorem placeOwnClaim_usc (s : State) (b : BinderId) (held : Bool) : (placeOwnClaim b held s).usc = s.usc := rfl
@[simp] theorem placeOwnClaim_clt (s : State) (b : BinderId) (held : Bool) : (placeOwnClaim b held s).clt = s.clt := rfl
@[simp] theorem placeOwnClaim_tsq (s : State) (b : BinderId) (held : Bool) : (placeOwnClaim b held s).tsq = s.tsq := rfl
@[simp] theorem placeOwnClaim_msu (s : State) (b : BinderId) (held : Bool) : (placeOwnClaim b held s).msu = s.msu := rfl
@[simp] theorem placeOwnClaim_smn (s : State) (b : BinderId) (held : Bool) : (placeOwnClaim b held s).smn = s.smn := rfl
@[simp] theorem placeOwnClaim_mga (s : State) (b : BinderId) (held : Bool) : (placeOwnClaim b held s).mga = s.mga := rfl
@[simp] theorem placeOwnClaim_pending (s : State) (b : BinderId) (held : Bool) : (placeOwnClaim b held s).pending = s.pending := rfl

/-! ## placeRelease -/

@[simp] theorem placeRelease_pins (s : State) (b : BinderId) (retried : Bool) : (placeRelease b retried s).pins = s.pins := rfl
@[simp] theorem placeRelease_relayHold (s : State) (b : BinderId) (retried : Bool) : (placeRelease b retried s).relayHold = s.relayHold := rfl
@[simp] theorem placeRelease_stc (s : State) (b : BinderId) (retried : Bool) : (placeRelease b retried s).stc = s.stc := rfl
@[simp] theorem placeRelease_cfg (s : State) (b : BinderId) (retried : Bool) : (placeRelease b retried s).cfg = s.cfg := rfl
@[simp] theorem placeRelease_ports (s : State) (b : BinderId) (retried : Bool) : (placeRelease b retried s).ports = s.ports := rfl
@[simp] theorem placeRelease_fst (s : State) (b : BinderId) (retried : Bool) : (placeRelease b retried s).fst = s.fst := rfl
@[simp] theorem placeRelease_shu (s : State) (b : BinderId) (retried : Bool) : (placeRelease b retried s).shu = s.shu := rfl
@[simp] theorem placeRelease_usc (s : State) (b : BinderId) (retried : Bool) : (placeRelease b retried s).usc = s.usc := rfl
@[simp] theorem placeRelease_clt (s : State) (b : BinderId) (retried : Bool) : (placeRelease b retried s).clt = s.clt := rfl
@[simp] theorem placeRelease_tsq (s : State) (b : BinderId) (retried : Bool) : (placeRelease b retried s).tsq = s.tsq := rfl
@[simp] theorem placeRelease_msu (s : State) (b : BinderId) (retried : Bool) : (placeRelease b retried s).msu = s.msu := rfl
@[simp] theorem placeRelease_smn (s : State) (b : BinderId) (retried : Bool) : (placeRelease b retried s).smn = s.smn := rfl
@[simp] theorem placeRelease_mga (s : State) (b : BinderId) (retried : Bool) : (placeRelease b retried s).mga = s.mga := rfl
@[simp] theorem placeRelease_pending (s : State) (b : BinderId) (retried : Bool) : (placeRelease b retried s).pending = s.pending := rfl

/-! ## setRunning -/

@[simp] theorem setRunning_pins (s : State) (t : Option Running) : (setRunning t s).pins = s.pins := rfl
@[simp] theorem setRunning_relayHold (s : State) (t : Option Running) : (setRunning t s).relayHold = s.relayHold := rfl
@[simp] theorem setRunning_stc (s : State) (t : Option Running) : (setRunning t s).stc = s.stc := rfl
@[simp] theorem setRunning_cfg (s : State) (t : Option Running) : (setRunning t s).cfg = s.cfg := rfl
@[simp] theorem setRunning_ports (s : State) (t : Option Running) : (setRunning t s).ports = s.ports := rfl
@[simp] theorem setRunning_fst (s : State) (t : Option Running) : (setRunning t s).fst = s.fst := rfl
@[simp] theorem setRunning_bau (s : State) (t : Option Running) : (setRunning t s).bau = s.bau := rfl
@[simp] theorem setRunning_shu (s : State) (t : Option Running) : (setRunning t s).shu = s.shu := rfl
@[simp] theorem setRunning_usc (s : State) (t : Option Running) : (setRunning t s).usc = s.usc := rfl
@[simp] theorem setRunning_clt (s : State) (t : Option Running) : (setRunning t s).clt = s.clt := rfl
@[simp] theorem setRunning_msu (s : State) (t : Option Running) : (setRunning t s).msu = s.msu := rfl
@[simp] theorem setRunning_smn (s : State) (t : Option Running) : (setRunning t s).smn = s.smn := rfl
@[simp] theorem setRunning_mga (s : State) (t : Option Running) : (setRunning t s).mga = s.mga := rfl
@[simp] theorem setRunning_pending (s : State) (t : Option Running) : (setRunning t s).pending = s.pending := rfl

/-! ## dequeuePort -/

@[simp] theorem dequeuePort_pins (s : State) (p : PortId) : (dequeuePort p s).pins = s.pins := rfl
@[simp] theorem dequeuePort_relayHold (s : State) (p : PortId) : (dequeuePort p s).relayHold = s.relayHold := rfl
@[simp] theorem dequeuePort_stc (s : State) (p : PortId) : (dequeuePort p s).stc = s.stc := rfl
@[simp] theorem dequeuePort_cfg (s : State) (p : PortId) : (dequeuePort p s).cfg = s.cfg := rfl
@[simp] theorem dequeuePort_ports (s : State) (p : PortId) : (dequeuePort p s).ports = s.ports := rfl
@[simp] theorem dequeuePort_fst (s : State) (p : PortId) : (dequeuePort p s).fst = s.fst := rfl
@[simp] theorem dequeuePort_bau (s : State) (p : PortId) : (dequeuePort p s).bau = s.bau := rfl
@[simp] theorem dequeuePort_shu (s : State) (p : PortId) : (dequeuePort p s).shu = s.shu := rfl
@[simp] theorem dequeuePort_usc (s : State) (p : PortId) : (dequeuePort p s).usc = s.usc := rfl
@[simp] theorem dequeuePort_clt (s : State) (p : PortId) : (dequeuePort p s).clt = s.clt := rfl
@[simp] theorem dequeuePort_msu (s : State) (p : PortId) : (dequeuePort p s).msu = s.msu := rfl
@[simp] theorem dequeuePort_smn (s : State) (p : PortId) : (dequeuePort p s).smn = s.smn := rfl
@[simp] theorem dequeuePort_mga (s : State) (p : PortId) : (dequeuePort p s).mga = s.mga := rfl
@[simp] theorem dequeuePort_pending (s : State) (p : PortId) : (dequeuePort p s).pending = s.pending := rfl

/-! ## enqueueTest -/

@[simp] theorem enqueueTest_pins (s : State) (p : PortId) (k : TestKind) (i : Bool) (t : Option ToneSpec) (o : Origin) : (enqueueTest p k i t o s).pins = s.pins := rfl
@[simp] theorem enqueueTest_relayHold (s : State) (p : PortId) (k : TestKind) (i : Bool) (t : Option ToneSpec) (o : Origin) : (enqueueTest p k i t o s).relayHold = s.relayHold := rfl
@[simp] theorem enqueueTest_stc (s : State) (p : PortId) (k : TestKind) (i : Bool) (t : Option ToneSpec) (o : Origin) : (enqueueTest p k i t o s).stc = s.stc := rfl
@[simp] theorem enqueueTest_cfg (s : State) (p : PortId) (k : TestKind) (i : Bool) (t : Option ToneSpec) (o : Origin) : (enqueueTest p k i t o s).cfg = s.cfg := rfl
@[simp] theorem enqueueTest_ports (s : State) (p : PortId) (k : TestKind) (i : Bool) (t : Option ToneSpec) (o : Origin) : (enqueueTest p k i t o s).ports = s.ports := rfl
@[simp] theorem enqueueTest_fst (s : State) (p : PortId) (k : TestKind) (i : Bool) (t : Option ToneSpec) (o : Origin) : (enqueueTest p k i t o s).fst = s.fst := rfl
@[simp] theorem enqueueTest_bau (s : State) (p : PortId) (k : TestKind) (i : Bool) (t : Option ToneSpec) (o : Origin) : (enqueueTest p k i t o s).bau = s.bau := rfl
@[simp] theorem enqueueTest_shu (s : State) (p : PortId) (k : TestKind) (i : Bool) (t : Option ToneSpec) (o : Origin) : (enqueueTest p k i t o s).shu = s.shu := rfl
@[simp] theorem enqueueTest_usc (s : State) (p : PortId) (k : TestKind) (i : Bool) (t : Option ToneSpec) (o : Origin) : (enqueueTest p k i t o s).usc = s.usc := rfl
@[simp] theorem enqueueTest_clt (s : State) (p : PortId) (k : TestKind) (i : Bool) (t : Option ToneSpec) (o : Origin) : (enqueueTest p k i t o s).clt = s.clt := rfl
@[simp] theorem enqueueTest_msu (s : State) (p : PortId) (k : TestKind) (i : Bool) (t : Option ToneSpec) (o : Origin) : (enqueueTest p k i t o s).msu = s.msu := rfl
@[simp] theorem enqueueTest_smn (s : State) (p : PortId) (k : TestKind) (i : Bool) (t : Option ToneSpec) (o : Origin) : (enqueueTest p k i t o s).smn = s.smn := rfl
@[simp] theorem enqueueTest_mga (s : State) (p : PortId) (k : TestKind) (i : Bool) (t : Option ToneSpec) (o : Origin) : (enqueueTest p k i t o s).mga = s.mga := rfl
@[simp] theorem enqueueTest_pending (s : State) (p : PortId) (k : TestKind) (i : Bool) (t : Option ToneSpec) (o : Origin) : (enqueueTest p k i t o s).pending = s.pending := rfl

/-! ## setRun -/

@[simp] theorem setRun_pins (s : State) (r : StageRun) : (setRun r s).pins = s.pins := rfl
@[simp] theorem setRun_relayHold (s : State) (r : StageRun) : (setRun r s).relayHold = s.relayHold := rfl
@[simp] theorem setRun_stc (s : State) (r : StageRun) : (setRun r s).stc = s.stc := rfl
@[simp] theorem setRun_cfg (s : State) (r : StageRun) : (setRun r s).cfg = s.cfg := rfl
@[simp] theorem setRun_ports (s : State) (r : StageRun) : (setRun r s).ports = s.ports := rfl
@[simp] theorem setRun_fst (s : State) (r : StageRun) : (setRun r s).fst = s.fst := rfl
@[simp] theorem setRun_bau (s : State) (r : StageRun) : (setRun r s).bau = s.bau := rfl
@[simp] theorem setRun_shu (s : State) (r : StageRun) : (setRun r s).shu = s.shu := rfl
@[simp] theorem setRun_usc (s : State) (r : StageRun) : (setRun r s).usc = s.usc := rfl
@[simp] theorem setRun_clt (s : State) (r : StageRun) : (setRun r s).clt = s.clt := rfl
@[simp] theorem setRun_tsq (s : State) (r : StageRun) : (setRun r s).tsq = s.tsq := rfl
@[simp] theorem setRun_smn (s : State) (r : StageRun) : (setRun r s).smn = s.smn := rfl
@[simp] theorem setRun_mga (s : State) (r : StageRun) : (setRun r s).mga = s.mga := rfl
@[simp] theorem setRun_pending (s : State) (r : StageRun) : (setRun r s).pending = s.pending := rfl

/-! ## setDrive -/

@[simp] theorem setDrive_pins (s : State) (d : Drive) : (setDrive d s).pins = s.pins := rfl
@[simp] theorem setDrive_relayHold (s : State) (d : Drive) : (setDrive d s).relayHold = s.relayHold := rfl
@[simp] theorem setDrive_stc (s : State) (d : Drive) : (setDrive d s).stc = s.stc := rfl
@[simp] theorem setDrive_cfg (s : State) (d : Drive) : (setDrive d s).cfg = s.cfg := rfl
@[simp] theorem setDrive_ports (s : State) (d : Drive) : (setDrive d s).ports = s.ports := rfl
@[simp] theorem setDrive_fst (s : State) (d : Drive) : (setDrive d s).fst = s.fst := rfl
@[simp] theorem setDrive_bau (s : State) (d : Drive) : (setDrive d s).bau = s.bau := rfl
@[simp] theorem setDrive_shu (s : State) (d : Drive) : (setDrive d s).shu = s.shu := rfl
@[simp] theorem setDrive_usc (s : State) (d : Drive) : (setDrive d s).usc = s.usc := rfl
@[simp] theorem setDrive_clt (s : State) (d : Drive) : (setDrive d s).clt = s.clt := rfl
@[simp] theorem setDrive_tsq (s : State) (d : Drive) : (setDrive d s).tsq = s.tsq := rfl
@[simp] theorem setDrive_smn (s : State) (d : Drive) : (setDrive d s).smn = s.smn := rfl
@[simp] theorem setDrive_mga (s : State) (d : Drive) : (setDrive d s).mga = s.mga := rfl
@[simp] theorem setDrive_pending (s : State) (d : Drive) : (setDrive d s).pending = s.pending := rfl

/-! ## startCapture -/

@[simp] theorem startCapture_pins (s : State) (fast : Bool) (n : Nat) : (startCapture fast n s).pins = s.pins := rfl
@[simp] theorem startCapture_relayHold (s : State) (fast : Bool) (n : Nat) : (startCapture fast n s).relayHold = s.relayHold := rfl
@[simp] theorem startCapture_stc (s : State) (fast : Bool) (n : Nat) : (startCapture fast n s).stc = s.stc := rfl
@[simp] theorem startCapture_cfg (s : State) (fast : Bool) (n : Nat) : (startCapture fast n s).cfg = s.cfg := rfl
@[simp] theorem startCapture_ports (s : State) (fast : Bool) (n : Nat) : (startCapture fast n s).ports = s.ports := rfl
@[simp] theorem startCapture_fst (s : State) (fast : Bool) (n : Nat) : (startCapture fast n s).fst = s.fst := rfl
@[simp] theorem startCapture_bau (s : State) (fast : Bool) (n : Nat) : (startCapture fast n s).bau = s.bau := rfl
@[simp] theorem startCapture_shu (s : State) (fast : Bool) (n : Nat) : (startCapture fast n s).shu = s.shu := rfl
@[simp] theorem startCapture_usc (s : State) (fast : Bool) (n : Nat) : (startCapture fast n s).usc = s.usc := rfl
@[simp] theorem startCapture_clt (s : State) (fast : Bool) (n : Nat) : (startCapture fast n s).clt = s.clt := rfl
@[simp] theorem startCapture_tsq (s : State) (fast : Bool) (n : Nat) : (startCapture fast n s).tsq = s.tsq := rfl
@[simp] theorem startCapture_smn (s : State) (fast : Bool) (n : Nat) : (startCapture fast n s).smn = s.smn := rfl
@[simp] theorem startCapture_mga (s : State) (fast : Bool) (n : Nat) : (startCapture fast n s).mga = s.mga := rfl
@[simp] theorem startCapture_pending (s : State) (fast : Bool) (n : Nat) : (startCapture fast n s).pending = s.pending := rfl

/-! ## releaseStage -/

@[simp] theorem releaseStage_pins (s : State) : (releaseStage s).pins = s.pins := rfl
@[simp] theorem releaseStage_relayHold (s : State) : (releaseStage s).relayHold = s.relayHold := rfl
@[simp] theorem releaseStage_stc (s : State) : (releaseStage s).stc = s.stc := rfl
@[simp] theorem releaseStage_cfg (s : State) : (releaseStage s).cfg = s.cfg := rfl
@[simp] theorem releaseStage_ports (s : State) : (releaseStage s).ports = s.ports := rfl
@[simp] theorem releaseStage_fst (s : State) : (releaseStage s).fst = s.fst := rfl
@[simp] theorem releaseStage_bau (s : State) : (releaseStage s).bau = s.bau := rfl
@[simp] theorem releaseStage_shu (s : State) : (releaseStage s).shu = s.shu := rfl
@[simp] theorem releaseStage_usc (s : State) : (releaseStage s).usc = s.usc := rfl
@[simp] theorem releaseStage_clt (s : State) : (releaseStage s).clt = s.clt := rfl
@[simp] theorem releaseStage_tsq (s : State) : (releaseStage s).tsq = s.tsq := rfl
@[simp] theorem releaseStage_smn (s : State) : (releaseStage s).smn = s.smn := rfl
@[simp] theorem releaseStage_mga (s : State) : (releaseStage s).mga = s.mga := rfl
@[simp] theorem releaseStage_pending (s : State) : (releaseStage s).pending = s.pending := rfl

/-! ## capRunEnds -/

@[simp] theorem capRunEnds_pins (s : State) (v : CapPart) : (capRunEnds v s).pins = s.pins := rfl
@[simp] theorem capRunEnds_relayHold (s : State) (v : CapPart) : (capRunEnds v s).relayHold = s.relayHold := rfl
@[simp] theorem capRunEnds_stc (s : State) (v : CapPart) : (capRunEnds v s).stc = s.stc := rfl
@[simp] theorem capRunEnds_cfg (s : State) (v : CapPart) : (capRunEnds v s).cfg = s.cfg := rfl
@[simp] theorem capRunEnds_ports (s : State) (v : CapPart) : (capRunEnds v s).ports = s.ports := rfl
@[simp] theorem capRunEnds_fst (s : State) (v : CapPart) : (capRunEnds v s).fst = s.fst := rfl
@[simp] theorem capRunEnds_bau (s : State) (v : CapPart) : (capRunEnds v s).bau = s.bau := rfl
@[simp] theorem capRunEnds_shu (s : State) (v : CapPart) : (capRunEnds v s).shu = s.shu := rfl
@[simp] theorem capRunEnds_usc (s : State) (v : CapPart) : (capRunEnds v s).usc = s.usc := rfl
@[simp] theorem capRunEnds_clt (s : State) (v : CapPart) : (capRunEnds v s).clt = s.clt := rfl
@[simp] theorem capRunEnds_tsq (s : State) (v : CapPart) : (capRunEnds v s).tsq = s.tsq := rfl
@[simp] theorem capRunEnds_smn (s : State) (v : CapPart) : (capRunEnds v s).smn = s.smn := rfl
@[simp] theorem capRunEnds_mga (s : State) (v : CapPart) : (capRunEnds v s).mga = s.mga := rfl
@[simp] theorem capRunEnds_pending (s : State) (v : CapPart) : (capRunEnds v s).pending = s.pending := rfl

/-! ## comparatorChanges -/

@[simp] theorem comparatorChanges_pins (s : State) (above : Bool) (n : Nat) : (comparatorChanges above n s).pins = s.pins := rfl
@[simp] theorem comparatorChanges_relayHold (s : State) (above : Bool) (n : Nat) : (comparatorChanges above n s).relayHold = s.relayHold := rfl
@[simp] theorem comparatorChanges_stc (s : State) (above : Bool) (n : Nat) : (comparatorChanges above n s).stc = s.stc := rfl
@[simp] theorem comparatorChanges_cfg (s : State) (above : Bool) (n : Nat) : (comparatorChanges above n s).cfg = s.cfg := rfl
@[simp] theorem comparatorChanges_ports (s : State) (above : Bool) (n : Nat) : (comparatorChanges above n s).ports = s.ports := rfl
@[simp] theorem comparatorChanges_fst (s : State) (above : Bool) (n : Nat) : (comparatorChanges above n s).fst = s.fst := rfl
@[simp] theorem comparatorChanges_bau (s : State) (above : Bool) (n : Nat) : (comparatorChanges above n s).bau = s.bau := rfl
@[simp] theorem comparatorChanges_shu (s : State) (above : Bool) (n : Nat) : (comparatorChanges above n s).shu = s.shu := rfl
@[simp] theorem comparatorChanges_usc (s : State) (above : Bool) (n : Nat) : (comparatorChanges above n s).usc = s.usc := rfl
@[simp] theorem comparatorChanges_clt (s : State) (above : Bool) (n : Nat) : (comparatorChanges above n s).clt = s.clt := rfl
@[simp] theorem comparatorChanges_tsq (s : State) (above : Bool) (n : Nat) : (comparatorChanges above n s).tsq = s.tsq := rfl
@[simp] theorem comparatorChanges_smn (s : State) (above : Bool) (n : Nat) : (comparatorChanges above n s).smn = s.smn := rfl
@[simp] theorem comparatorChanges_mga (s : State) (above : Bool) (n : Nat) : (comparatorChanges above n s).mga = s.mga := rfl
@[simp] theorem comparatorChanges_pending (s : State) (above : Bool) (n : Nat) : (comparatorChanges above n s).pending = s.pending := rfl

/-! ## stageUp -/

@[simp] theorem stageUp_pins (s : State) (p : PortId) (bs : List Byte) : (stageUp p bs s).pins = s.pins := rfl
@[simp] theorem stageUp_relayHold (s : State) (p : PortId) (bs : List Byte) : (stageUp p bs s).relayHold = s.relayHold := rfl
@[simp] theorem stageUp_stc (s : State) (p : PortId) (bs : List Byte) : (stageUp p bs s).stc = s.stc := rfl
@[simp] theorem stageUp_cfg (s : State) (p : PortId) (bs : List Byte) : (stageUp p bs s).cfg = s.cfg := rfl
@[simp] theorem stageUp_ports (s : State) (p : PortId) (bs : List Byte) : (stageUp p bs s).ports = s.ports := rfl
@[simp] theorem stageUp_bau (s : State) (p : PortId) (bs : List Byte) : (stageUp p bs s).bau = s.bau := rfl
@[simp] theorem stageUp_shu (s : State) (p : PortId) (bs : List Byte) : (stageUp p bs s).shu = s.shu := rfl
@[simp] theorem stageUp_usc (s : State) (p : PortId) (bs : List Byte) : (stageUp p bs s).usc = s.usc := rfl
@[simp] theorem stageUp_clt (s : State) (p : PortId) (bs : List Byte) : (stageUp p bs s).clt = s.clt := rfl
@[simp] theorem stageUp_tsq (s : State) (p : PortId) (bs : List Byte) : (stageUp p bs s).tsq = s.tsq := rfl
@[simp] theorem stageUp_msu (s : State) (p : PortId) (bs : List Byte) : (stageUp p bs s).msu = s.msu := rfl
@[simp] theorem stageUp_smn (s : State) (p : PortId) (bs : List Byte) : (stageUp p bs s).smn = s.smn := rfl
@[simp] theorem stageUp_mga (s : State) (p : PortId) (bs : List Byte) : (stageUp p bs s).mga = s.mga := rfl
@[simp] theorem stageUp_pending (s : State) (p : PortId) (bs : List Byte) : (stageUp p bs s).pending = s.pending := rfl

/-! ## stageBus -/

@[simp] theorem stageBus_pins (s : State) (bs : List Byte) : (stageBus bs s).pins = s.pins := rfl
@[simp] theorem stageBus_relayHold (s : State) (bs : List Byte) : (stageBus bs s).relayHold = s.relayHold := rfl
@[simp] theorem stageBus_stc (s : State) (bs : List Byte) : (stageBus bs s).stc = s.stc := rfl
@[simp] theorem stageBus_cfg (s : State) (bs : List Byte) : (stageBus bs s).cfg = s.cfg := rfl
@[simp] theorem stageBus_ports (s : State) (bs : List Byte) : (stageBus bs s).ports = s.ports := rfl
@[simp] theorem stageBus_bau (s : State) (bs : List Byte) : (stageBus bs s).bau = s.bau := rfl
@[simp] theorem stageBus_shu (s : State) (bs : List Byte) : (stageBus bs s).shu = s.shu := rfl
@[simp] theorem stageBus_usc (s : State) (bs : List Byte) : (stageBus bs s).usc = s.usc := rfl
@[simp] theorem stageBus_clt (s : State) (bs : List Byte) : (stageBus bs s).clt = s.clt := rfl
@[simp] theorem stageBus_tsq (s : State) (bs : List Byte) : (stageBus bs s).tsq = s.tsq := rfl
@[simp] theorem stageBus_msu (s : State) (bs : List Byte) : (stageBus bs s).msu = s.msu := rfl
@[simp] theorem stageBus_smn (s : State) (bs : List Byte) : (stageBus bs s).smn = s.smn := rfl
@[simp] theorem stageBus_mga (s : State) (bs : List Byte) : (stageBus bs s).mga = s.mga := rfl
@[simp] theorem stageBus_pending (s : State) (bs : List Byte) : (stageBus bs s).pending = s.pending := rfl

/-! ## enqueueData -/

@[simp] theorem enqueueData_pins (s : State) (p : PortId) (d : Direction) (bs : List Byte) : (enqueueData p d bs s).pins = s.pins := rfl
@[simp] theorem enqueueData_relayHold (s : State) (p : PortId) (d : Direction) (bs : List Byte) : (enqueueData p d bs s).relayHold = s.relayHold := rfl
@[simp] theorem enqueueData_stc (s : State) (p : PortId) (d : Direction) (bs : List Byte) : (enqueueData p d bs s).stc = s.stc := rfl
@[simp] theorem enqueueData_cfg (s : State) (p : PortId) (d : Direction) (bs : List Byte) : (enqueueData p d bs s).cfg = s.cfg := rfl
@[simp] theorem enqueueData_ports (s : State) (p : PortId) (d : Direction) (bs : List Byte) : (enqueueData p d bs s).ports = s.ports := rfl
@[simp] theorem enqueueData_bau (s : State) (p : PortId) (d : Direction) (bs : List Byte) : (enqueueData p d bs s).bau = s.bau := rfl
@[simp] theorem enqueueData_shu (s : State) (p : PortId) (d : Direction) (bs : List Byte) : (enqueueData p d bs s).shu = s.shu := rfl
@[simp] theorem enqueueData_usc (s : State) (p : PortId) (d : Direction) (bs : List Byte) : (enqueueData p d bs s).usc = s.usc := rfl
@[simp] theorem enqueueData_clt (s : State) (p : PortId) (d : Direction) (bs : List Byte) : (enqueueData p d bs s).clt = s.clt := rfl
@[simp] theorem enqueueData_tsq (s : State) (p : PortId) (d : Direction) (bs : List Byte) : (enqueueData p d bs s).tsq = s.tsq := rfl
@[simp] theorem enqueueData_msu (s : State) (p : PortId) (d : Direction) (bs : List Byte) : (enqueueData p d bs s).msu = s.msu := rfl
@[simp] theorem enqueueData_smn (s : State) (p : PortId) (d : Direction) (bs : List Byte) : (enqueueData p d bs s).smn = s.smn := rfl
@[simp] theorem enqueueData_mga (s : State) (p : PortId) (d : Direction) (bs : List Byte) : (enqueueData p d bs s).mga = s.mga := rfl
@[simp] theorem enqueueData_pending (s : State) (p : PortId) (d : Direction) (bs : List Byte) : (enqueueData p d bs s).pending = s.pending := rfl

/-! ## placeNotice -/

@[simp] theorem placeNotice_pins (s : State) (c : Cause) : (placeNotice c s).pins = s.pins := rfl
@[simp] theorem placeNotice_relayHold (s : State) (c : Cause) : (placeNotice c s).relayHold = s.relayHold := rfl
@[simp] theorem placeNotice_stc (s : State) (c : Cause) : (placeNotice c s).stc = s.stc := rfl
@[simp] theorem placeNotice_cfg (s : State) (c : Cause) : (placeNotice c s).cfg = s.cfg := rfl
@[simp] theorem placeNotice_ports (s : State) (c : Cause) : (placeNotice c s).ports = s.ports := rfl
@[simp] theorem placeNotice_bau (s : State) (c : Cause) : (placeNotice c s).bau = s.bau := rfl
@[simp] theorem placeNotice_shu (s : State) (c : Cause) : (placeNotice c s).shu = s.shu := rfl
@[simp] theorem placeNotice_usc (s : State) (c : Cause) : (placeNotice c s).usc = s.usc := rfl
@[simp] theorem placeNotice_clt (s : State) (c : Cause) : (placeNotice c s).clt = s.clt := rfl
@[simp] theorem placeNotice_tsq (s : State) (c : Cause) : (placeNotice c s).tsq = s.tsq := rfl
@[simp] theorem placeNotice_msu (s : State) (c : Cause) : (placeNotice c s).msu = s.msu := rfl
@[simp] theorem placeNotice_smn (s : State) (c : Cause) : (placeNotice c s).smn = s.smn := rfl
@[simp] theorem placeNotice_mga (s : State) (c : Cause) : (placeNotice c s).mga = s.mga := rfl
@[simp] theorem placeNotice_pending (s : State) (c : Cause) : (placeNotice c s).pending = s.pending := rfl

/-! ## joinWaiting -/

@[simp] theorem joinWaiting_pins (s : State) (i : WaitItem) : (joinWaiting i s).pins = s.pins := rfl
@[simp] theorem joinWaiting_relayHold (s : State) (i : WaitItem) : (joinWaiting i s).relayHold = s.relayHold := rfl
@[simp] theorem joinWaiting_stc (s : State) (i : WaitItem) : (joinWaiting i s).stc = s.stc := rfl
@[simp] theorem joinWaiting_cfg (s : State) (i : WaitItem) : (joinWaiting i s).cfg = s.cfg := rfl
@[simp] theorem joinWaiting_ports (s : State) (i : WaitItem) : (joinWaiting i s).ports = s.ports := rfl
@[simp] theorem joinWaiting_fst (s : State) (i : WaitItem) : (joinWaiting i s).fst = s.fst := rfl
@[simp] theorem joinWaiting_bau (s : State) (i : WaitItem) : (joinWaiting i s).bau = s.bau := rfl
@[simp] theorem joinWaiting_shu (s : State) (i : WaitItem) : (joinWaiting i s).shu = s.shu := rfl
@[simp] theorem joinWaiting_usc (s : State) (i : WaitItem) : (joinWaiting i s).usc = s.usc := rfl
@[simp] theorem joinWaiting_clt (s : State) (i : WaitItem) : (joinWaiting i s).clt = s.clt := rfl
@[simp] theorem joinWaiting_tsq (s : State) (i : WaitItem) : (joinWaiting i s).tsq = s.tsq := rfl
@[simp] theorem joinWaiting_msu (s : State) (i : WaitItem) : (joinWaiting i s).msu = s.msu := rfl
@[simp] theorem joinWaiting_smn (s : State) (i : WaitItem) : (joinWaiting i s).smn = s.smn := rfl
@[simp] theorem joinWaiting_pending (s : State) (i : WaitItem) : (joinWaiting i s).pending = s.pending := rfl

/-! ## putOut -/

@[simp] theorem putOut_pins (s : State) (outs : List BusOut) : (putOut outs s).pins = s.pins := rfl
@[simp] theorem putOut_relayHold (s : State) (outs : List BusOut) : (putOut outs s).relayHold = s.relayHold := rfl
@[simp] theorem putOut_stc (s : State) (outs : List BusOut) : (putOut outs s).stc = s.stc := rfl
@[simp] theorem putOut_cfg (s : State) (outs : List BusOut) : (putOut outs s).cfg = s.cfg := rfl
@[simp] theorem putOut_ports (s : State) (outs : List BusOut) : (putOut outs s).ports = s.ports := rfl
@[simp] theorem putOut_fst (s : State) (outs : List BusOut) : (putOut outs s).fst = s.fst := rfl
@[simp] theorem putOut_shu (s : State) (outs : List BusOut) : (putOut outs s).shu = s.shu := rfl
@[simp] theorem putOut_usc (s : State) (outs : List BusOut) : (putOut outs s).usc = s.usc := rfl
@[simp] theorem putOut_clt (s : State) (outs : List BusOut) : (putOut outs s).clt = s.clt := rfl
@[simp] theorem putOut_tsq (s : State) (outs : List BusOut) : (putOut outs s).tsq = s.tsq := rfl
@[simp] theorem putOut_msu (s : State) (outs : List BusOut) : (putOut outs s).msu = s.msu := rfl
@[simp] theorem putOut_smn (s : State) (outs : List BusOut) : (putOut outs s).smn = s.smn := rfl
@[simp] theorem putOut_mga (s : State) (outs : List BusOut) : (putOut outs s).mga = s.mga := rfl
@[simp] theorem putOut_pending (s : State) (outs : List BusOut) : (putOut outs s).pending = s.pending := rfl

/-! ## applyToAB -/

@[simp] theorem applyToAB_pins (s : State) : (applyToAB s).pins = s.pins := rfl
@[simp] theorem applyToAB_relayHold (s : State) : (applyToAB s).relayHold = s.relayHold := rfl
@[simp] theorem applyToAB_stc (s : State) : (applyToAB s).stc = s.stc := rfl
@[simp] theorem applyToAB_cfg (s : State) : (applyToAB s).cfg = s.cfg := rfl
@[simp] theorem applyToAB_ports (s : State) : (applyToAB s).ports = s.ports := rfl
@[simp] theorem applyToAB_fst (s : State) : (applyToAB s).fst = s.fst := rfl
@[simp] theorem applyToAB_bau (s : State) : (applyToAB s).bau = s.bau := rfl
@[simp] theorem applyToAB_shu (s : State) : (applyToAB s).shu = s.shu := rfl
@[simp] theorem applyToAB_usc (s : State) : (applyToAB s).usc = s.usc := rfl
@[simp] theorem applyToAB_clt (s : State) : (applyToAB s).clt = s.clt := rfl
@[simp] theorem applyToAB_tsq (s : State) : (applyToAB s).tsq = s.tsq := rfl
@[simp] theorem applyToAB_smn (s : State) : (applyToAB s).smn = s.smn := rfl
@[simp] theorem applyToAB_mga (s : State) : (applyToAB s).mga = s.mga := rfl
@[simp] theorem applyToAB_pending (s : State) : (applyToAB s).pending = s.pending := rfl

/-! ## What the updates write -/

@[simp] theorem setPort_port_self (s : State) (p : PortId) (r : Port) : (s.setPort p r).port p = r := by
  simp [State.setPort, State.port]

theorem setPort_port_ne (s : State) {p q : PortId} (r : Port) (h : p ≠ q) : (s.setPort p r).port q = s.port q := by
  simp [State.setPort, State.port, tget_tset_ne _ _ h]

theorem setPort_port (s : State) (p q : PortId) (r : Port) :
    (s.setPort p r).port q = if p = q then r else s.port q := by
  simp [State.setPort, State.port, tget_tset]

@[simp] theorem modPort_port_self (s : State) (p : PortId) (f : Port → Port) : (s.modPort p f).port p = f (s.port p) := by
  simp [State.modPort]

theorem modPort_port_ne (s : State) {p q : PortId} (f : Port → Port) (h : p ≠ q) :
    (s.modPort p f).port q = s.port q := setPort_port_ne s _ h

theorem modPort_port (s : State) (p q : PortId) (f : Port → Port) :
    (s.modPort p f).port q = if p = q then f (s.port p) else s.port q := setPort_port s p q _

@[simp] theorem modUsc_uscPort_self (s : State) (p : PortId) (f : UscPort → UscPort) :
    (s.modUsc p f).uscPort p = f (s.uscPort p) := by
  simp [State.modUsc, State.uscPort]

theorem modUsc_uscPort_ne (s : State) {p q : PortId} (f : UscPort → UscPort) (h : p ≠ q) :
    (s.modUsc p f).uscPort q = s.uscPort q := by
  simp [State.modUsc, State.uscPort, tget_tset_ne _ _ h]

@[simp] theorem modUsc_active (s : State) (p : PortId) (f : UscPort → UscPort) :
    (s.modUsc p f).usc.active = s.usc.active := rfl

@[simp] theorem modUsc_chosen (s : State) (p : PortId) (f : UscPort → UscPort) :
    (s.modUsc p f).usc.chosen = s.usc.chosen := rfl

@[simp] theorem setTx_tx (s : State) (t : Tx) : (setTx t s).bau.tx = t := rfl
@[simp] theorem setTx_ctrl (s : State) (t : Tx) : (setTx t s).bau.ctrl = s.bau.ctrl := rfl
@[simp] theorem setTx_lastWinner (s : State) (t : Tx) : (setTx t s).bau.lastWinner = s.bau.lastWinner := rfl
@[simp] theorem setTx_sent (s : State) (t : Tx) : (setTx t s).bau.sent = s.bau.sent := rfl
@[simp] theorem putOut_tx (s : State) (outs : List BusOut) : (putOut outs s).bau.tx = s.bau.tx := rfl
@[simp] theorem putOut_ctrl (s : State) (outs : List BusOut) : (putOut outs s).bau.ctrl = s.bau.ctrl := rfl
@[simp] theorem putOut_lastWinner (s : State) (outs : List BusOut) : (putOut outs s).bau.lastWinner = s.bau.lastWinner := rfl
@[simp] theorem putOut_sent (s : State) (outs : List BusOut) : (putOut outs s).bau.sent = s.bau.sent ++ outs := rfl
@[simp] theorem applyToAB_drive (s : State) : (applyToAB s).msu.drive = .stimulus s.cfg.vS .ab := rfl
@[simp] theorem applyToAB_holder (s : State) : (applyToAB s).msu.holder = s.msu.holder := rfl
@[simp] theorem modCtrl_ctrl (s : State) (f : List CtrlItem → List CtrlItem) : (s.modCtrl f).bau.ctrl = f s.bau.ctrl := rfl
@[simp] theorem modCtrl_tx (s : State) (f : List CtrlItem → List CtrlItem) : (s.modCtrl f).bau.tx = s.bau.tx := rfl
@[simp] theorem setRunning_running (s : State) (t : Option Running) : (setRunning t s).tsq.running = t := rfl
@[simp] theorem setRunning_queue (s : State) (t : Option Running) : (setRunning t s).tsq.queue = s.tsq.queue := rfl
@[simp] theorem setOwnClaim_own (s : State) (c : Option (BinderId × ClaimStep)) : (setOwnClaim c s).clt.own = c := rfl
@[simp] theorem setOwnClaim_entries (s : State) (c : Option (BinderId × ClaimStep)) :
    (setOwnClaim c s).clt.entries = s.clt.entries := rfl
@[simp] theorem setPeer_peer_self (s : State) (t : StationId) (e : Peer) : (setPeer t e s).peer t = e := by
  simp [setPeer, State.peer]

theorem setPeer_peer_ne (s : State) {t u : StationId} (e : Peer) (h : t ≠ u) : (setPeer t e s).peer u = s.peer u := by
  simp [setPeer, State.peer, tget_tset_ne _ _ h]

@[simp] theorem setRun_run (s : State) (r : StageRun) : (setRun r s).msu.run = r := rfl
@[simp] theorem setDrive_drive (s : State) (d : Drive) : (setDrive d s).msu.drive = d := rfl
@[simp] theorem setNotice_notice (s : State) (n : Option Notice) : (setNotice n s).shu.notice = n := rfl
@[simp] theorem setNotice_cWork (s : State) (n : Option Notice) :
    (setNotice n s).shu.cWork = workingCapacity s.cfg n := rfl
@[simp] theorem chargeCredit_credit (s : State) (n : Nat) : (chargeCredit n s).shu.credit = s.shu.credit - (n : Int) := rfl
@[simp] theorem stageBus_busStaging (s : State) (bs : List Byte) : (stageBus bs s).fst.busStaging = bs := rfl
@[simp] theorem stageUp_upStaging_self (s : State) (p : PortId) (bs : List Byte) :
    tget (stageUp p bs s).fst.upStaging p = bs := by
  simp [stageUp]

end Sys2Proof.Machine
end

