-- ==== Sys2Proof/Laws/Frames.lean ====
section
/-! SUPPORT. What each shared operation leaves alone: one lemma for each component of the state it does not touch. -/

namespace Sys2Proof.Machine

set_option linter.unusedTactic false

/-- A change made for every port of a list keeps what each single change keeps. -/
theorem forPorts_keeps {β : Type} (g : State → β) (f : PortId → State → State) (h : ∀ p t, g (f p t) = g t)
    (ps : List PortId) (s : State) : g (forPorts ps f s) = g s := by
  induction ps generalizing s with
  | nil => rfl
  | cons p ps ih => exact (ih (f p s)).trans (h p s)

/-- A fold over a list keeps what each single change keeps. -/
theorem fold_keeps {α β : Type} (g : State → β) (f : State → α → State) (h : ∀ x s, g (f s x) = g s)
    (xs : List α) (s : State) : g (xs.foldl f s) = g s := by
  induction xs generalizing s with
  | nil => rfl
  | cons x xs ih => exact (ih (f s x)).trans (h x s)

/-- The frame of the data choice. -/
theorem uscChoose_frame {s t : State} {p : PortId} (h : uscChoose s = some (p, t)) :
    t = { s with usc := t.usc, fst := t.fst } := by
  unfold uscChoose at h
  split at h
  · cases h
  · split at h
    · cases h
    · cases h; rfl

@[simp] theorem raiseNotice_pins (s : State) (c : Cause) : (raiseNotice c s).pins = s.pins := by
  unfold raiseNotice
  (try dsimp only)
  repeat' split
  all_goals simp

@[simp] theorem raiseNotice_relayHold (s : State) (c : Cause) : (raiseNotice c s).relayHold = s.relayHold := by
  unfold raiseNotice
  (try dsimp only)
  repeat' split
  all_goals simp

@[simp] theorem raiseNotice_stc (s : State) (c : Cause) : (raiseNotice c s).stc = s.stc := by
  unfold raiseNotice
  (try dsimp only)
  repeat' split
  all_goals simp

@[simp] theorem raiseNotice_cfg (s : State) (c : Cause) : (raiseNotice c s).cfg = s.cfg := by
  unfold raiseNotice
  (try dsimp only)
  repeat' split
  all_goals simp

@[simp] theorem raiseNotice_ports (s : State) (c : Cause) : (raiseNotice c s).ports = s.ports := by
  unfold raiseNotice
  (try dsimp only)
  repeat' split
  all_goals simp

@[simp] theorem raiseNotice_bau (s : State) (c : Cause) : (raiseNotice c s).bau = s.bau := by
  unfold raiseNotice
  (try dsimp only)
  repeat' split
  all_goals simp

@[simp] theorem raiseNotice_shu (s : State) (c : Cause) : (raiseNotice c s).shu = s.shu := by
  unfold raiseNotice
  (try dsimp only)
  repeat' split
  all_goals simp

@[simp] theorem raiseNotice_usc (s : State) (c : Cause) : (raiseNotice c s).usc = s.usc := by
  unfold raiseNotice
  (try dsimp only)
  repeat' split
  all_goals simp

@[simp] theorem raiseNotice_clt (s : State) (c : Cause) : (raiseNotice c s).clt = s.clt := by
  unfold raiseNotice
  (try dsimp only)
  repeat' split
  all_goals simp

@[simp] theorem raiseNotice_tsq (s : State) (c : Cause) : (raiseNotice c s).tsq = s.tsq := by
  unfold raiseNotice
  (try dsimp only)
  repeat' split
  all_goals simp

@[simp] theorem raiseNotice_msu (s : State) (c : Cause) : (raiseNotice c s).msu = s.msu := by
  unfold raiseNotice
  (try dsimp only)
  repeat' split
  all_goals simp

@[simp] theorem raiseNotice_smn (s : State) (c : Cause) : (raiseNotice c s).smn = s.smn := by
  unfold raiseNotice
  (try dsimp only)
  repeat' split
  all_goals simp

@[simp] theorem raiseNotice_pending (s : State) (c : Cause) : (raiseNotice c s).pending = s.pending := by
  unfold raiseNotice
  (try dsimp only)
  repeat' split
  all_goals simp

@[simp] theorem countPort_pins (s : State) (p : PortId) (c : PortCounter) (k : Nat) : (countPort p c k s).pins = s.pins := by
  unfold countPort
  (try dsimp only)
  repeat' split
  all_goals simp

@[simp] theorem countPort_relayHold (s : State) (p : PortId) (c : PortCounter) (k : Nat) : (countPort p c k s).relayHold = s.relayHold := by
  unfold countPort
  (try dsimp only)
  repeat' split
  all_goals simp

@[simp] theorem countPort_stc (s : State) (p : PortId) (c : PortCounter) (k : Nat) : (countPort p c k s).stc = s.stc := by
  unfold countPort
  (try dsimp only)
  repeat' split
  all_goals simp

@[simp] theorem countPort_cfg (s : State) (p : PortId) (c : PortCounter) (k : Nat) : (countPort p c k s).cfg = s.cfg := by
  unfold countPort
  (try dsimp only)
  repeat' split
  all_goals simp

@[simp] theorem countPort_ports (s : State) (p : PortId) (c : PortCounter) (k : Nat) : (countPort p c k s).ports = s.ports := by
  unfold countPort
  (try dsimp only)
  repeat' split
  all_goals simp

@[simp] theorem countPort_bau (s : State) (p : PortId) (c : PortCounter) (k : Nat) : (countPort p c k s).bau = s.bau := by
  unfold countPort
  (try dsimp only)
  repeat' split
  all_goals simp

@[simp] theorem countPort_shu (s : State) (p : PortId) (c : PortCounter) (k : Nat) : (countPort p c k s).shu = s.shu := by
  unfold countPort
  (try dsimp only)
  repeat' split
  all_goals simp

@[simp] theorem countPort_usc (s : State) (p : PortId) (c : PortCounter) (k : Nat) : (countPort p c k s).usc = s.usc := by
  unfold countPort
  (try dsimp only)
  repeat' split
  all_goals simp

@[simp] theorem countPort_clt (s : State) (p : PortId) (c : PortCounter) (k : Nat) : (countPort p c k s).clt = s.clt := by
  unfold countPort
  (try dsimp only)
  repeat' split
  all_goals simp

@[simp] theorem countPort_tsq (s : State) (p : PortId) (c : PortCounter) (k : Nat) : (countPort p c k s).tsq = s.tsq := by
  unfold countPort
  (try dsimp only)
  repeat' split
  all_goals simp

@[simp] theorem countPort_msu (s : State) (p : PortId) (c : PortCounter) (k : Nat) : (countPort p c k s).msu = s.msu := by
  unfold countPort
  (try dsimp only)
  repeat' split
  all_goals simp

@[simp] theorem countPort_smn (s : State) (p : PortId) (c : PortCounter) (k : Nat) : (countPort p c k s).smn = s.smn := by
  unfold countPort
  (try dsimp only)
  repeat' split
  all_goals simp

@[simp] theorem countPort_pending (s : State) (p : PortId) (c : PortCounter) (k : Nat) : (countPort p c k s).pending = s.pending := by
  unfold countPort
  (try dsimp only)
  repeat' split
  all_goals simp

@[simp] theorem countCard_pins (s : State) (c : CardCounter) : (countCard c s).pins = s.pins := by
  unfold countCard
  (try dsimp only)
  repeat' split
  all_goals simp

@[simp] theorem countCard_relayHold (s : State) (c : CardCounter) : (countCard c s).relayHold = s.relayHold := by
  unfold countCard
  (try dsimp only)
  repeat' split
  all_goals simp

@[simp] theorem countCard_stc (s : State) (c : CardCounter) : (countCard c s).stc = s.stc := by
  unfold countCard
  (try dsimp only)
  repeat' split
  all_goals simp

@[simp] theorem countCard_cfg (s : State) (c : CardCounter) : (countCard c s).cfg = s.cfg := by
  unfold countCard
  (try dsimp only)
  repeat' split
  all_goals simp

@[simp] theorem countCard_ports (s : State) (c : CardCounter) : (countCard c s).ports = s.ports := by
  unfold countCard
  (try dsimp only)
  repeat' split
  all_goals simp

@[simp] theorem countCard_bau (s : State) (c : CardCounter) : (countCard c s).bau = s.bau := by
  unfold countCard
  (try dsimp only)
  repeat' split
  all_goals simp

@[simp] theorem countCard_shu (s : State) (c : CardCounter) : (countCard c s).shu = s.shu := by
  unfold countCard
  (try dsimp only)
  repeat' split
  all_goals simp

@[simp] theorem countCard_usc (s : State) (c : CardCounter) : (countCard c s).usc = s.usc := by
  unfold countCard
  (try dsimp only)
  repeat' split
  all_goals simp

@[simp] theorem countCard_clt (s : State) (c : CardCounter) : (countCard c s).clt = s.clt := by
  unfold countCard
  (try dsimp only)
  repeat' split
  all_goals simp

@[simp] theorem countCard_tsq (s : State) (c : CardCounter) : (countCard c s).tsq = s.tsq := by
  unfold countCard
  (try dsimp only)
  repeat' split
  all_goals simp

@[simp] theorem countCard_msu (s : State) (c : CardCounter) : (countCard c s).msu = s.msu := by
  unfold countCard
  (try dsimp only)
  repeat' split
  all_goals simp

@[simp] theorem countCard_smn (s : State) (c : CardCounter) : (countCard c s).smn = s.smn := by
  unfold countCard
  (try dsimp only)
  repeat' split
  all_goals simp

@[simp] theorem countCard_pending (s : State) (c : CardCounter) : (countCard c s).pending = s.pending := by
  unfold countCard
  (try dsimp only)
  repeat' split
  all_goals simp

@[simp] theorem uscLeave_pins (s : State) (p : PortId) : (uscLeave p s).pins = s.pins := rfl

@[simp] theorem uscLeave_relayHold (s : State) (p : PortId) : (uscLeave p s).relayHold = s.relayHold := rfl

@[simp] theorem uscLeave_stc (s : State) (p : PortId) : (uscLeave p s).stc = s.stc := rfl

@[simp] theorem uscLeave_cfg (s : State) (p : PortId) : (uscLeave p s).cfg = s.cfg := rfl

@[simp] theorem uscLeave_ports (s : State) (p : PortId) : (uscLeave p s).ports = s.ports := rfl

@[simp] theorem uscLeave_fst (s : State) (p : PortId) : (uscLeave p s).fst = s.fst := rfl

@[simp] theorem uscLeave_bau (s : State) (p : PortId) : (uscLeave p s).bau = s.bau := rfl

@[simp] theorem uscLeave_shu (s : State) (p : PortId) : (uscLeave p s).shu = s.shu := rfl

@[simp] theorem uscLeave_clt (s : State) (p : PortId) : (uscLeave p s).clt = s.clt := rfl

@[simp] theorem uscLeave_tsq (s : State) (p : PortId) : (uscLeave p s).tsq = s.tsq := rfl

@[simp] theorem uscLeave_msu (s : State) (p : PortId) : (uscLeave p s).msu = s.msu := rfl

@[simp] theorem uscLeave_smn (s : State) (p : PortId) : (uscLeave p s).smn = s.smn := rfl

@[simp] theorem uscLeave_mga (s : State) (p : PortId) : (uscLeave p s).mga = s.mga := rfl

@[simp] theorem uscLeave_pending (s : State) (p : PortId) : (uscLeave p s).pending = s.pending := rfl

@[simp] theorem uscUpdate_pins (s : State) (p : PortId) : (uscUpdate p s).pins = s.pins := by
  unfold uscUpdate
  (try dsimp only)
  repeat' split
  all_goals simp

@[simp] theorem uscUpdate_relayHold (s : State) (p : PortId) : (uscUpdate p s).relayHold = s.relayHold := by
  unfold uscUpdate
  (try dsimp only)
  repeat' split
  all_goals simp

@[simp] theorem uscUpdate_stc (s : State) (p : PortId) : (uscUpdate p s).stc = s.stc := by
  unfold uscUpdate
  (try dsimp only)
  repeat' split
  all_goals simp

@[simp] theorem uscUpdate_cfg (s : State) (p : PortId) : (uscUpdate p s).cfg = s.cfg := by
  unfold uscUpdate
  (try dsimp only)
  repeat' split
  all_goals simp

@[simp] theorem uscUpdate_ports (s : State) (p : PortId) : (uscUpdate p s).ports = s.ports := by
  unfold uscUpdate
  (try dsimp only)
  repeat' split
  all_goals simp

@[simp] theorem uscUpdate_fst (s : State) (p : PortId) : (uscUpdate p s).fst = s.fst := by
  unfold uscUpdate
  (try dsimp only)
  repeat' split
  all_goals simp

@[simp] theorem uscUpdate_bau (s : State) (p : PortId) : (uscUpdate p s).bau = s.bau := by
  unfold uscUpdate
  (try dsimp only)
  repeat' split
  all_goals simp

@[simp] theorem uscUpdate_shu (s : State) (p : PortId) : (uscUpdate p s).shu = s.shu := by
  unfold uscUpdate
  (try dsimp only)
  repeat' split
  all_goals simp

@[simp] theorem uscUpdate_clt (s : State) (p : PortId) : (uscUpdate p s).clt = s.clt := by
  unfold uscUpdate
  (try dsimp only)
  repeat' split
  all_goals simp

@[simp] theorem uscUpdate_tsq (s : State) (p : PortId) : (uscUpdate p s).tsq = s.tsq := by
  unfold uscUpdate
  (try dsimp only)
  repeat' split
  all_goals simp

@[simp] theorem uscUpdate_msu (s : State) (p : PortId) : (uscUpdate p s).msu = s.msu := by
  unfold uscUpdate
  (try dsimp only)
  repeat' split
  all_goals simp

@[simp] theorem uscUpdate_smn (s : State) (p : PortId) : (uscUpdate p s).smn = s.smn := by
  unfold uscUpdate
  (try dsimp only)
  repeat' split
  all_goals simp

@[simp] theorem uscUpdate_mga (s : State) (p : PortId) : (uscUpdate p s).mga = s.mga := by
  unfold uscUpdate
  (try dsimp only)
  repeat' split
  all_goals simp

@[simp] theorem uscUpdate_pending (s : State) (p : PortId) : (uscUpdate p s).pending = s.pending := by
  unfold uscUpdate
  (try dsimp only)
  repeat' split
  all_goals simp

@[simp] theorem uscEnterService_pins (s : State) (p : PortId) : (uscEnterService p s).pins = s.pins := rfl

@[simp] theorem uscEnterService_relayHold (s : State) (p : PortId) : (uscEnterService p s).relayHold = s.relayHold := rfl

@[simp] theorem uscEnterService_stc (s : State) (p : PortId) : (uscEnterService p s).stc = s.stc := rfl

@[simp] theorem uscEnterService_cfg (s : State) (p : PortId) : (uscEnterService p s).cfg = s.cfg := rfl

@[simp] theorem uscEnterService_ports (s : State) (p : PortId) : (uscEnterService p s).ports = s.ports := rfl

@[simp] theorem uscEnterService_fst (s : State) (p : PortId) : (uscEnterService p s).fst = s.fst := rfl

@[simp] theorem uscEnterService_bau (s : State) (p : PortId) : (uscEnterService p s).bau = s.bau := rfl

@[simp] theorem uscEnterService_shu (s : State) (p : PortId) : (uscEnterService p s).shu = s.shu := rfl

@[simp] theorem uscEnterService_clt (s : State) (p : PortId) : (uscEnterService p s).clt = s.clt := rfl

@[simp] theorem uscEnterService_tsq (s : State) (p : PortId) : (uscEnterService p s).tsq = s.tsq := rfl

@[simp] theorem uscEnterService_msu (s : State) (p : PortId) : (uscEnterService p s).msu = s.msu := rfl

@[simp] theorem uscEnterService_smn (s : State) (p : PortId) : (uscEnterService p s).smn = s.smn := rfl

@[simp] theorem uscEnterService_mga (s : State) (p : PortId) : (uscEnterService p s).mga = s.mga := rfl

@[simp] theorem uscEnterService_pending (s : State) (p : PortId) : (uscEnterService p s).pending = s.pending := rfl

@[simp] theorem uscRefill_pins (s : State) (p : PortId) : (uscRefill p s).pins = s.pins := by
  unfold uscRefill
  (try dsimp only)
  repeat' split
  all_goals simp

@[simp] theorem uscRefill_relayHold (s : State) (p : PortId) : (uscRefill p s).relayHold = s.relayHold := by
  unfold uscRefill
  (try dsimp only)
  repeat' split
  all_goals simp

@[simp] theorem uscRefill_stc (s : State) (p : PortId) : (uscRefill p s).stc = s.stc := by
  unfold uscRefill
  (try dsimp only)
  repeat' split
  all_goals simp

@[simp] theorem uscRefill_cfg (s : State) (p : PortId) : (uscRefill p s).cfg = s.cfg := by
  unfold uscRefill
  (try dsimp only)
  repeat' split
  all_goals simp

@[simp] theorem uscRefill_ports (s : State) (p : PortId) : (uscRefill p s).ports = s.ports := by
  unfold uscRefill
  (try dsimp only)
  repeat' split
  all_goals simp

@[simp] theorem uscRefill_fst (s : State) (p : PortId) : (uscRefill p s).fst = s.fst := by
  unfold uscRefill
  (try dsimp only)
  repeat' split
  all_goals simp

@[simp] theorem uscRefill_bau (s : State) (p : PortId) : (uscRefill p s).bau = s.bau := by
  unfold uscRefill
  (try dsimp only)
  repeat' split
  all_goals simp

@[simp] theorem uscRefill_shu (s : State) (p : PortId) : (uscRefill p s).shu = s.shu := by
  unfold uscRefill
  (try dsimp only)
  repeat' split
  all_goals simp

@[simp] theorem uscRefill_clt (s : State) (p : PortId) : (uscRefill p s).clt = s.clt := by
  unfold uscRefill
  (try dsimp only)
  repeat' split
  all_goals simp

@[simp] theorem uscRefill_tsq (s : State) (p : PortId) : (uscRefill p s).tsq = s.tsq := by
  unfold uscRefill
  (try dsimp only)
  repeat' split
  all_goals simp

@[simp] theorem uscRefill_msu (s : State) (p : PortId) : (uscRefill p s).msu = s.msu := by
  unfold uscRefill
  (try dsimp only)
  repeat' split
  all_goals simp

@[simp] theorem uscRefill_smn (s : State) (p : PortId) : (uscRefill p s).smn = s.smn := by
  unfold uscRefill
  (try dsimp only)
  repeat' split
  all_goals simp

@[simp] theorem uscRefill_mga (s : State) (p : PortId) : (uscRefill p s).mga = s.mga := by
  unfold uscRefill
  (try dsimp only)
  repeat' split
  all_goals simp

@[simp] theorem uscRefill_pending (s : State) (p : PortId) : (uscRefill p s).pending = s.pending := by
  unfold uscRefill
  (try dsimp only)
  repeat' split
  all_goals simp

@[simp] theorem uscRefillAll_pins (s : State) : (uscRefillAll s).pins = s.pins := by
  unfold uscRefillAll
  rw [forPorts_keeps (·.pins) _ (fun p t => uscUpdate_pins t p), forPorts_keeps (·.pins) _ (fun p t => uscRefill_pins t p)]

@[simp] theorem uscRefillAll_relayHold (s : State) : (uscRefillAll s).relayHold = s.relayHold := by
  unfold uscRefillAll
  rw [forPorts_keeps (·.relayHold) _ (fun p t => uscUpdate_relayHold t p), forPorts_keeps (·.relayHold) _ (fun p t => uscRefill_relayHold t p)]

@[simp] theorem uscRefillAll_stc (s : State) : (uscRefillAll s).stc = s.stc := by
  unfold uscRefillAll
  rw [forPorts_keeps (·.stc) _ (fun p t => uscUpdate_stc t p), forPorts_keeps (·.stc) _ (fun p t => uscRefill_stc t p)]

@[simp] theorem uscRefillAll_cfg (s : State) : (uscRefillAll s).cfg = s.cfg := by
  unfold uscRefillAll
  rw [forPorts_keeps (·.cfg) _ (fun p t => uscUpdate_cfg t p), forPorts_keeps (·.cfg) _ (fun p t => uscRefill_cfg t p)]

@[simp] theorem uscRefillAll_ports (s : State) : (uscRefillAll s).ports = s.ports := by
  unfold uscRefillAll
  rw [forPorts_keeps (·.ports) _ (fun p t => uscUpdate_ports t p), forPorts_keeps (·.ports) _ (fun p t => uscRefill_ports t p)]

@[simp] theorem uscRefillAll_fst (s : State) : (uscRefillAll s).fst = s.fst := by
  unfold uscRefillAll
  rw [forPorts_keeps (·.fst) _ (fun p t => uscUpdate_fst t p), forPorts_keeps (·.fst) _ (fun p t => uscRefill_fst t p)]

@[simp] theorem uscRefillAll_bau (s : State) : (uscRefillAll s).bau = s.bau := by
  unfold uscRefillAll
  rw [forPorts_keeps (·.bau) _ (fun p t => uscUpdate_bau t p), forPorts_keeps (·.bau) _ (fun p t => uscRefill_bau t p)]

@[simp] theorem uscRefillAll_shu (s : State) : (uscRefillAll s).shu = s.shu := by
  unfold uscRefillAll
  rw [forPorts_keeps (·.shu) _ (fun p t => uscUpdate_shu t p), forPorts_keeps (·.shu) _ (fun p t => uscRefill_shu t p)]

@[simp] theorem uscRefillAll_clt (s : State) : (uscRefillAll s).clt = s.clt := by
  unfold uscRefillAll
  rw [forPorts_keeps (·.clt) _ (fun p t => uscUpdate_clt t p), forPorts_keeps (·.clt) _ (fun p t => uscRefill_clt t p)]

@[simp] theorem uscRefillAll_tsq (s : State) : (uscRefillAll s).tsq = s.tsq := by
  unfold uscRefillAll
  rw [forPorts_keeps (·.tsq) _ (fun p t => uscUpdate_tsq t p), forPorts_keeps (·.tsq) _ (fun p t => uscRefill_tsq t p)]

@[simp] theorem uscRefillAll_msu (s : State) : (uscRefillAll s).msu = s.msu := by
  unfold uscRefillAll
  rw [forPorts_keeps (·.msu) _ (fun p t => uscUpdate_msu t p), forPorts_keeps (·.msu) _ (fun p t => uscRefill_msu t p)]

@[simp] theorem uscRefillAll_smn (s : State) : (uscRefillAll s).smn = s.smn := by
  unfold uscRefillAll
  rw [forPorts_keeps (·.smn) _ (fun p t => uscUpdate_smn t p), forPorts_keeps (·.smn) _ (fun p t => uscRefill_smn t p)]

@[simp] theorem uscRefillAll_mga (s : State) : (uscRefillAll s).mga = s.mga := by
  unfold uscRefillAll
  rw [forPorts_keeps (·.mga) _ (fun p t => uscUpdate_mga t p), forPorts_keeps (·.mga) _ (fun p t => uscRefill_mga t p)]

@[simp] theorem uscRefillAll_pending (s : State) : (uscRefillAll s).pending = s.pending := by
  unfold uscRefillAll
  rw [forPorts_keeps (·.pending) _ (fun p t => uscUpdate_pending t p), forPorts_keeps (·.pending) _ (fun p t => uscRefill_pending t p)]

@[simp] theorem uscAfterEnd_pins (s : State) (p : PortId) : (uscAfterEnd p s).pins = s.pins := by
  unfold uscAfterEnd
  (try dsimp only)
  repeat' split
  all_goals simp

@[simp] theorem uscAfterEnd_relayHold (s : State) (p : PortId) : (uscAfterEnd p s).relayHold = s.relayHold := by
  unfold uscAfterEnd
  (try dsimp only)
  repeat' split
  all_goals simp

@[simp] theorem uscAfterEnd_stc (s : State) (p : PortId) : (uscAfterEnd p s).stc = s.stc := by
  unfold uscAfterEnd
  (try dsimp only)
  repeat' split
  all_goals simp

@[simp] theorem uscAfterEnd_cfg (s : State) (p : PortId) : (uscAfterEnd p s).cfg = s.cfg := by
  unfold uscAfterEnd
  (try dsimp only)
  repeat' split
  all_goals simp

@[simp] theorem uscAfterEnd_ports (s : State) (p : PortId) : (uscAfterEnd p s).ports = s.ports := by
  unfold uscAfterEnd
  (try dsimp only)
  repeat' split
  all_goals simp

@[simp] theorem uscAfterEnd_fst (s : State) (p : PortId) : (uscAfterEnd p s).fst = s.fst := by
  unfold uscAfterEnd
  (try dsimp only)
  repeat' split
  all_goals simp

@[simp] theorem uscAfterEnd_bau (s : State) (p : PortId) : (uscAfterEnd p s).bau = s.bau := by
  unfold uscAfterEnd
  (try dsimp only)
  repeat' split
  all_goals simp

@[simp] theorem uscAfterEnd_shu (s : State) (p : PortId) : (uscAfterEnd p s).shu = s.shu := by
  unfold uscAfterEnd
  (try dsimp only)
  repeat' split
  all_goals simp

@[simp] theorem uscAfterEnd_clt (s : State) (p : PortId) : (uscAfterEnd p s).clt = s.clt := by
  unfold uscAfterEnd
  (try dsimp only)
  repeat' split
  all_goals simp

@[simp] theorem uscAfterEnd_tsq (s : State) (p : PortId) : (uscAfterEnd p s).tsq = s.tsq := by
  unfold uscAfterEnd
  (try dsimp only)
  repeat' split
  all_goals simp

@[simp] theorem uscAfterEnd_msu (s : State) (p : PortId) : (uscAfterEnd p s).msu = s.msu := by
  unfold uscAfterEnd
  (try dsimp only)
  repeat' split
  all_goals simp

@[simp] theorem uscAfterEnd_smn (s : State) (p : PortId) : (uscAfterEnd p s).smn = s.smn := by
  unfold uscAfterEnd
  (try dsimp only)
  repeat' split
  all_goals simp

@[simp] theorem uscAfterEnd_mga (s : State) (p : PortId) : (uscAfterEnd p s).mga = s.mga := by
  unfold uscAfterEnd
  (try dsimp only)
  repeat' split
  all_goals simp

@[simp] theorem uscAfterEnd_pending (s : State) (p : PortId) : (uscAfterEnd p s).pending = s.pending := by
  unfold uscAfterEnd
  (try dsimp only)
  repeat' split
  all_goals simp

@[simp] theorem passingFrame_pins (s : State) (p : PortId) : (passingFrame p s).pins = s.pins := rfl

@[simp] theorem passingFrame_relayHold (s : State) (p : PortId) : (passingFrame p s).relayHold = s.relayHold := rfl

@[simp] theorem passingFrame_stc (s : State) (p : PortId) : (passingFrame p s).stc = s.stc := rfl

@[simp] theorem passingFrame_cfg (s : State) (p : PortId) : (passingFrame p s).cfg = s.cfg := rfl

@[simp] theorem passingFrame_fst (s : State) (p : PortId) : (passingFrame p s).fst = s.fst := rfl

@[simp] theorem passingFrame_bau (s : State) (p : PortId) : (passingFrame p s).bau = s.bau := rfl

@[simp] theorem passingFrame_shu (s : State) (p : PortId) : (passingFrame p s).shu = s.shu := rfl

@[simp] theorem passingFrame_usc (s : State) (p : PortId) : (passingFrame p s).usc = s.usc := rfl

@[simp] theorem passingFrame_clt (s : State) (p : PortId) : (passingFrame p s).clt = s.clt := rfl

@[simp] theorem passingFrame_tsq (s : State) (p : PortId) : (passingFrame p s).tsq = s.tsq := rfl

@[simp] theorem passingFrame_msu (s : State) (p : PortId) : (passingFrame p s).msu = s.msu := rfl

@[simp] theorem passingFrame_smn (s : State) (p : PortId) : (passingFrame p s).smn = s.smn := rfl

@[simp] theorem passingFrame_mga (s : State) (p : PortId) : (passingFrame p s).mga = s.mga := rfl

@[simp] theorem passingFrame_pending (s : State) (p : PortId) : (passingFrame p s).pending = s.pending := rfl

@[simp] theorem handOver_pins (s : State) (p : PortId) : (handOver p s).pins = s.pins := by
  unfold handOver
  (try dsimp only)
  repeat' split
  all_goals simp

@[simp] theorem handOver_relayHold (s : State) (p : PortId) : (handOver p s).relayHold = s.relayHold := by
  unfold handOver
  (try dsimp only)
  repeat' split
  all_goals simp

@[simp] theorem handOver_stc (s : State) (p : PortId) : (handOver p s).stc = s.stc := by
  unfold handOver
  (try dsimp only)
  repeat' split
  all_goals simp

@[simp] theorem handOver_cfg (s : State) (p : PortId) : (handOver p s).cfg = s.cfg := by
  unfold handOver
  (try dsimp only)
  repeat' split
  all_goals simp

@[simp] theorem handOver_bau (s : State) (p : PortId) : (handOver p s).bau = s.bau := by
  unfold handOver
  (try dsimp only)
  repeat' split
  all_goals simp

@[simp] theorem handOver_shu (s : State) (p : PortId) : (handOver p s).shu = s.shu := by
  unfold handOver
  (try dsimp only)
  repeat' split
  all_goals simp

@[simp] theorem handOver_usc (s : State) (p : PortId) : (handOver p s).usc = s.usc := by
  unfold handOver
  (try dsimp only)
  repeat' split
  all_goals simp

@[simp] theorem handOver_clt (s : State) (p : PortId) : (handOver p s).clt = s.clt := by
  unfold handOver
  (try dsimp only)
  repeat' split
  all_goals simp

@[simp] theorem handOver_tsq (s : State) (p : PortId) : (handOver p s).tsq = s.tsq := by
  unfold handOver
  (try dsimp only)
  repeat' split
  all_goals simp

@[simp] theorem handOver_msu (s : State) (p : PortId) : (handOver p s).msu = s.msu := by
  unfold handOver
  (try dsimp only)
  repeat' split
  all_goals simp

@[simp] theorem handOver_smn (s : State) (p : PortId) : (handOver p s).smn = s.smn := by
  unfold handOver
  (try dsimp only)
  repeat' split
  all_goals simp

@[simp] theorem handOver_pending (s : State) (p : PortId) : (handOver p s).pending = s.pending := by
  unfold handOver
  (try dsimp only)
  repeat' split
  all_goals simp

@[simp] theorem completeUpstream_pins (s : State) (p : PortId) : (completeUpstream p s).pins = s.pins := by
  unfold completeUpstream
  (try dsimp only)
  repeat' split
  all_goals simp

@[simp] theorem completeUpstream_relayHold (s : State) (p : PortId) : (completeUpstream p s).relayHold = s.relayHold := by
  unfold completeUpstream
  (try dsimp only)
  repeat' split
  all_goals simp

@[simp] theorem completeUpstream_stc (s : State) (p : PortId) : (completeUpstream p s).stc = s.stc := by
  unfold completeUpstream
  (try dsimp only)
  repeat' split
  all_goals simp

@[simp] theorem completeUpstream_cfg (s : State) (p : PortId) : (completeUpstream p s).cfg = s.cfg := by
  unfold completeUpstream
  (try dsimp only)
  repeat' split
  all_goals simp

@[simp] theorem completeUpstream_bau (s : State) (p : PortId) : (completeUpstream p s).bau = s.bau := by
  unfold completeUpstream
  (try dsimp only)
  repeat' split
  all_goals simp

@[simp] theorem completeUpstream_shu (s : State) (p : PortId) : (completeUpstream p s).shu = s.shu := by
  unfold completeUpstream
  (try dsimp only)
  repeat' split
  all_goals simp

@[simp] theorem completeUpstream_clt (s : State) (p : PortId) : (completeUpstream p s).clt = s.clt := by
  unfold completeUpstream
  (try dsimp only)
  repeat' split
  all_goals simp

@[simp] theorem completeUpstream_tsq (s : State) (p : PortId) : (completeUpstream p s).tsq = s.tsq := by
  unfold completeUpstream
  (try dsimp only)
  repeat' split
  all_goals simp

@[simp] theorem completeUpstream_msu (s : State) (p : PortId) : (completeUpstream p s).msu = s.msu := by
  unfold completeUpstream
  (try dsimp only)
  repeat' split
  all_goals simp

@[simp] theorem completeUpstream_smn (s : State) (p : PortId) : (completeUpstream p s).smn = s.smn := by
  unfold completeUpstream
  (try dsimp only)
  repeat' split
  all_goals simp

@[simp] theorem completeUpstream_pending (s : State) (p : PortId) : (completeUpstream p s).pending = s.pending := by
  unfold completeUpstream
  (try dsimp only)
  repeat' split
  all_goals simp

@[simp] theorem completeDownstream_pins (s : State) (p : PortId) : (completeDownstream p s).pins = s.pins := by
  unfold completeDownstream
  (try dsimp only)
  repeat' split
  all_goals simp

@[simp] theorem completeDownstream_relayHold (s : State) (p : PortId) : (completeDownstream p s).relayHold = s.relayHold := by
  unfold completeDownstream
  (try dsimp only)
  repeat' split
  all_goals simp

@[simp] theorem completeDownstream_stc (s : State) (p : PortId) : (completeDownstream p s).stc = s.stc := by
  unfold completeDownstream
  (try dsimp only)
  repeat' split
  all_goals simp

@[simp] theorem completeDownstream_cfg (s : State) (p : PortId) : (completeDownstream p s).cfg = s.cfg := by
  unfold completeDownstream
  (try dsimp only)
  repeat' split
  all_goals simp

@[simp] theorem completeDownstream_bau (s : State) (p : PortId) : (completeDownstream p s).bau = s.bau := by
  unfold completeDownstream
  (try dsimp only)
  repeat' split
  all_goals simp

@[simp] theorem completeDownstream_shu (s : State) (p : PortId) : (completeDownstream p s).shu = s.shu := by
  unfold completeDownstream
  (try dsimp only)
  repeat' split
  all_goals simp

@[simp] theorem completeDownstream_usc (s : State) (p : PortId) : (completeDownstream p s).usc = s.usc := by
  unfold completeDownstream
  (try dsimp only)
  repeat' split
  all_goals simp

@[simp] theorem completeDownstream_clt (s : State) (p : PortId) : (completeDownstream p s).clt = s.clt := by
  unfold completeDownstream
  (try dsimp only)
  repeat' split
  all_goals simp

@[simp] theorem completeDownstream_tsq (s : State) (p : PortId) : (completeDownstream p s).tsq = s.tsq := by
  unfold completeDownstream
  (try dsimp only)
  repeat' split
  all_goals simp

@[simp] theorem completeDownstream_msu (s : State) (p : PortId) : (completeDownstream p s).msu = s.msu := by
  unfold completeDownstream
  (try dsimp only)
  repeat' split
  all_goals simp

@[simp] theorem completeDownstream_smn (s : State) (p : PortId) : (completeDownstream p s).smn = s.smn := by
  unfold completeDownstream
  (try dsimp only)
  repeat' split
  all_goals simp

@[simp] theorem completeDownstream_pending (s : State) (p : PortId) : (completeDownstream p s).pending = s.pending := by
  unfold completeDownstream
  (try dsimp only)
  repeat' split
  all_goals simp

@[simp] theorem completeMreq_pins (s : State) : (completeMreq s).pins = s.pins := by
  unfold completeMreq
  (try dsimp only)
  repeat' split
  all_goals simp

@[simp] theorem completeMreq_relayHold (s : State) : (completeMreq s).relayHold = s.relayHold := by
  unfold completeMreq
  (try dsimp only)
  repeat' split
  all_goals simp

@[simp] theorem completeMreq_stc (s : State) : (completeMreq s).stc = s.stc := by
  unfold completeMreq
  (try dsimp only)
  repeat' split
  all_goals simp

@[simp] theorem completeMreq_cfg (s : State) : (completeMreq s).cfg = s.cfg := by
  unfold completeMreq
  (try dsimp only)
  repeat' split
  all_goals simp

@[simp] theorem completeMreq_ports (s : State) : (completeMreq s).ports = s.ports := by
  unfold completeMreq
  (try dsimp only)
  repeat' split
  all_goals simp

@[simp] theorem completeMreq_bau (s : State) : (completeMreq s).bau = s.bau := by
  unfold completeMreq
  (try dsimp only)
  repeat' split
  all_goals simp

@[simp] theorem completeMreq_shu (s : State) : (completeMreq s).shu = s.shu := by
  unfold completeMreq
  (try dsimp only)
  repeat' split
  all_goals simp

@[simp] theorem completeMreq_usc (s : State) : (completeMreq s).usc = s.usc := by
  unfold completeMreq
  (try dsimp only)
  repeat' split
  all_goals simp

@[simp] theorem completeMreq_clt (s : State) : (completeMreq s).clt = s.clt := by
  unfold completeMreq
  (try dsimp only)
  repeat' split
  all_goals simp

@[simp] theorem completeMreq_tsq (s : State) : (completeMreq s).tsq = s.tsq := by
  unfold completeMreq
  (try dsimp only)
  repeat' split
  all_goals simp

@[simp] theorem completeMreq_msu (s : State) : (completeMreq s).msu = s.msu := by
  unfold completeMreq
  (try dsimp only)
  repeat' split
  all_goals simp

@[simp] theorem completeMreq_smn (s : State) : (completeMreq s).smn = s.smn := by
  unfold completeMreq
  (try dsimp only)
  repeat' split
  all_goals simp

@[simp] theorem completeMreq_pending (s : State) : (completeMreq s).pending = s.pending := by
  unfold completeMreq
  (try dsimp only)
  repeat' split
  all_goals simp

@[simp] theorem flushPort_pins (s : State) (p : PortId) : (flushPort p s).pins = s.pins := by
  unfold flushPort
  (try dsimp only)
  repeat' split
  all_goals simp

@[simp] theorem flushPort_relayHold (s : State) (p : PortId) : (flushPort p s).relayHold = s.relayHold := by
  unfold flushPort
  (try dsimp only)
  repeat' split
  all_goals simp

@[simp] theorem flushPort_stc (s : State) (p : PortId) : (flushPort p s).stc = s.stc := by
  unfold flushPort
  (try dsimp only)
  repeat' split
  all_goals simp

@[simp] theorem flushPort_cfg (s : State) (p : PortId) : (flushPort p s).cfg = s.cfg := by
  unfold flushPort
  (try dsimp only)
  repeat' split
  all_goals simp

@[simp] theorem flushPort_ports (s : State) (p : PortId) : (flushPort p s).ports = s.ports := by
  unfold flushPort
  (try dsimp only)
  repeat' split
  all_goals simp

@[simp] theorem flushPort_bau (s : State) (p : PortId) : (flushPort p s).bau = s.bau := by
  unfold flushPort
  (try dsimp only)
  repeat' split
  all_goals simp

@[simp] theorem flushPort_shu (s : State) (p : PortId) : (flushPort p s).shu = s.shu := by
  unfold flushPort
  (try dsimp only)
  repeat' split
  all_goals simp

@[simp] theorem flushPort_usc (s : State) (p : PortId) : (flushPort p s).usc = s.usc := by
  unfold flushPort
  (try dsimp only)
  repeat' split
  all_goals simp

@[simp] theorem flushPort_clt (s : State) (p : PortId) : (flushPort p s).clt = s.clt := by
  unfold flushPort
  (try dsimp only)
  repeat' split
  all_goals simp

@[simp] theorem flushPort_tsq (s : State) (p : PortId) : (flushPort p s).tsq = s.tsq := by
  unfold flushPort
  (try dsimp only)
  repeat' split
  all_goals simp

@[simp] theorem flushPort_msu (s : State) (p : PortId) : (flushPort p s).msu = s.msu := by
  unfold flushPort
  (try dsimp only)
  repeat' split
  all_goals simp

@[simp] theorem flushPort_smn (s : State) (p : PortId) : (flushPort p s).smn = s.smn := by
  unfold flushPort
  (try dsimp only)
  repeat' split
  all_goals simp

@[simp] theorem flushPort_pending (s : State) (p : PortId) : (flushPort p s).pending = s.pending := by
  unfold flushPort
  (try dsimp only)
  repeat' split
  all_goals simp

@[simp] theorem removeUpHead_pins (s : State) (p : PortId) : (removeUpHead p s).pins = s.pins := by
  unfold removeUpHead
  (try dsimp only)
  repeat' split
  all_goals simp

@[simp] theorem removeUpHead_relayHold (s : State) (p : PortId) : (removeUpHead p s).relayHold = s.relayHold := by
  unfold removeUpHead
  (try dsimp only)
  repeat' split
  all_goals simp

@[simp] theorem removeUpHead_stc (s : State) (p : PortId) : (removeUpHead p s).stc = s.stc := by
  unfold removeUpHead
  (try dsimp only)
  repeat' split
  all_goals simp

@[simp] theorem removeUpHead_cfg (s : State) (p : PortId) : (removeUpHead p s).cfg = s.cfg := by
  unfold removeUpHead
  (try dsimp only)
  repeat' split
  all_goals simp

@[simp] theorem removeUpHead_ports (s : State) (p : PortId) : (removeUpHead p s).ports = s.ports := by
  unfold removeUpHead
  (try dsimp only)
  repeat' split
  all_goals simp

@[simp] theorem removeUpHead_bau (s : State) (p : PortId) : (removeUpHead p s).bau = s.bau := by
  unfold removeUpHead
  (try dsimp only)
  repeat' split
  all_goals simp

@[simp] theorem removeUpHead_shu (s : State) (p : PortId) : (removeUpHead p s).shu = s.shu := by
  unfold removeUpHead
  (try dsimp only)
  repeat' split
  all_goals simp

@[simp] theorem removeUpHead_usc (s : State) (p : PortId) : (removeUpHead p s).usc = s.usc := by
  unfold removeUpHead
  (try dsimp only)
  repeat' split
  all_goals simp

@[simp] theorem removeUpHead_clt (s : State) (p : PortId) : (removeUpHead p s).clt = s.clt := by
  unfold removeUpHead
  (try dsimp only)
  repeat' split
  all_goals simp

@[simp] theorem removeUpHead_tsq (s : State) (p : PortId) : (removeUpHead p s).tsq = s.tsq := by
  unfold removeUpHead
  (try dsimp only)
  repeat' split
  all_goals simp

@[simp] theorem removeUpHead_msu (s : State) (p : PortId) : (removeUpHead p s).msu = s.msu := by
  unfold removeUpHead
  (try dsimp only)
  repeat' split
  all_goals simp

@[simp] theorem removeUpHead_smn (s : State) (p : PortId) : (removeUpHead p s).smn = s.smn := by
  unfold removeUpHead
  (try dsimp only)
  repeat' split
  all_goals simp

@[simp] theorem removeUpHead_mga (s : State) (p : PortId) : (removeUpHead p s).mga = s.mga := by
  unfold removeUpHead
  (try dsimp only)
  repeat' split
  all_goals simp

@[simp] theorem removeUpHead_pending (s : State) (p : PortId) : (removeUpHead p s).pending = s.pending := by
  unfold removeUpHead
  (try dsimp only)
  repeat' split
  all_goals simp

@[simp] theorem removeResponseHead_pins (s : State) : (removeResponseHead s).pins = s.pins := by
  unfold removeResponseHead
  (try dsimp only)
  repeat' split
  all_goals simp

@[simp] theorem removeResponseHead_relayHold (s : State) : (removeResponseHead s).relayHold = s.relayHold := by
  unfold removeResponseHead
  (try dsimp only)
  repeat' split
  all_goals simp

@[simp] theorem removeResponseHead_stc (s : State) : (removeResponseHead s).stc = s.stc := by
  unfold removeResponseHead
  (try dsimp only)
  repeat' split
  all_goals simp

@[simp] theorem removeResponseHead_cfg (s : State) : (removeResponseHead s).cfg = s.cfg := by
  unfold removeResponseHead
  (try dsimp only)
  repeat' split
  all_goals simp

@[simp] theorem removeResponseHead_ports (s : State) : (removeResponseHead s).ports = s.ports := by
  unfold removeResponseHead
  (try dsimp only)
  repeat' split
  all_goals simp

@[simp] theorem removeResponseHead_bau (s : State) : (removeResponseHead s).bau = s.bau := by
  unfold removeResponseHead
  (try dsimp only)
  repeat' split
  all_goals simp

@[simp] theorem removeResponseHead_shu (s : State) : (removeResponseHead s).shu = s.shu := by
  unfold removeResponseHead
  (try dsimp only)
  repeat' split
  all_goals simp

@[simp] theorem removeResponseHead_usc (s : State) : (removeResponseHead s).usc = s.usc := by
  unfold removeResponseHead
  (try dsimp only)
  repeat' split
  all_goals simp

@[simp] theorem removeResponseHead_clt (s : State) : (removeResponseHead s).clt = s.clt := by
  unfold removeResponseHead
  (try dsimp only)
  repeat' split
  all_goals simp

@[simp] theorem removeResponseHead_tsq (s : State) : (removeResponseHead s).tsq = s.tsq := by
  unfold removeResponseHead
  (try dsimp only)
  repeat' split
  all_goals simp

@[simp] theorem removeResponseHead_msu (s : State) : (removeResponseHead s).msu = s.msu := by
  unfold removeResponseHead
  (try dsimp only)
  repeat' split
  all_goals simp

@[simp] theorem removeResponseHead_smn (s : State) : (removeResponseHead s).smn = s.smn := by
  unfold removeResponseHead
  (try dsimp only)
  repeat' split
  all_goals simp

@[simp] theorem removeResponseHead_mga (s : State) : (removeResponseHead s).mga = s.mga := by
  unfold removeResponseHead
  (try dsimp only)
  repeat' split
  all_goals simp

@[simp] theorem removeResponseHead_pending (s : State) : (removeResponseHead s).pending = s.pending := by
  unfold removeResponseHead
  (try dsimp only)
  repeat' split
  all_goals simp

@[simp] theorem removeRequestHead_pins (s : State) : (removeRequestHead s).pins = s.pins := by
  unfold removeRequestHead
  (try dsimp only)
  repeat' split
  all_goals simp

@[simp] theorem removeRequestHead_relayHold (s : State) : (removeRequestHead s).relayHold = s.relayHold := by
  unfold removeRequestHead
  (try dsimp only)
  repeat' split
  all_goals simp

@[simp] theorem removeRequestHead_stc (s : State) : (removeRequestHead s).stc = s.stc := by
  unfold removeRequestHead
  (try dsimp only)
  repeat' split
  all_goals simp

@[simp] theorem removeRequestHead_cfg (s : State) : (removeRequestHead s).cfg = s.cfg := by
  unfold removeRequestHead
  (try dsimp only)
  repeat' split
  all_goals simp

@[simp] theorem removeRequestHead_ports (s : State) : (removeRequestHead s).ports = s.ports := by
  unfold removeRequestHead
  (try dsimp only)
  repeat' split
  all_goals simp

@[simp] theorem removeRequestHead_bau (s : State) : (removeRequestHead s).bau = s.bau := by
  unfold removeRequestHead
  (try dsimp only)
  repeat' split
  all_goals simp

@[simp] theorem removeRequestHead_shu (s : State) : (removeRequestHead s).shu = s.shu := by
  unfold removeRequestHead
  (try dsimp only)
  repeat' split
  all_goals simp

@[simp] theorem removeRequestHead_usc (s : State) : (removeRequestHead s).usc = s.usc := by
  unfold removeRequestHead
  (try dsimp only)
  repeat' split
  all_goals simp

@[simp] theorem removeRequestHead_clt (s : State) : (removeRequestHead s).clt = s.clt := by
  unfold removeRequestHead
  (try dsimp only)
  repeat' split
  all_goals simp

@[simp] theorem removeRequestHead_tsq (s : State) : (removeRequestHead s).tsq = s.tsq := by
  unfold removeRequestHead
  (try dsimp only)
  repeat' split
  all_goals simp

@[simp] theorem removeRequestHead_msu (s : State) : (removeRequestHead s).msu = s.msu := by
  unfold removeRequestHead
  (try dsimp only)
  repeat' split
  all_goals simp

@[simp] theorem removeRequestHead_smn (s : State) : (removeRequestHead s).smn = s.smn := by
  unfold removeRequestHead
  (try dsimp only)
  repeat' split
  all_goals simp

@[simp] theorem removeRequestHead_mga (s : State) : (removeRequestHead s).mga = s.mga := by
  unfold removeRequestHead
  (try dsimp only)
  repeat' split
  all_goals simp

@[simp] theorem removeRequestHead_pending (s : State) : (removeRequestHead s).pending = s.pending := by
  unfold removeRequestHead
  (try dsimp only)
  repeat' split
  all_goals simp

@[simp] theorem changeState_pins (s : State) (p : PortId) (ns : LineState) (w l : Bool) : (changeState p ns w l s).pins = s.pins := by
  unfold changeState
  (try dsimp only)
  repeat' split
  all_goals simp

@[simp] theorem changeState_relayHold (s : State) (p : PortId) (ns : LineState) (w l : Bool) : (changeState p ns w l s).relayHold = s.relayHold := by
  unfold changeState
  (try dsimp only)
  repeat' split
  all_goals simp

@[simp] theorem changeState_stc (s : State) (p : PortId) (ns : LineState) (w l : Bool) : (changeState p ns w l s).stc = s.stc := by
  unfold changeState
  (try dsimp only)
  repeat' split
  all_goals simp

@[simp] theorem changeState_cfg (s : State) (p : PortId) (ns : LineState) (w l : Bool) : (changeState p ns w l s).cfg = s.cfg := by
  unfold changeState
  (try dsimp only)
  repeat' split
  all_goals simp

@[simp] theorem changeState_bau (s : State) (p : PortId) (ns : LineState) (w l : Bool) : (changeState p ns w l s).bau = s.bau := by
  unfold changeState
  (try dsimp only)
  repeat' split
  all_goals simp

@[simp] theorem changeState_shu (s : State) (p : PortId) (ns : LineState) (w l : Bool) : (changeState p ns w l s).shu = s.shu := by
  unfold changeState
  (try dsimp only)
  repeat' split
  all_goals simp

@[simp] theorem changeState_clt (s : State) (p : PortId) (ns : LineState) (w l : Bool) : (changeState p ns w l s).clt = s.clt := by
  unfold changeState
  (try dsimp only)
  repeat' split
  all_goals simp

@[simp] theorem changeState_tsq (s : State) (p : PortId) (ns : LineState) (w l : Bool) : (changeState p ns w l s).tsq = s.tsq := by
  unfold changeState
  (try dsimp only)
  repeat' split
  all_goals simp

@[simp] theorem changeState_msu (s : State) (p : PortId) (ns : LineState) (w l : Bool) : (changeState p ns w l s).msu = s.msu := by
  unfold changeState
  (try dsimp only)
  repeat' split
  all_goals simp

@[simp] theorem changeState_smn (s : State) (p : PortId) (ns : LineState) (w l : Bool) : (changeState p ns w l s).smn = s.smn := by
  unfold changeState
  (try dsimp only)
  repeat' split
  all_goals simp

@[simp] theorem changeState_pending (s : State) (p : PortId) (ns : LineState) (w l : Bool) : (changeState p ns w l s).pending = s.pending := by
  unfold changeState
  (try dsimp only)
  repeat' split
  all_goals simp

@[simp] theorem toWaiting_pins (s : State) (p : PortId) (l : Bool) : (toWaiting p l s).pins = s.pins := by
  unfold toWaiting
  (try dsimp only)
  repeat' split
  all_goals simp

@[simp] theorem toWaiting_relayHold (s : State) (p : PortId) (l : Bool) : (toWaiting p l s).relayHold = s.relayHold := by
  unfold toWaiting
  (try dsimp only)
  repeat' split
  all_goals simp

@[simp] theorem toWaiting_stc (s : State) (p : PortId) (l : Bool) : (toWaiting p l s).stc = s.stc := by
  unfold toWaiting
  (try dsimp only)
  repeat' split
  all_goals simp

@[simp] theorem toWaiting_cfg (s : State) (p : PortId) (l : Bool) : (toWaiting p l s).cfg = s.cfg := by
  unfold toWaiting
  (try dsimp only)
  repeat' split
  all_goals simp

@[simp] theorem toWaiting_bau (s : State) (p : PortId) (l : Bool) : (toWaiting p l s).bau = s.bau := by
  unfold toWaiting
  (try dsimp only)
  repeat' split
  all_goals simp

@[simp] theorem toWaiting_shu (s : State) (p : PortId) (l : Bool) : (toWaiting p l s).shu = s.shu := by
  unfold toWaiting
  (try dsimp only)
  repeat' split
  all_goals simp

@[simp] theorem toWaiting_clt (s : State) (p : PortId) (l : Bool) : (toWaiting p l s).clt = s.clt := by
  unfold toWaiting
  (try dsimp only)
  repeat' split
  all_goals simp

@[simp] theorem toWaiting_tsq (s : State) (p : PortId) (l : Bool) : (toWaiting p l s).tsq = s.tsq := by
  unfold toWaiting
  (try dsimp only)
  repeat' split
  all_goals simp

@[simp] theorem toWaiting_msu (s : State) (p : PortId) (l : Bool) : (toWaiting p l s).msu = s.msu := by
  unfold toWaiting
  (try dsimp only)
  repeat' split
  all_goals simp

@[simp] theorem toWaiting_smn (s : State) (p : PortId) (l : Bool) : (toWaiting p l s).smn = s.smn := by
  unfold toWaiting
  (try dsimp only)
  repeat' split
  all_goals simp

@[simp] theorem toWaiting_pending (s : State) (p : PortId) (l : Bool) : (toWaiting p l s).pending = s.pending := by
  unfold toWaiting
  (try dsimp only)
  repeat' split
  all_goals simp

@[simp] theorem closeService_pins (s : State) (p : PortId) : (closeService p s).pins = s.pins := by
  unfold closeService
  (try dsimp only)
  repeat' split
  all_goals simp

@[simp] theorem closeService_relayHold (s : State) (p : PortId) : (closeService p s).relayHold = s.relayHold := by
  unfold closeService
  (try dsimp only)
  repeat' split
  all_goals simp

@[simp] theorem closeService_stc (s : State) (p : PortId) : (closeService p s).stc = s.stc := by
  unfold closeService
  (try dsimp only)
  repeat' split
  all_goals simp

@[simp] theorem closeService_cfg (s : State) (p : PortId) : (closeService p s).cfg = s.cfg := by
  unfold closeService
  (try dsimp only)
  repeat' split
  all_goals simp

@[simp] theorem closeService_fst (s : State) (p : PortId) : (closeService p s).fst = s.fst := by
  unfold closeService
  (try dsimp only)
  repeat' split
  all_goals simp

@[simp] theorem closeService_bau (s : State) (p : PortId) : (closeService p s).bau = s.bau := by
  unfold closeService
  (try dsimp only)
  repeat' split
  all_goals simp

@[simp] theorem closeService_shu (s : State) (p : PortId) : (closeService p s).shu = s.shu := by
  unfold closeService
  (try dsimp only)
  repeat' split
  all_goals simp

@[simp] theorem closeService_usc (s : State) (p : PortId) : (closeService p s).usc = s.usc := by
  unfold closeService
  (try dsimp only)
  repeat' split
  all_goals simp

@[simp] theorem closeService_clt (s : State) (p : PortId) : (closeService p s).clt = s.clt := by
  unfold closeService
  (try dsimp only)
  repeat' split
  all_goals simp

@[simp] theorem closeService_tsq (s : State) (p : PortId) : (closeService p s).tsq = s.tsq := by
  unfold closeService
  (try dsimp only)
  repeat' split
  all_goals simp

@[simp] theorem closeService_msu (s : State) (p : PortId) : (closeService p s).msu = s.msu := by
  unfold closeService
  (try dsimp only)
  repeat' split
  all_goals simp

@[simp] theorem closeService_smn (s : State) (p : PortId) : (closeService p s).smn = s.smn := by
  unfold closeService
  (try dsimp only)
  repeat' split
  all_goals simp

@[simp] theorem closeService_mga (s : State) (p : PortId) : (closeService p s).mga = s.mga := by
  unfold closeService
  (try dsimp only)
  repeat' split
  all_goals simp

@[simp] theorem closeService_pending (s : State) (p : PortId) : (closeService p s).pending = s.pending := by
  unfold closeService
  (try dsimp only)
  repeat' split
  all_goals simp

@[simp] theorem closeTest_pins (s : State) (p : PortId) : (closeTest p s).pins = s.pins := by
  unfold closeTest
  (try dsimp only)
  repeat' split
  all_goals simp

@[simp] theorem closeTest_relayHold (s : State) (p : PortId) : (closeTest p s).relayHold = s.relayHold := by
  unfold closeTest
  (try dsimp only)
  repeat' split
  all_goals simp

@[simp] theorem closeTest_stc (s : State) (p : PortId) : (closeTest p s).stc = s.stc := by
  unfold closeTest
  (try dsimp only)
  repeat' split
  all_goals simp

@[simp] theorem closeTest_cfg (s : State) (p : PortId) : (closeTest p s).cfg = s.cfg := by
  unfold closeTest
  (try dsimp only)
  repeat' split
  all_goals simp

@[simp] theorem closeTest_fst (s : State) (p : PortId) : (closeTest p s).fst = s.fst := by
  unfold closeTest
  (try dsimp only)
  repeat' split
  all_goals simp

@[simp] theorem closeTest_bau (s : State) (p : PortId) : (closeTest p s).bau = s.bau := by
  unfold closeTest
  (try dsimp only)
  repeat' split
  all_goals simp

@[simp] theorem closeTest_shu (s : State) (p : PortId) : (closeTest p s).shu = s.shu := by
  unfold closeTest
  (try dsimp only)
  repeat' split
  all_goals simp

@[simp] theorem closeTest_usc (s : State) (p : PortId) : (closeTest p s).usc = s.usc := by
  unfold closeTest
  (try dsimp only)
  repeat' split
  all_goals simp

@[simp] theorem closeTest_clt (s : State) (p : PortId) : (closeTest p s).clt = s.clt := by
  unfold closeTest
  (try dsimp only)
  repeat' split
  all_goals simp

@[simp] theorem closeTest_tsq (s : State) (p : PortId) : (closeTest p s).tsq = s.tsq := by
  unfold closeTest
  (try dsimp only)
  repeat' split
  all_goals simp

@[simp] theorem closeTest_msu (s : State) (p : PortId) : (closeTest p s).msu = s.msu := by
  unfold closeTest
  (try dsimp only)
  repeat' split
  all_goals simp

@[simp] theorem closeTest_smn (s : State) (p : PortId) : (closeTest p s).smn = s.smn := by
  unfold closeTest
  (try dsimp only)
  repeat' split
  all_goals simp

@[simp] theorem closeTest_mga (s : State) (p : PortId) : (closeTest p s).mga = s.mga := by
  unfold closeTest
  (try dsimp only)
  repeat' split
  all_goals simp

@[simp] theorem closeTest_pending (s : State) (p : PortId) : (closeTest p s).pending = s.pending := by
  unfold closeTest
  (try dsimp only)
  repeat' split
  all_goals simp

@[simp] theorem beginAttempt_pins (s : State) (p : PortId) : (beginAttempt p s).pins = s.pins := by
  unfold beginAttempt
  (try dsimp only)
  repeat' split
  all_goals simp

@[simp] theorem beginAttempt_relayHold (s : State) (p : PortId) : (beginAttempt p s).relayHold = s.relayHold := by
  unfold beginAttempt
  (try dsimp only)
  repeat' split
  all_goals simp

@[simp] theorem beginAttempt_stc (s : State) (p : PortId) : (beginAttempt p s).stc = s.stc := by
  unfold beginAttempt
  (try dsimp only)
  repeat' split
  all_goals simp

@[simp] theorem beginAttempt_cfg (s : State) (p : PortId) : (beginAttempt p s).cfg = s.cfg := by
  unfold beginAttempt
  (try dsimp only)
  repeat' split
  all_goals simp

@[simp] theorem beginAttempt_bau (s : State) (p : PortId) : (beginAttempt p s).bau = s.bau := by
  unfold beginAttempt
  (try dsimp only)
  repeat' split
  all_goals simp

@[simp] theorem beginAttempt_shu (s : State) (p : PortId) : (beginAttempt p s).shu = s.shu := by
  unfold beginAttempt
  (try dsimp only)
  repeat' split
  all_goals simp

@[simp] theorem beginAttempt_clt (s : State) (p : PortId) : (beginAttempt p s).clt = s.clt := by
  unfold beginAttempt
  (try dsimp only)
  repeat' split
  all_goals simp

@[simp] theorem beginAttempt_tsq (s : State) (p : PortId) : (beginAttempt p s).tsq = s.tsq := by
  unfold beginAttempt
  (try dsimp only)
  repeat' split
  all_goals simp

@[simp] theorem beginAttempt_msu (s : State) (p : PortId) : (beginAttempt p s).msu = s.msu := by
  unfold beginAttempt
  (try dsimp only)
  repeat' split
  all_goals simp

@[simp] theorem beginAttempt_smn (s : State) (p : PortId) : (beginAttempt p s).smn = s.smn := by
  unfold beginAttempt
  (try dsimp only)
  repeat' split
  all_goals simp

@[simp] theorem beginAttempt_pending (s : State) (p : PortId) : (beginAttempt p s).pending = s.pending := by
  unfold beginAttempt
  (try dsimp only)
  repeat' split
  all_goals simp

@[simp] theorem placeAutoTest_pins (s : State) (p : PortId) : (placeAutoTest p s).pins = s.pins := by
  unfold placeAutoTest
  (try dsimp only)
  repeat' split
  all_goals simp

@[simp] theorem placeAutoTest_relayHold (s : State) (p : PortId) : (placeAutoTest p s).relayHold = s.relayHold := by
  unfold placeAutoTest
  (try dsimp only)
  repeat' split
  all_goals simp

@[simp] theorem placeAutoTest_stc (s : State) (p : PortId) : (placeAutoTest p s).stc = s.stc := by
  unfold placeAutoTest
  (try dsimp only)
  repeat' split
  all_goals simp

@[simp] theorem placeAutoTest_cfg (s : State) (p : PortId) : (placeAutoTest p s).cfg = s.cfg := by
  unfold placeAutoTest
  (try dsimp only)
  repeat' split
  all_goals simp

@[simp] theorem placeAutoTest_ports (s : State) (p : PortId) : (placeAutoTest p s).ports = s.ports := by
  unfold placeAutoTest
  (try dsimp only)
  repeat' split
  all_goals simp

@[simp] theorem placeAutoTest_fst (s : State) (p : PortId) : (placeAutoTest p s).fst = s.fst := by
  unfold placeAutoTest
  (try dsimp only)
  repeat' split
  all_goals simp

@[simp] theorem placeAutoTest_bau (s : State) (p : PortId) : (placeAutoTest p s).bau = s.bau := by
  unfold placeAutoTest
  (try dsimp only)
  repeat' split
  all_goals simp

@[simp] theorem placeAutoTest_shu (s : State) (p : PortId) : (placeAutoTest p s).shu = s.shu := by
  unfold placeAutoTest
  (try dsimp only)
  repeat' split
  all_goals simp

@[simp] theorem placeAutoTest_usc (s : State) (p : PortId) : (placeAutoTest p s).usc = s.usc := by
  unfold placeAutoTest
  (try dsimp only)
  repeat' split
  all_goals simp

@[simp] theorem placeAutoTest_clt (s : State) (p : PortId) : (placeAutoTest p s).clt = s.clt := by
  unfold placeAutoTest
  (try dsimp only)
  repeat' split
  all_goals simp

@[simp] theorem placeAutoTest_msu (s : State) (p : PortId) : (placeAutoTest p s).msu = s.msu := by
  unfold placeAutoTest
  (try dsimp only)
  repeat' split
  all_goals simp

@[simp] theorem placeAutoTest_smn (s : State) (p : PortId) : (placeAutoTest p s).smn = s.smn := by
  unfold placeAutoTest
  (try dsimp only)
  repeat' split
  all_goals simp

@[simp] theorem placeAutoTest_mga (s : State) (p : PortId) : (placeAutoTest p s).mga = s.mga := by
  unfold placeAutoTest
  (try dsimp only)
  repeat' split
  all_goals simp

@[simp] theorem placeAutoTest_pending (s : State) (p : PortId) : (placeAutoTest p s).pending = s.pending := by
  unfold placeAutoTest
  (try dsimp only)
  repeat' split
  all_goals simp

@[simp] theorem trainingFailure_pins (s : State) (p : PortId) (c : FailCause) : (trainingFailure p c s).pins = s.pins := by
  unfold trainingFailure
  (try dsimp only)
  repeat' split
  all_goals simp

@[simp] theorem trainingFailure_relayHold (s : State) (p : PortId) (c : FailCause) : (trainingFailure p c s).relayHold = s.relayHold := by
  unfold trainingFailure
  (try dsimp only)
  repeat' split
  all_goals simp

@[simp] theorem trainingFailure_stc (s : State) (p : PortId) (c : FailCause) : (trainingFailure p c s).stc = s.stc := by
  unfold trainingFailure
  (try dsimp only)
  repeat' split
  all_goals simp

@[simp] theorem trainingFailure_cfg (s : State) (p : PortId) (c : FailCause) : (trainingFailure p c s).cfg = s.cfg := by
  unfold trainingFailure
  (try dsimp only)
  repeat' split
  all_goals simp

@[simp] theorem trainingFailure_bau (s : State) (p : PortId) (c : FailCause) : (trainingFailure p c s).bau = s.bau := by
  unfold trainingFailure
  (try dsimp only)
  repeat' split
  all_goals simp

@[simp] theorem trainingFailure_shu (s : State) (p : PortId) (c : FailCause) : (trainingFailure p c s).shu = s.shu := by
  unfold trainingFailure
  (try dsimp only)
  repeat' split
  all_goals simp

@[simp] theorem trainingFailure_clt (s : State) (p : PortId) (c : FailCause) : (trainingFailure p c s).clt = s.clt := by
  unfold trainingFailure
  (try dsimp only)
  repeat' split
  all_goals simp

@[simp] theorem trainingFailure_msu (s : State) (p : PortId) (c : FailCause) : (trainingFailure p c s).msu = s.msu := by
  unfold trainingFailure
  (try dsimp only)
  repeat' split
  all_goals simp

@[simp] theorem trainingFailure_smn (s : State) (p : PortId) (c : FailCause) : (trainingFailure p c s).smn = s.smn := by
  unfold trainingFailure
  (try dsimp only)
  repeat' split
  all_goals simp

@[simp] theorem trainingFailure_pending (s : State) (p : PortId) (c : FailCause) : (trainingFailure p c s).pending = s.pending := by
  unfold trainingFailure
  (try dsimp only)
  repeat' split
  all_goals simp

@[simp] theorem retrainPort_pins (s : State) (p : PortId) : (retrainPort p s).pins = s.pins := by
  unfold retrainPort
  (try dsimp only)
  repeat' split
  all_goals simp

@[simp] theorem retrainPort_relayHold (s : State) (p : PortId) : (retrainPort p s).relayHold = s.relayHold := by
  unfold retrainPort
  (try dsimp only)
  repeat' split
  all_goals simp

@[simp] theorem retrainPort_stc (s : State) (p : PortId) : (retrainPort p s).stc = s.stc := by
  unfold retrainPort
  (try dsimp only)
  repeat' split
  all_goals simp

@[simp] theorem retrainPort_cfg (s : State) (p : PortId) : (retrainPort p s).cfg = s.cfg := by
  unfold retrainPort
  (try dsimp only)
  repeat' split
  all_goals simp

@[simp] theorem retrainPort_bau (s : State) (p : PortId) : (retrainPort p s).bau = s.bau := by
  unfold retrainPort
  (try dsimp only)
  repeat' split
  all_goals simp

@[simp] theorem retrainPort_shu (s : State) (p : PortId) : (retrainPort p s).shu = s.shu := by
  unfold retrainPort
  (try dsimp only)
  repeat' split
  all_goals simp

@[simp] theorem retrainPort_clt (s : State) (p : PortId) : (retrainPort p s).clt = s.clt := by
  unfold retrainPort
  (try dsimp only)
  repeat' split
  all_goals simp

@[simp] theorem retrainPort_tsq (s : State) (p : PortId) : (retrainPort p s).tsq = s.tsq := by
  unfold retrainPort
  (try dsimp only)
  repeat' split
  all_goals simp

@[simp] theorem retrainPort_msu (s : State) (p : PortId) : (retrainPort p s).msu = s.msu := by
  unfold retrainPort
  (try dsimp only)
  repeat' split
  all_goals simp

@[simp] theorem retrainPort_smn (s : State) (p : PortId) : (retrainPort p s).smn = s.smn := by
  unfold retrainPort
  (try dsimp only)
  repeat' split
  all_goals simp

@[simp] theorem retrainPort_pending (s : State) (p : PortId) : (retrainPort p s).pending = s.pending := by
  unfold retrainPort
  (try dsimp only)
  repeat' split
  all_goals simp

@[simp] theorem claimEntered_pins (s : State) (b : BinderId) : (claimEntered b s).pins = s.pins := by
  unfold claimEntered
  exact forPorts_keeps (·.pins) _ (fun p t => by split <;> simp) _ _

@[simp] theorem claimEntered_relayHold (s : State) (b : BinderId) : (claimEntered b s).relayHold = s.relayHold := by
  unfold claimEntered
  exact forPorts_keeps (·.relayHold) _ (fun p t => by split <;> simp) _ _

@[simp] theorem claimEntered_stc (s : State) (b : BinderId) : (claimEntered b s).stc = s.stc := by
  unfold claimEntered
  exact forPorts_keeps (·.stc) _ (fun p t => by split <;> simp) _ _

@[simp] theorem claimEntered_cfg (s : State) (b : BinderId) : (claimEntered b s).cfg = s.cfg := by
  unfold claimEntered
  exact forPorts_keeps (·.cfg) _ (fun p t => by split <;> simp) _ _

@[simp] theorem claimEntered_bau (s : State) (b : BinderId) : (claimEntered b s).bau = s.bau := by
  unfold claimEntered
  exact forPorts_keeps (·.bau) _ (fun p t => by split <;> simp) _ _

@[simp] theorem claimEntered_shu (s : State) (b : BinderId) : (claimEntered b s).shu = s.shu := by
  unfold claimEntered
  exact forPorts_keeps (·.shu) _ (fun p t => by split <;> simp) _ _

@[simp] theorem claimEntered_clt (s : State) (b : BinderId) : (claimEntered b s).clt = s.clt := by
  unfold claimEntered
  exact forPorts_keeps (·.clt) _ (fun p t => by split <;> simp) _ _

@[simp] theorem claimEntered_tsq (s : State) (b : BinderId) : (claimEntered b s).tsq = s.tsq := by
  unfold claimEntered
  exact forPorts_keeps (·.tsq) _ (fun p t => by split <;> simp) _ _

@[simp] theorem claimEntered_msu (s : State) (b : BinderId) : (claimEntered b s).msu = s.msu := by
  unfold claimEntered
  exact forPorts_keeps (·.msu) _ (fun p t => by split <;> simp) _ _

@[simp] theorem claimEntered_smn (s : State) (b : BinderId) : (claimEntered b s).smn = s.smn := by
  unfold claimEntered
  exact forPorts_keeps (·.smn) _ (fun p t => by split <;> simp) _ _

@[simp] theorem claimEntered_pending (s : State) (b : BinderId) : (claimEntered b s).pending = s.pending := by
  unfold claimEntered
  exact forPorts_keeps (·.pending) _ (fun p t => by split <;> simp) _ _

@[simp] theorem claimFreed_pins (s : State) (b : BinderId) : (claimFreed b s).pins = s.pins := by
  unfold claimFreed
  exact forPorts_keeps (·.pins) _ (fun p t => by split <;> simp) _ _

@[simp] theorem claimFreed_relayHold (s : State) (b : BinderId) : (claimFreed b s).relayHold = s.relayHold := by
  unfold claimFreed
  exact forPorts_keeps (·.relayHold) _ (fun p t => by split <;> simp) _ _

@[simp] theorem claimFreed_stc (s : State) (b : BinderId) : (claimFreed b s).stc = s.stc := by
  unfold claimFreed
  exact forPorts_keeps (·.stc) _ (fun p t => by split <;> simp) _ _

@[simp] theorem claimFreed_cfg (s : State) (b : BinderId) : (claimFreed b s).cfg = s.cfg := by
  unfold claimFreed
  exact forPorts_keeps (·.cfg) _ (fun p t => by split <;> simp) _ _

@[simp] theorem claimFreed_bau (s : State) (b : BinderId) : (claimFreed b s).bau = s.bau := by
  unfold claimFreed
  exact forPorts_keeps (·.bau) _ (fun p t => by split <;> simp) _ _

@[simp] theorem claimFreed_shu (s : State) (b : BinderId) : (claimFreed b s).shu = s.shu := by
  unfold claimFreed
  exact forPorts_keeps (·.shu) _ (fun p t => by split <;> simp) _ _

@[simp] theorem claimFreed_clt (s : State) (b : BinderId) : (claimFreed b s).clt = s.clt := by
  unfold claimFreed
  exact forPorts_keeps (·.clt) _ (fun p t => by split <;> simp) _ _

@[simp] theorem claimFreed_tsq (s : State) (b : BinderId) : (claimFreed b s).tsq = s.tsq := by
  unfold claimFreed
  exact forPorts_keeps (·.tsq) _ (fun p t => by split <;> simp) _ _

@[simp] theorem claimFreed_msu (s : State) (b : BinderId) : (claimFreed b s).msu = s.msu := by
  unfold claimFreed
  exact forPorts_keeps (·.msu) _ (fun p t => by split <;> simp) _ _

@[simp] theorem claimFreed_smn (s : State) (b : BinderId) : (claimFreed b s).smn = s.smn := by
  unfold claimFreed
  exact forPorts_keeps (·.smn) _ (fun p t => by split <;> simp) _ _

@[simp] theorem claimFreed_pending (s : State) (b : BinderId) : (claimFreed b s).pending = s.pending := by
  unfold claimFreed
  exact forPorts_keeps (·.pending) _ (fun p t => by split <;> simp) _ _

@[simp] theorem setWakeWatch_pins (s : State) (w : Bool) (p : PortId) : (setWakeWatch w p s).pins = s.pins := by
  unfold setWakeWatch
  (try dsimp only)
  repeat' split
  all_goals simp

@[simp] theorem setWakeWatch_relayHold (s : State) (w : Bool) (p : PortId) : (setWakeWatch w p s).relayHold = s.relayHold := by
  unfold setWakeWatch
  (try dsimp only)
  repeat' split
  all_goals simp

@[simp] theorem setWakeWatch_stc (s : State) (w : Bool) (p : PortId) : (setWakeWatch w p s).stc = s.stc := by
  unfold setWakeWatch
  (try dsimp only)
  repeat' split
  all_goals simp

@[simp] theorem setWakeWatch_cfg (s : State) (w : Bool) (p : PortId) : (setWakeWatch w p s).cfg = s.cfg := by
  unfold setWakeWatch
  (try dsimp only)
  repeat' split
  all_goals simp

@[simp] theorem setWakeWatch_fst (s : State) (w : Bool) (p : PortId) : (setWakeWatch w p s).fst = s.fst := by
  unfold setWakeWatch
  (try dsimp only)
  repeat' split
  all_goals simp

@[simp] theorem setWakeWatch_bau (s : State) (w : Bool) (p : PortId) : (setWakeWatch w p s).bau = s.bau := by
  unfold setWakeWatch
  (try dsimp only)
  repeat' split
  all_goals simp

@[simp] theorem setWakeWatch_shu (s : State) (w : Bool) (p : PortId) : (setWakeWatch w p s).shu = s.shu := by
  unfold setWakeWatch
  (try dsimp only)
  repeat' split
  all_goals simp

@[simp] theorem setWakeWatch_usc (s : State) (w : Bool) (p : PortId) : (setWakeWatch w p s).usc = s.usc := by
  unfold setWakeWatch
  (try dsimp only)
  repeat' split
  all_goals simp

@[simp] theorem setWakeWatch_clt (s : State) (w : Bool) (p : PortId) : (setWakeWatch w p s).clt = s.clt := by
  unfold setWakeWatch
  (try dsimp only)
  repeat' split
  all_goals simp

@[simp] theorem setWakeWatch_tsq (s : State) (w : Bool) (p : PortId) : (setWakeWatch w p s).tsq = s.tsq := by
  unfold setWakeWatch
  (try dsimp only)
  repeat' split
  all_goals simp

@[simp] theorem setWakeWatch_msu (s : State) (w : Bool) (p : PortId) : (setWakeWatch w p s).msu = s.msu := by
  unfold setWakeWatch
  (try dsimp only)
  repeat' split
  all_goals simp

@[simp] theorem setWakeWatch_smn (s : State) (w : Bool) (p : PortId) : (setWakeWatch w p s).smn = s.smn := by
  unfold setWakeWatch
  (try dsimp only)
  repeat' split
  all_goals simp

@[simp] theorem setWakeWatch_mga (s : State) (w : Bool) (p : PortId) : (setWakeWatch w p s).mga = s.mga := by
  unfold setWakeWatch
  (try dsimp only)
  repeat' split
  all_goals simp

@[simp] theorem setWakeWatch_pending (s : State) (w : Bool) (p : PortId) : (setWakeWatch w p s).pending = s.pending := by
  unfold setWakeWatch
  (try dsimp only)
  repeat' split
  all_goals simp

@[simp] theorem shedForLow_pins (s : State) (p : PortId) : (shedForLow p s).pins = s.pins := by
  unfold shedForLow
  (try dsimp only)
  repeat' split
  all_goals simp

@[simp] theorem shedForLow_relayHold (s : State) (p : PortId) : (shedForLow p s).relayHold = s.relayHold := by
  unfold shedForLow
  (try dsimp only)
  repeat' split
  all_goals simp

@[simp] theorem shedForLow_stc (s : State) (p : PortId) : (shedForLow p s).stc = s.stc := by
  unfold shedForLow
  (try dsimp only)
  repeat' split
  all_goals simp

@[simp] theorem shedForLow_cfg (s : State) (p : PortId) : (shedForLow p s).cfg = s.cfg := by
  unfold shedForLow
  (try dsimp only)
  repeat' split
  all_goals simp

@[simp] theorem shedForLow_bau (s : State) (p : PortId) : (shedForLow p s).bau = s.bau := by
  unfold shedForLow
  (try dsimp only)
  repeat' split
  all_goals simp

@[simp] theorem shedForLow_shu (s : State) (p : PortId) : (shedForLow p s).shu = s.shu := by
  unfold shedForLow
  (try dsimp only)
  repeat' split
  all_goals simp

@[simp] theorem shedForLow_clt (s : State) (p : PortId) : (shedForLow p s).clt = s.clt := by
  unfold shedForLow
  (try dsimp only)
  repeat' split
  all_goals simp

@[simp] theorem shedForLow_tsq (s : State) (p : PortId) : (shedForLow p s).tsq = s.tsq := by
  unfold shedForLow
  (try dsimp only)
  repeat' split
  all_goals simp

@[simp] theorem shedForLow_msu (s : State) (p : PortId) : (shedForLow p s).msu = s.msu := by
  unfold shedForLow
  (try dsimp only)
  repeat' split
  all_goals simp

@[simp] theorem shedForLow_smn (s : State) (p : PortId) : (shedForLow p s).smn = s.smn := by
  unfold shedForLow
  (try dsimp only)
  repeat' split
  all_goals simp

@[simp] theorem shedForLow_pending (s : State) (p : PortId) : (shedForLow p s).pending = s.pending := by
  unfold shedForLow
  (try dsimp only)
  repeat' split
  all_goals simp

@[simp] theorem shedForCritical_pins (s : State) (p : PortId) : (shedForCritical p s).pins = s.pins := by
  unfold shedForCritical
  (try dsimp only)
  repeat' split
  all_goals simp

@[simp] theorem shedForCritical_relayHold (s : State) (p : PortId) : (shedForCritical p s).relayHold = s.relayHold := by
  unfold shedForCritical
  (try dsimp only)
  repeat' split
  all_goals simp

@[simp] theorem shedForCritical_stc (s : State) (p : PortId) : (shedForCritical p s).stc = s.stc := by
  unfold shedForCritical
  (try dsimp only)
  repeat' split
  all_goals simp

@[simp] theorem shedForCritical_cfg (s : State) (p : PortId) : (shedForCritical p s).cfg = s.cfg := by
  unfold shedForCritical
  (try dsimp only)
  repeat' split
  all_goals simp

@[simp] theorem shedForCritical_bau (s : State) (p : PortId) : (shedForCritical p s).bau = s.bau := by
  unfold shedForCritical
  (try dsimp only)
  repeat' split
  all_goals simp

@[simp] theorem shedForCritical_shu (s : State) (p : PortId) : (shedForCritical p s).shu = s.shu := by
  unfold shedForCritical
  (try dsimp only)
  repeat' split
  all_goals simp

@[simp] theorem shedForCritical_clt (s : State) (p : PortId) : (shedForCritical p s).clt = s.clt := by
  unfold shedForCritical
  (try dsimp only)
  repeat' split
  all_goals simp

@[simp] theorem shedForCritical_tsq (s : State) (p : PortId) : (shedForCritical p s).tsq = s.tsq := by
  unfold shedForCritical
  (try dsimp only)
  repeat' split
  all_goals simp

@[simp] theorem shedForCritical_msu (s : State) (p : PortId) : (shedForCritical p s).msu = s.msu := by
  unfold shedForCritical
  (try dsimp only)
  repeat' split
  all_goals simp

@[simp] theorem shedForCritical_smn (s : State) (p : PortId) : (shedForCritical p s).smn = s.smn := by
  unfold shedForCritical
  (try dsimp only)
  repeat' split
  all_goals simp

@[simp] theorem shedForCritical_pending (s : State) (p : PortId) : (shedForCritical p s).pending = s.pending := by
  unfold shedForCritical
  (try dsimp only)
  repeat' split
  all_goals simp

@[simp] theorem supplyReturns_pins (s : State) (p : PortId) : (supplyReturns p s).pins = s.pins := by
  unfold supplyReturns
  (try dsimp only)
  repeat' split
  all_goals simp

@[simp] theorem supplyReturns_relayHold (s : State) (p : PortId) : (supplyReturns p s).relayHold = s.relayHold := by
  unfold supplyReturns
  (try dsimp only)
  repeat' split
  all_goals simp

@[simp] theorem supplyReturns_stc (s : State) (p : PortId) : (supplyReturns p s).stc = s.stc := by
  unfold supplyReturns
  (try dsimp only)
  repeat' split
  all_goals simp

@[simp] theorem supplyReturns_cfg (s : State) (p : PortId) : (supplyReturns p s).cfg = s.cfg := by
  unfold supplyReturns
  (try dsimp only)
  repeat' split
  all_goals simp

@[simp] theorem supplyReturns_bau (s : State) (p : PortId) : (supplyReturns p s).bau = s.bau := by
  unfold supplyReturns
  (try dsimp only)
  repeat' split
  all_goals simp

@[simp] theorem supplyReturns_shu (s : State) (p : PortId) : (supplyReturns p s).shu = s.shu := by
  unfold supplyReturns
  (try dsimp only)
  repeat' split
  all_goals simp

@[simp] theorem supplyReturns_clt (s : State) (p : PortId) : (supplyReturns p s).clt = s.clt := by
  unfold supplyReturns
  (try dsimp only)
  repeat' split
  all_goals simp

@[simp] theorem supplyReturns_tsq (s : State) (p : PortId) : (supplyReturns p s).tsq = s.tsq := by
  unfold supplyReturns
  (try dsimp only)
  repeat' split
  all_goals simp

@[simp] theorem supplyReturns_msu (s : State) (p : PortId) : (supplyReturns p s).msu = s.msu := by
  unfold supplyReturns
  (try dsimp only)
  repeat' split
  all_goals simp

@[simp] theorem supplyReturns_smn (s : State) (p : PortId) : (supplyReturns p s).smn = s.smn := by
  unfold supplyReturns
  (try dsimp only)
  repeat' split
  all_goals simp

@[simp] theorem supplyReturns_pending (s : State) (p : PortId) : (supplyReturns p s).pending = s.pending := by
  unfold supplyReturns
  (try dsimp only)
  repeat' split
  all_goals simp

@[simp] theorem lsvSupply_pins (s : State) (n : Supply) : (lsvSupply n s).pins = s.pins := by
  unfold lsvSupply
  split
  · exact forPorts_keeps (·.pins) _ (fun p t => shedForLow_pins t p) _ _
  · exact forPorts_keeps (·.pins) _ (fun p t => shedForCritical_pins t p) _ _
  · exact forPorts_keeps (·.pins) _ (fun p t => supplyReturns_pins t p) _ _
  · exact forPorts_keeps (·.pins) _ (fun p t => supplyReturns_pins t p) _ _

@[simp] theorem lsvSupply_relayHold (s : State) (n : Supply) : (lsvSupply n s).relayHold = s.relayHold := by
  unfold lsvSupply
  split
  · exact forPorts_keeps (·.relayHold) _ (fun p t => shedForLow_relayHold t p) _ _
  · exact forPorts_keeps (·.relayHold) _ (fun p t => shedForCritical_relayHold t p) _ _
  · exact forPorts_keeps (·.relayHold) _ (fun p t => supplyReturns_relayHold t p) _ _
  · exact forPorts_keeps (·.relayHold) _ (fun p t => supplyReturns_relayHold t p) _ _

@[simp] theorem lsvSupply_stc (s : State) (n : Supply) : (lsvSupply n s).stc = s.stc := by
  unfold lsvSupply
  split
  · exact forPorts_keeps (·.stc) _ (fun p t => shedForLow_stc t p) _ _
  · exact forPorts_keeps (·.stc) _ (fun p t => shedForCritical_stc t p) _ _
  · exact forPorts_keeps (·.stc) _ (fun p t => supplyReturns_stc t p) _ _
  · exact forPorts_keeps (·.stc) _ (fun p t => supplyReturns_stc t p) _ _

@[simp] theorem lsvSupply_cfg (s : State) (n : Supply) : (lsvSupply n s).cfg = s.cfg := by
  unfold lsvSupply
  split
  · exact forPorts_keeps (·.cfg) _ (fun p t => shedForLow_cfg t p) _ _
  · exact forPorts_keeps (·.cfg) _ (fun p t => shedForCritical_cfg t p) _ _
  · exact forPorts_keeps (·.cfg) _ (fun p t => supplyReturns_cfg t p) _ _
  · exact forPorts_keeps (·.cfg) _ (fun p t => supplyReturns_cfg t p) _ _

@[simp] theorem lsvSupply_bau (s : State) (n : Supply) : (lsvSupply n s).bau = s.bau := by
  unfold lsvSupply
  split
  · exact forPorts_keeps (·.bau) _ (fun p t => shedForLow_bau t p) _ _
  · exact forPorts_keeps (·.bau) _ (fun p t => shedForCritical_bau t p) _ _
  · exact forPorts_keeps (·.bau) _ (fun p t => supplyReturns_bau t p) _ _
  · exact forPorts_keeps (·.bau) _ (fun p t => supplyReturns_bau t p) _ _

@[simp] theorem lsvSupply_shu (s : State) (n : Supply) : (lsvSupply n s).shu = s.shu := by
  unfold lsvSupply
  split
  · exact forPorts_keeps (·.shu) _ (fun p t => shedForLow_shu t p) _ _
  · exact forPorts_keeps (·.shu) _ (fun p t => shedForCritical_shu t p) _ _
  · exact forPorts_keeps (·.shu) _ (fun p t => supplyReturns_shu t p) _ _
  · exact forPorts_keeps (·.shu) _ (fun p t => supplyReturns_shu t p) _ _

@[simp] theorem lsvSupply_clt (s : State) (n : Supply) : (lsvSupply n s).clt = s.clt := by
  unfold lsvSupply
  split
  · exact forPorts_keeps (·.clt) _ (fun p t => shedForLow_clt t p) _ _
  · exact forPorts_keeps (·.clt) _ (fun p t => shedForCritical_clt t p) _ _
  · exact forPorts_keeps (·.clt) _ (fun p t => supplyReturns_clt t p) _ _
  · exact forPorts_keeps (·.clt) _ (fun p t => supplyReturns_clt t p) _ _

@[simp] theorem lsvSupply_tsq (s : State) (n : Supply) : (lsvSupply n s).tsq = s.tsq := by
  unfold lsvSupply
  split
  · exact forPorts_keeps (·.tsq) _ (fun p t => shedForLow_tsq t p) _ _
  · exact forPorts_keeps (·.tsq) _ (fun p t => shedForCritical_tsq t p) _ _
  · exact forPorts_keeps (·.tsq) _ (fun p t => supplyReturns_tsq t p) _ _
  · exact forPorts_keeps (·.tsq) _ (fun p t => supplyReturns_tsq t p) _ _

@[simp] theorem lsvSupply_msu (s : State) (n : Supply) : (lsvSupply n s).msu = s.msu := by
  unfold lsvSupply
  split
  · exact forPorts_keeps (·.msu) _ (fun p t => shedForLow_msu t p) _ _
  · exact forPorts_keeps (·.msu) _ (fun p t => shedForCritical_msu t p) _ _
  · exact forPorts_keeps (·.msu) _ (fun p t => supplyReturns_msu t p) _ _
  · exact forPorts_keeps (·.msu) _ (fun p t => supplyReturns_msu t p) _ _

@[simp] theorem lsvSupply_smn (s : State) (n : Supply) : (lsvSupply n s).smn = s.smn := by
  unfold lsvSupply
  split
  · exact forPorts_keeps (·.smn) _ (fun p t => shedForLow_smn t p) _ _
  · exact forPorts_keeps (·.smn) _ (fun p t => shedForCritical_smn t p) _ _
  · exact forPorts_keeps (·.smn) _ (fun p t => supplyReturns_smn t p) _ _
  · exact forPorts_keeps (·.smn) _ (fun p t => supplyReturns_smn t p) _ _

@[simp] theorem lsvSupply_pending (s : State) (n : Supply) : (lsvSupply n s).pending = s.pending := by
  unfold lsvSupply
  split
  · exact forPorts_keeps (·.pending) _ (fun p t => shedForLow_pending t p) _ _
  · exact forPorts_keeps (·.pending) _ (fun p t => shedForCritical_pending t p) _ _
  · exact forPorts_keeps (·.pending) _ (fun p t => supplyReturns_pending t p) _ _
  · exact forPorts_keeps (·.pending) _ (fun p t => supplyReturns_pending t p) _ _

@[simp] theorem setClaim_pins (s : State) (b : BinderId) (e : ClaimEntry) : (setClaim b e s).pins = s.pins := by
  unfold setClaim
  (try dsimp only)
  repeat' split
  all_goals simp

@[simp] theorem setClaim_relayHold (s : State) (b : BinderId) (e : ClaimEntry) : (setClaim b e s).relayHold = s.relayHold := by
  unfold setClaim
  (try dsimp only)
  repeat' split
  all_goals simp

@[simp] theorem setClaim_stc (s : State) (b : BinderId) (e : ClaimEntry) : (setClaim b e s).stc = s.stc := by
  unfold setClaim
  (try dsimp only)
  repeat' split
  all_goals simp

@[simp] theorem setClaim_cfg (s : State) (b : BinderId) (e : ClaimEntry) : (setClaim b e s).cfg = s.cfg := by
  unfold setClaim
  (try dsimp only)
  repeat' split
  all_goals simp

@[simp] theorem setClaim_bau (s : State) (b : BinderId) (e : ClaimEntry) : (setClaim b e s).bau = s.bau := by
  unfold setClaim
  (try dsimp only)
  repeat' split
  all_goals simp

@[simp] theorem setClaim_shu (s : State) (b : BinderId) (e : ClaimEntry) : (setClaim b e s).shu = s.shu := by
  unfold setClaim
  (try dsimp only)
  repeat' split
  all_goals simp

@[simp] theorem setClaim_tsq (s : State) (b : BinderId) (e : ClaimEntry) : (setClaim b e s).tsq = s.tsq := by
  unfold setClaim
  (try dsimp only)
  repeat' split
  all_goals simp

@[simp] theorem setClaim_msu (s : State) (b : BinderId) (e : ClaimEntry) : (setClaim b e s).msu = s.msu := by
  unfold setClaim
  (try dsimp only)
  repeat' split
  all_goals simp

@[simp] theorem setClaim_smn (s : State) (b : BinderId) (e : ClaimEntry) : (setClaim b e s).smn = s.smn := by
  unfold setClaim
  (try dsimp only)
  repeat' split
  all_goals simp

@[simp] theorem setClaim_pending (s : State) (b : BinderId) (e : ClaimEntry) : (setClaim b e s).pending = s.pending := by
  unfold setClaim
  (try dsimp only)
  repeat' split
  all_goals simp

@[simp] theorem withdrawClaim_pins (s : State) (b : BinderId) : (withdrawClaim b s).pins = s.pins := by
  unfold withdrawClaim
  (try dsimp only)
  repeat' split
  all_goals simp

@[simp] theorem withdrawClaim_relayHold (s : State) (b : BinderId) : (withdrawClaim b s).relayHold = s.relayHold := by
  unfold withdrawClaim
  (try dsimp only)
  repeat' split
  all_goals simp

@[simp] theorem withdrawClaim_stc (s : State) (b : BinderId) : (withdrawClaim b s).stc = s.stc := by
  unfold withdrawClaim
  (try dsimp only)
  repeat' split
  all_goals simp

@[simp] theorem withdrawClaim_cfg (s : State) (b : BinderId) : (withdrawClaim b s).cfg = s.cfg := by
  unfold withdrawClaim
  (try dsimp only)
  repeat' split
  all_goals simp

@[simp] theorem withdrawClaim_ports (s : State) (b : BinderId) : (withdrawClaim b s).ports = s.ports := by
  unfold withdrawClaim
  (try dsimp only)
  repeat' split
  all_goals simp

@[simp] theorem withdrawClaim_fst (s : State) (b : BinderId) : (withdrawClaim b s).fst = s.fst := by
  unfold withdrawClaim
  (try dsimp only)
  repeat' split
  all_goals simp

@[simp] theorem withdrawClaim_shu (s : State) (b : BinderId) : (withdrawClaim b s).shu = s.shu := by
  unfold withdrawClaim
  (try dsimp only)
  repeat' split
  all_goals simp

@[simp] theorem withdrawClaim_usc (s : State) (b : BinderId) : (withdrawClaim b s).usc = s.usc := by
  unfold withdrawClaim
  (try dsimp only)
  repeat' split
  all_goals simp

@[simp] theorem withdrawClaim_tsq (s : State) (b : BinderId) : (withdrawClaim b s).tsq = s.tsq := by
  unfold withdrawClaim
  (try dsimp only)
  repeat' split
  all_goals simp

@[simp] theorem withdrawClaim_msu (s : State) (b : BinderId) : (withdrawClaim b s).msu = s.msu := by
  unfold withdrawClaim
  (try dsimp only)
  repeat' split
  all_goals simp

@[simp] theorem withdrawClaim_smn (s : State) (b : BinderId) : (withdrawClaim b s).smn = s.smn := by
  unfold withdrawClaim
  (try dsimp only)
  repeat' split
  all_goals simp

@[simp] theorem withdrawClaim_mga (s : State) (b : BinderId) : (withdrawClaim b s).mga = s.mga := by
  unfold withdrawClaim
  (try dsimp only)
  repeat' split
  all_goals simp

@[simp] theorem withdrawClaim_pending (s : State) (b : BinderId) : (withdrawClaim b s).pending = s.pending := by
  unfold withdrawClaim
  (try dsimp only)
  repeat' split
  all_goals simp

@[simp] theorem noteClash_pins (s : State) : (noteClash s).pins = s.pins := by
  unfold noteClash
  (try dsimp only)
  repeat' split
  all_goals simp

@[simp] theorem noteClash_relayHold (s : State) : (noteClash s).relayHold = s.relayHold := by
  unfold noteClash
  (try dsimp only)
  repeat' split
  all_goals simp

@[simp] theorem noteClash_stc (s : State) : (noteClash s).stc = s.stc := by
  unfold noteClash
  (try dsimp only)
  repeat' split
  all_goals simp

@[simp] theorem noteClash_cfg (s : State) : (noteClash s).cfg = s.cfg := by
  unfold noteClash
  (try dsimp only)
  repeat' split
  all_goals simp

@[simp] theorem noteClash_ports (s : State) : (noteClash s).ports = s.ports := by
  unfold noteClash
  (try dsimp only)
  repeat' split
  all_goals simp

@[simp] theorem noteClash_bau (s : State) : (noteClash s).bau = s.bau := by
  unfold noteClash
  (try dsimp only)
  repeat' split
  all_goals simp

@[simp] theorem noteClash_shu (s : State) : (noteClash s).shu = s.shu := by
  unfold noteClash
  (try dsimp only)
  repeat' split
  all_goals simp

@[simp] theorem noteClash_usc (s : State) : (noteClash s).usc = s.usc := by
  unfold noteClash
  (try dsimp only)
  repeat' split
  all_goals simp

@[simp] theorem noteClash_clt (s : State) : (noteClash s).clt = s.clt := by
  unfold noteClash
  (try dsimp only)
  repeat' split
  all_goals simp

@[simp] theorem noteClash_tsq (s : State) : (noteClash s).tsq = s.tsq := by
  unfold noteClash
  (try dsimp only)
  repeat' split
  all_goals simp

@[simp] theorem noteClash_msu (s : State) : (noteClash s).msu = s.msu := by
  unfold noteClash
  (try dsimp only)
  repeat' split
  all_goals simp

@[simp] theorem noteClash_smn (s : State) : (noteClash s).smn = s.smn := by
  unfold noteClash
  (try dsimp only)
  repeat' split
  all_goals simp

@[simp] theorem noteClash_pending (s : State) : (noteClash s).pending = s.pending := by
  unfold noteClash
  (try dsimp only)
  repeat' split
  all_goals simp

@[simp] theorem takeRelease_pins (s : State) (y : StationId) (b : BinderId) : (takeRelease y b s).pins = s.pins := by
  unfold takeRelease
  (try dsimp only)
  repeat' split
  all_goals simp

@[simp] theorem takeRelease_relayHold (s : State) (y : StationId) (b : BinderId) : (takeRelease y b s).relayHold = s.relayHold := by
  unfold takeRelease
  (try dsimp only)
  repeat' split
  all_goals simp

@[simp] theorem takeRelease_stc (s : State) (y : StationId) (b : BinderId) : (takeRelease y b s).stc = s.stc := by
  unfold takeRelease
  (try dsimp only)
  repeat' split
  all_goals simp

@[simp] theorem takeRelease_cfg (s : State) (y : StationId) (b : BinderId) : (takeRelease y b s).cfg = s.cfg := by
  unfold takeRelease
  (try dsimp only)
  repeat' split
  all_goals simp

@[simp] theorem takeRelease_bau (s : State) (y : StationId) (b : BinderId) : (takeRelease y b s).bau = s.bau := by
  unfold takeRelease
  (try dsimp only)
  repeat' split
  all_goals simp

@[simp] theorem takeRelease_shu (s : State) (y : StationId) (b : BinderId) : (takeRelease y b s).shu = s.shu := by
  unfold takeRelease
  (try dsimp only)
  repeat' split
  all_goals simp

@[simp] theorem takeRelease_tsq (s : State) (y : StationId) (b : BinderId) : (takeRelease y b s).tsq = s.tsq := by
  unfold takeRelease
  (try dsimp only)
  repeat' split
  all_goals simp

@[simp] theorem takeRelease_msu (s : State) (y : StationId) (b : BinderId) : (takeRelease y b s).msu = s.msu := by
  unfold takeRelease
  (try dsimp only)
  repeat' split
  all_goals simp

@[simp] theorem takeRelease_smn (s : State) (y : StationId) (b : BinderId) : (takeRelease y b s).smn = s.smn := by
  unfold takeRelease
  (try dsimp only)
  repeat' split
  all_goals simp

@[simp] theorem takeRelease_pending (s : State) (y : StationId) (b : BinderId) : (takeRelease y b s).pending = s.pending := by
  unfold takeRelease
  (try dsimp only)
  repeat' split
  all_goals simp

@[simp] theorem expireClaim_pins (s : State) (b : BinderId) : (expireClaim b s).pins = s.pins := by
  unfold expireClaim
  (try dsimp only)
  repeat' split
  all_goals simp

@[simp] theorem expireClaim_relayHold (s : State) (b : BinderId) : (expireClaim b s).relayHold = s.relayHold := by
  unfold expireClaim
  (try dsimp only)
  repeat' split
  all_goals simp

@[simp] theorem expireClaim_stc (s : State) (b : BinderId) : (expireClaim b s).stc = s.stc := by
  unfold expireClaim
  (try dsimp only)
  repeat' split
  all_goals simp

@[simp] theorem expireClaim_cfg (s : State) (b : BinderId) : (expireClaim b s).cfg = s.cfg := by
  unfold expireClaim
  (try dsimp only)
  repeat' split
  all_goals simp

@[simp] theorem expireClaim_bau (s : State) (b : BinderId) : (expireClaim b s).bau = s.bau := by
  unfold expireClaim
  (try dsimp only)
  repeat' split
  all_goals simp

@[simp] theorem expireClaim_shu (s : State) (b : BinderId) : (expireClaim b s).shu = s.shu := by
  unfold expireClaim
  (try dsimp only)
  repeat' split
  all_goals simp

@[simp] theorem expireClaim_tsq (s : State) (b : BinderId) : (expireClaim b s).tsq = s.tsq := by
  unfold expireClaim
  (try dsimp only)
  repeat' split
  all_goals simp

@[simp] theorem expireClaim_msu (s : State) (b : BinderId) : (expireClaim b s).msu = s.msu := by
  unfold expireClaim
  (try dsimp only)
  repeat' split
  all_goals simp

@[simp] theorem expireClaim_smn (s : State) (b : BinderId) : (expireClaim b s).smn = s.smn := by
  unfold expireClaim
  (try dsimp only)
  repeat' split
  all_goals simp

@[simp] theorem expireClaim_pending (s : State) (b : BinderId) : (expireClaim b s).pending = s.pending := by
  unfold expireClaim
  (try dsimp only)
  repeat' split
  all_goals simp

@[simp] theorem idleTick_pins (s : State) : (idleTick s).pins = s.pins := by
  unfold idleTick
  dsimp only
  generalize allBinders = bs
  exact fold_keeps (·.pins) (fun u b => expireClaim b u) (fun b s => expireClaim_pins s b) bs s

@[simp] theorem idleTick_relayHold (s : State) : (idleTick s).relayHold = s.relayHold := by
  unfold idleTick
  dsimp only
  generalize allBinders = bs
  exact fold_keeps (·.relayHold) (fun u b => expireClaim b u) (fun b s => expireClaim_relayHold s b) bs s

@[simp] theorem idleTick_stc (s : State) : (idleTick s).stc = s.stc := by
  unfold idleTick
  dsimp only
  generalize allBinders = bs
  exact fold_keeps (·.stc) (fun u b => expireClaim b u) (fun b s => expireClaim_stc s b) bs s

@[simp] theorem idleTick_cfg (s : State) : (idleTick s).cfg = s.cfg := by
  unfold idleTick
  dsimp only
  generalize allBinders = bs
  exact fold_keeps (·.cfg) (fun u b => expireClaim b u) (fun b s => expireClaim_cfg s b) bs s

@[simp] theorem idleTick_bau (s : State) : (idleTick s).bau = s.bau := by
  unfold idleTick
  dsimp only
  generalize allBinders = bs
  exact fold_keeps (·.bau) (fun u b => expireClaim b u) (fun b s => expireClaim_bau s b) bs s

@[simp] theorem idleTick_shu (s : State) : (idleTick s).shu = s.shu := by
  unfold idleTick
  dsimp only
  generalize allBinders = bs
  exact fold_keeps (·.shu) (fun u b => expireClaim b u) (fun b s => expireClaim_shu s b) bs s

@[simp] theorem idleTick_tsq (s : State) : (idleTick s).tsq = s.tsq := by
  unfold idleTick
  dsimp only
  generalize allBinders = bs
  exact fold_keeps (·.tsq) (fun u b => expireClaim b u) (fun b s => expireClaim_tsq s b) bs s

@[simp] theorem idleTick_msu (s : State) : (idleTick s).msu = s.msu := by
  unfold idleTick
  dsimp only
  generalize allBinders = bs
  exact fold_keeps (·.msu) (fun u b => expireClaim b u) (fun b s => expireClaim_msu s b) bs s

@[simp] theorem idleTick_smn (s : State) : (idleTick s).smn = s.smn := by
  unfold idleTick
  dsimp only
  generalize allBinders = bs
  exact fold_keeps (·.smn) (fun u b => expireClaim b u) (fun b s => expireClaim_smn s b) bs s

@[simp] theorem idleTick_pending (s : State) : (idleTick s).pending = s.pending := by
  unfold idleTick
  dsimp only
  generalize allBinders = bs
  exact fold_keeps (·.pending) (fun u b => expireClaim b u) (fun b s => expireClaim_pending s b) bs s

@[simp] theorem renewalExpires_pins (s : State) : (renewalExpires s).pins = s.pins := by
  unfold renewalExpires
  (try dsimp only)
  repeat' split
  all_goals simp

@[simp] theorem renewalExpires_relayHold (s : State) : (renewalExpires s).relayHold = s.relayHold := by
  unfold renewalExpires
  (try dsimp only)
  repeat' split
  all_goals simp

@[simp] theorem renewalExpires_stc (s : State) : (renewalExpires s).stc = s.stc := by
  unfold renewalExpires
  (try dsimp only)
  repeat' split
  all_goals simp

@[simp] theorem renewalExpires_cfg (s : State) : (renewalExpires s).cfg = s.cfg := by
  unfold renewalExpires
  (try dsimp only)
  repeat' split
  all_goals simp

@[simp] theorem renewalExpires_ports (s : State) : (renewalExpires s).ports = s.ports := by
  unfold renewalExpires
  (try dsimp only)
  repeat' split
  all_goals simp

@[simp] theorem renewalExpires_fst (s : State) : (renewalExpires s).fst = s.fst := by
  unfold renewalExpires
  (try dsimp only)
  repeat' split
  all_goals simp

@[simp] theorem renewalExpires_shu (s : State) : (renewalExpires s).shu = s.shu := by
  unfold renewalExpires
  (try dsimp only)
  repeat' split
  all_goals simp

@[simp] theorem renewalExpires_usc (s : State) : (renewalExpires s).usc = s.usc := by
  unfold renewalExpires
  (try dsimp only)
  repeat' split
  all_goals simp

@[simp] theorem renewalExpires_clt (s : State) : (renewalExpires s).clt = s.clt := by
  unfold renewalExpires
  (try dsimp only)
  repeat' split
  all_goals simp

@[simp] theorem renewalExpires_tsq (s : State) : (renewalExpires s).tsq = s.tsq := by
  unfold renewalExpires
  (try dsimp only)
  repeat' split
  all_goals simp

@[simp] theorem renewalExpires_msu (s : State) : (renewalExpires s).msu = s.msu := by
  unfold renewalExpires
  (try dsimp only)
  repeat' split
  all_goals simp

@[simp] theorem renewalExpires_smn (s : State) : (renewalExpires s).smn = s.smn := by
  unfold renewalExpires
  (try dsimp only)
  repeat' split
  all_goals simp

@[simp] theorem renewalExpires_mga (s : State) : (renewalExpires s).mga = s.mga := by
  unfold renewalExpires
  (try dsimp only)
  repeat' split
  all_goals simp

@[simp] theorem renewalExpires_pending (s : State) : (renewalExpires s).pending = s.pending := by
  unfold renewalExpires
  (try dsimp only)
  repeat' split
  all_goals simp

@[simp] theorem giveUpClaim_pins (s : State) : (giveUpClaim s).pins = s.pins := by
  unfold giveUpClaim
  (try dsimp only)
  repeat' split
  all_goals simp

@[simp] theorem giveUpClaim_relayHold (s : State) : (giveUpClaim s).relayHold = s.relayHold := by
  unfold giveUpClaim
  (try dsimp only)
  repeat' split
  all_goals simp

@[simp] theorem giveUpClaim_stc (s : State) : (giveUpClaim s).stc = s.stc := by
  unfold giveUpClaim
  (try dsimp only)
  repeat' split
  all_goals simp

@[simp] theorem giveUpClaim_cfg (s : State) : (giveUpClaim s).cfg = s.cfg := by
  unfold giveUpClaim
  (try dsimp only)
  repeat' split
  all_goals simp

@[simp] theorem giveUpClaim_shu (s : State) : (giveUpClaim s).shu = s.shu := by
  unfold giveUpClaim
  (try dsimp only)
  repeat' split
  all_goals simp

@[simp] theorem giveUpClaim_tsq (s : State) : (giveUpClaim s).tsq = s.tsq := by
  unfold giveUpClaim
  (try dsimp only)
  repeat' split
  all_goals simp

@[simp] theorem giveUpClaim_msu (s : State) : (giveUpClaim s).msu = s.msu := by
  unfold giveUpClaim
  (try dsimp only)
  repeat' split
  all_goals simp

@[simp] theorem giveUpClaim_smn (s : State) : (giveUpClaim s).smn = s.smn := by
  unfold giveUpClaim
  (try dsimp only)
  repeat' split
  all_goals simp

@[simp] theorem giveUpClaim_pending (s : State) : (giveUpClaim s).pending = s.pending := by
  unfold giveUpClaim
  (try dsimp only)
  repeat' split
  all_goals simp

@[simp] theorem grantConverter_pins (s : State) : (grantConverter s).pins = s.pins := by
  unfold grantConverter atGrant
  repeat' split
  all_goals rfl

@[simp] theorem grantConverter_relayHold (s : State) : (grantConverter s).relayHold = s.relayHold := by
  unfold grantConverter atGrant
  repeat' split
  all_goals rfl

@[simp] theorem grantConverter_stc (s : State) : (grantConverter s).stc = s.stc := by
  unfold grantConverter atGrant
  repeat' split
  all_goals rfl

@[simp] theorem grantConverter_cfg (s : State) : (grantConverter s).cfg = s.cfg := by
  unfold grantConverter atGrant
  repeat' split
  all_goals rfl

@[simp] theorem grantConverter_ports (s : State) : (grantConverter s).ports = s.ports := by
  unfold grantConverter atGrant
  repeat' split
  all_goals rfl

@[simp] theorem grantConverter_fst (s : State) : (grantConverter s).fst = s.fst := by
  unfold grantConverter atGrant
  repeat' split
  all_goals rfl

@[simp] theorem grantConverter_bau (s : State) : (grantConverter s).bau = s.bau := by
  unfold grantConverter atGrant
  repeat' split
  all_goals rfl

@[simp] theorem grantConverter_shu (s : State) : (grantConverter s).shu = s.shu := by
  unfold grantConverter atGrant
  repeat' split
  all_goals rfl

@[simp] theorem grantConverter_usc (s : State) : (grantConverter s).usc = s.usc := by
  unfold grantConverter atGrant
  repeat' split
  all_goals rfl

@[simp] theorem grantConverter_clt (s : State) : (grantConverter s).clt = s.clt := by
  unfold grantConverter atGrant
  repeat' split
  all_goals rfl

@[simp] theorem grantConverter_tsq (s : State) : (grantConverter s).tsq = s.tsq := by
  unfold grantConverter atGrant
  repeat' split
  all_goals rfl

@[simp] theorem grantConverter_smn (s : State) : (grantConverter s).smn = s.smn := by
  unfold grantConverter atGrant
  repeat' split
  all_goals rfl

@[simp] theorem grantConverter_mga (s : State) : (grantConverter s).mga = s.mga := by
  unfold grantConverter atGrant
  repeat' split
  all_goals rfl

@[simp] theorem grantConverter_pending (s : State) : (grantConverter s).pending = s.pending := by
  unfold grantConverter atGrant
  repeat' split
  all_goals rfl

@[simp] theorem requestSupply_pins (s : State) : (requestSupply s).pins = s.pins := by
  unfold requestSupply
  (try dsimp only)
  repeat' split
  all_goals simp

@[simp] theorem requestSupply_relayHold (s : State) : (requestSupply s).relayHold = s.relayHold := by
  unfold requestSupply
  (try dsimp only)
  repeat' split
  all_goals simp

@[simp] theorem requestSupply_stc (s : State) : (requestSupply s).stc = s.stc := by
  unfold requestSupply
  (try dsimp only)
  repeat' split
  all_goals simp

@[simp] theorem requestSupply_cfg (s : State) : (requestSupply s).cfg = s.cfg := by
  unfold requestSupply
  (try dsimp only)
  repeat' split
  all_goals simp

@[simp] theorem requestSupply_ports (s : State) : (requestSupply s).ports = s.ports := by
  unfold requestSupply
  (try dsimp only)
  repeat' split
  all_goals simp

@[simp] theorem requestSupply_fst (s : State) : (requestSupply s).fst = s.fst := by
  unfold requestSupply
  (try dsimp only)
  repeat' split
  all_goals simp

@[simp] theorem requestSupply_bau (s : State) : (requestSupply s).bau = s.bau := by
  unfold requestSupply
  (try dsimp only)
  repeat' split
  all_goals simp

@[simp] theorem requestSupply_shu (s : State) : (requestSupply s).shu = s.shu := by
  unfold requestSupply
  (try dsimp only)
  repeat' split
  all_goals simp

@[simp] theorem requestSupply_usc (s : State) : (requestSupply s).usc = s.usc := by
  unfold requestSupply
  (try dsimp only)
  repeat' split
  all_goals simp

@[simp] theorem requestSupply_clt (s : State) : (requestSupply s).clt = s.clt := by
  unfold requestSupply
  (try dsimp only)
  repeat' split
  all_goals simp

@[simp] theorem requestSupply_tsq (s : State) : (requestSupply s).tsq = s.tsq := by
  unfold requestSupply
  (try dsimp only)
  repeat' split
  all_goals simp

@[simp] theorem requestSupply_smn (s : State) : (requestSupply s).smn = s.smn := by
  unfold requestSupply
  (try dsimp only)
  repeat' split
  all_goals simp

@[simp] theorem requestSupply_mga (s : State) : (requestSupply s).mga = s.mga := by
  unfold requestSupply
  (try dsimp only)
  repeat' split
  all_goals simp

@[simp] theorem requestSupply_pending (s : State) : (requestSupply s).pending = s.pending := by
  unfold requestSupply
  (try dsimp only)
  repeat' split
  all_goals simp

@[simp] theorem requestSample_pins (s : State) : (requestSample s).pins = s.pins := by
  unfold requestSample
  (try dsimp only)
  repeat' split
  all_goals simp

@[simp] theorem requestSample_relayHold (s : State) : (requestSample s).relayHold = s.relayHold := by
  unfold requestSample
  (try dsimp only)
  repeat' split
  all_goals simp

@[simp] theorem requestSample_stc (s : State) : (requestSample s).stc = s.stc := by
  unfold requestSample
  (try dsimp only)
  repeat' split
  all_goals simp

@[simp] theorem requestSample_cfg (s : State) : (requestSample s).cfg = s.cfg := by
  unfold requestSample
  (try dsimp only)
  repeat' split
  all_goals simp

@[simp] theorem requestSample_ports (s : State) : (requestSample s).ports = s.ports := by
  unfold requestSample
  (try dsimp only)
  repeat' split
  all_goals simp

@[simp] theorem requestSample_fst (s : State) : (requestSample s).fst = s.fst := by
  unfold requestSample
  (try dsimp only)
  repeat' split
  all_goals simp

@[simp] theorem requestSample_bau (s : State) : (requestSample s).bau = s.bau := by
  unfold requestSample
  (try dsimp only)
  repeat' split
  all_goals simp

@[simp] theorem requestSample_shu (s : State) : (requestSample s).shu = s.shu := by
  unfold requestSample
  (try dsimp only)
  repeat' split
  all_goals simp

@[simp] theorem requestSample_usc (s : State) : (requestSample s).usc = s.usc := by
  unfold requestSample
  (try dsimp only)
  repeat' split
  all_goals simp

@[simp] theorem requestSample_clt (s : State) : (requestSample s).clt = s.clt := by
  unfold requestSample
  (try dsimp only)
  repeat' split
  all_goals simp

@[simp] theorem requestSample_tsq (s : State) : (requestSample s).tsq = s.tsq := by
  unfold requestSample
  (try dsimp only)
  repeat' split
  all_goals simp

@[simp] theorem requestSample_mga (s : State) : (requestSample s).mga = s.mga := by
  unfold requestSample
  (try dsimp only)
  repeat' split
  all_goals simp

@[simp] theorem requestSample_pending (s : State) : (requestSample s).pending = s.pending := by
  unfold requestSample
  (try dsimp only)
  repeat' split
  all_goals simp

@[simp] theorem releaseSupply_pins (s : State) : (releaseSupply s).pins = s.pins := by
  unfold releaseSupply
  (try dsimp only)
  repeat' split
  all_goals simp

@[simp] theorem releaseSupply_relayHold (s : State) : (releaseSupply s).relayHold = s.relayHold := by
  unfold releaseSupply
  (try dsimp only)
  repeat' split
  all_goals simp

@[simp] theorem releaseSupply_stc (s : State) : (releaseSupply s).stc = s.stc := by
  unfold releaseSupply
  (try dsimp only)
  repeat' split
  all_goals simp

@[simp] theorem releaseSupply_cfg (s : State) : (releaseSupply s).cfg = s.cfg := by
  unfold releaseSupply
  (try dsimp only)
  repeat' split
  all_goals simp

@[simp] theorem releaseSupply_ports (s : State) : (releaseSupply s).ports = s.ports := by
  unfold releaseSupply
  (try dsimp only)
  repeat' split
  all_goals simp

@[simp] theorem releaseSupply_fst (s : State) : (releaseSupply s).fst = s.fst := by
  unfold releaseSupply
  (try dsimp only)
  repeat' split
  all_goals simp

@[simp] theorem releaseSupply_bau (s : State) : (releaseSupply s).bau = s.bau := by
  unfold releaseSupply
  (try dsimp only)
  repeat' split
  all_goals simp

@[simp] theorem releaseSupply_shu (s : State) : (releaseSupply s).shu = s.shu := by
  unfold releaseSupply
  (try dsimp only)
  repeat' split
  all_goals simp

@[simp] theorem releaseSupply_usc (s : State) : (releaseSupply s).usc = s.usc := by
  unfold releaseSupply
  (try dsimp only)
  repeat' split
  all_goals simp

@[simp] theorem releaseSupply_clt (s : State) : (releaseSupply s).clt = s.clt := by
  unfold releaseSupply
  (try dsimp only)
  repeat' split
  all_goals simp

@[simp] theorem releaseSupply_tsq (s : State) : (releaseSupply s).tsq = s.tsq := by
  unfold releaseSupply
  (try dsimp only)
  repeat' split
  all_goals simp

@[simp] theorem releaseSupply_smn (s : State) : (releaseSupply s).smn = s.smn := by
  unfold releaseSupply
  (try dsimp only)
  repeat' split
  all_goals simp

@[simp] theorem releaseSupply_mga (s : State) : (releaseSupply s).mga = s.mga := by
  unfold releaseSupply
  (try dsimp only)
  repeat' split
  all_goals simp

@[simp] theorem releaseSupply_pending (s : State) : (releaseSupply s).pending = s.pending := by
  unfold releaseSupply
  (try dsimp only)
  repeat' split
  all_goals simp

@[simp] theorem stopStage_pins (s : State) : (stopStage s).pins = s.pins := by
  unfold stopStage
  (try dsimp only)
  repeat' split
  all_goals simp

@[simp] theorem stopStage_relayHold (s : State) : (stopStage s).relayHold = s.relayHold := by
  unfold stopStage
  (try dsimp only)
  repeat' split
  all_goals simp

@[simp] theorem stopStage_stc (s : State) : (stopStage s).stc = s.stc := by
  unfold stopStage
  (try dsimp only)
  repeat' split
  all_goals simp

@[simp] theorem stopStage_cfg (s : State) : (stopStage s).cfg = s.cfg := by
  unfold stopStage
  (try dsimp only)
  repeat' split
  all_goals simp

@[simp] theorem stopStage_ports (s : State) : (stopStage s).ports = s.ports := by
  unfold stopStage
  (try dsimp only)
  repeat' split
  all_goals simp

@[simp] theorem stopStage_fst (s : State) : (stopStage s).fst = s.fst := by
  unfold stopStage
  (try dsimp only)
  repeat' split
  all_goals simp

@[simp] theorem stopStage_bau (s : State) : (stopStage s).bau = s.bau := by
  unfold stopStage
  (try dsimp only)
  repeat' split
  all_goals simp

@[simp] theorem stopStage_shu (s : State) : (stopStage s).shu = s.shu := by
  unfold stopStage
  (try dsimp only)
  repeat' split
  all_goals simp

@[simp] theorem stopStage_usc (s : State) : (stopStage s).usc = s.usc := by
  unfold stopStage
  (try dsimp only)
  repeat' split
  all_goals simp

@[simp] theorem stopStage_clt (s : State) : (stopStage s).clt = s.clt := by
  unfold stopStage
  (try dsimp only)
  repeat' split
  all_goals simp

@[simp] theorem stopStage_tsq (s : State) : (stopStage s).tsq = s.tsq := by
  unfold stopStage
  (try dsimp only)
  repeat' split
  all_goals simp

@[simp] theorem stopStage_smn (s : State) : (stopStage s).smn = s.smn := by
  unfold stopStage
  (try dsimp only)
  repeat' split
  all_goals simp

@[simp] theorem stopStage_mga (s : State) : (stopStage s).mga = s.mga := by
  unfold stopStage
  (try dsimp only)
  repeat' split
  all_goals simp

@[simp] theorem stopStage_pending (s : State) : (stopStage s).pending = s.pending := by
  unfold stopStage
  (try dsimp only)
  repeat' split
  all_goals simp

@[simp] theorem startStage_pins (s : State) (st : Stage) (t : Option ToneSpec) : (startStage st t s).pins = s.pins := by
  unfold startStage
  (try dsimp only)
  repeat' split
  all_goals simp

@[simp] theorem startStage_relayHold (s : State) (st : Stage) (t : Option ToneSpec) : (startStage st t s).relayHold = s.relayHold := by
  unfold startStage
  (try dsimp only)
  repeat' split
  all_goals simp

@[simp] theorem startStage_stc (s : State) (st : Stage) (t : Option ToneSpec) : (startStage st t s).stc = s.stc := by
  unfold startStage
  (try dsimp only)
  repeat' split
  all_goals simp

@[simp] theorem startStage_cfg (s : State) (st : Stage) (t : Option ToneSpec) : (startStage st t s).cfg = s.cfg := by
  unfold startStage
  (try dsimp only)
  repeat' split
  all_goals simp

@[simp] theorem startStage_ports (s : State) (st : Stage) (t : Option ToneSpec) : (startStage st t s).ports = s.ports := by
  unfold startStage
  (try dsimp only)
  repeat' split
  all_goals simp

@[simp] theorem startStage_fst (s : State) (st : Stage) (t : Option ToneSpec) : (startStage st t s).fst = s.fst := by
  unfold startStage
  (try dsimp only)
  repeat' split
  all_goals simp

@[simp] theorem startStage_bau (s : State) (st : Stage) (t : Option ToneSpec) : (startStage st t s).bau = s.bau := by
  unfold startStage
  (try dsimp only)
  repeat' split
  all_goals simp

@[simp] theorem startStage_shu (s : State) (st : Stage) (t : Option ToneSpec) : (startStage st t s).shu = s.shu := by
  unfold startStage
  (try dsimp only)
  repeat' split
  all_goals simp

@[simp] theorem startStage_usc (s : State) (st : Stage) (t : Option ToneSpec) : (startStage st t s).usc = s.usc := by
  unfold startStage
  (try dsimp only)
  repeat' split
  all_goals simp

@[simp] theorem startStage_clt (s : State) (st : Stage) (t : Option ToneSpec) : (startStage st t s).clt = s.clt := by
  unfold startStage
  (try dsimp only)
  repeat' split
  all_goals simp

@[simp] theorem startStage_tsq (s : State) (st : Stage) (t : Option ToneSpec) : (startStage st t s).tsq = s.tsq := by
  unfold startStage
  (try dsimp only)
  repeat' split
  all_goals simp

@[simp] theorem startStage_smn (s : State) (st : Stage) (t : Option ToneSpec) : (startStage st t s).smn = s.smn := by
  unfold startStage
  (try dsimp only)
  repeat' split
  all_goals simp

@[simp] theorem startStage_mga (s : State) (st : Stage) (t : Option ToneSpec) : (startStage st t s).mga = s.mga := by
  unfold startStage
  (try dsimp only)
  repeat' split
  all_goals simp

@[simp] theorem startStage_pending (s : State) (st : Stage) (t : Option ToneSpec) : (startStage st t s).pending = s.pending := by
  unfold startStage
  (try dsimp only)
  repeat' split
  all_goals simp

@[simp] theorem portAfterTest_pins (s : State) (t : Running) (o : TestOutcome) : (portAfterTest t o s).pins = s.pins := by
  unfold portAfterTest
  (try dsimp only)
  repeat' split
  all_goals simp

@[simp] theorem portAfterTest_relayHold (s : State) (t : Running) (o : TestOutcome) : (portAfterTest t o s).relayHold = s.relayHold := by
  unfold portAfterTest
  (try dsimp only)
  repeat' split
  all_goals simp

@[simp] theorem portAfterTest_stc (s : State) (t : Running) (o : TestOutcome) : (portAfterTest t o s).stc = s.stc := by
  unfold portAfterTest
  (try dsimp only)
  repeat' split
  all_goals simp

@[simp] theorem portAfterTest_cfg (s : State) (t : Running) (o : TestOutcome) : (portAfterTest t o s).cfg = s.cfg := by
  unfold portAfterTest
  (try dsimp only)
  repeat' split
  all_goals simp

@[simp] theorem portAfterTest_bau (s : State) (t : Running) (o : TestOutcome) : (portAfterTest t o s).bau = s.bau := by
  unfold portAfterTest
  (try dsimp only)
  repeat' split
  all_goals simp

@[simp] theorem portAfterTest_shu (s : State) (t : Running) (o : TestOutcome) : (portAfterTest t o s).shu = s.shu := by
  unfold portAfterTest
  (try dsimp only)
  repeat' split
  all_goals simp

@[simp] theorem portAfterTest_clt (s : State) (t : Running) (o : TestOutcome) : (portAfterTest t o s).clt = s.clt := by
  unfold portAfterTest
  (try dsimp only)
  repeat' split
  all_goals simp

@[simp] theorem portAfterTest_tsq (s : State) (t : Running) (o : TestOutcome) : (portAfterTest t o s).tsq = s.tsq := by
  unfold portAfterTest
  (try dsimp only)
  repeat' split
  all_goals simp

@[simp] theorem portAfterTest_msu (s : State) (t : Running) (o : TestOutcome) : (portAfterTest t o s).msu = s.msu := by
  unfold portAfterTest
  (try dsimp only)
  repeat' split
  all_goals simp

@[simp] theorem portAfterTest_smn (s : State) (t : Running) (o : TestOutcome) : (portAfterTest t o s).smn = s.smn := by
  unfold portAfterTest
  (try dsimp only)
  repeat' split
  all_goals simp

@[simp] theorem portAfterTest_pending (s : State) (t : Running) (o : TestOutcome) : (portAfterTest t o s).pending = s.pending := by
  unfold portAfterTest
  (try dsimp only)
  repeat' split
  all_goals simp

@[simp] theorem noticesOfEnd_pins (s : State) (o : TestOutcome) : (noticesOfEnd o s).pins = s.pins := by
  unfold noticesOfEnd
  (try dsimp only)
  repeat' split
  all_goals simp

@[simp] theorem noticesOfEnd_relayHold (s : State) (o : TestOutcome) : (noticesOfEnd o s).relayHold = s.relayHold := by
  unfold noticesOfEnd
  (try dsimp only)
  repeat' split
  all_goals simp

@[simp] theorem noticesOfEnd_stc (s : State) (o : TestOutcome) : (noticesOfEnd o s).stc = s.stc := by
  unfold noticesOfEnd
  (try dsimp only)
  repeat' split
  all_goals simp

@[simp] theorem noticesOfEnd_cfg (s : State) (o : TestOutcome) : (noticesOfEnd o s).cfg = s.cfg := by
  unfold noticesOfEnd
  (try dsimp only)
  repeat' split
  all_goals simp

@[simp] theorem noticesOfEnd_ports (s : State) (o : TestOutcome) : (noticesOfEnd o s).ports = s.ports := by
  unfold noticesOfEnd
  (try dsimp only)
  repeat' split
  all_goals simp

@[simp] theorem noticesOfEnd_bau (s : State) (o : TestOutcome) : (noticesOfEnd o s).bau = s.bau := by
  unfold noticesOfEnd
  (try dsimp only)
  repeat' split
  all_goals simp

@[simp] theorem noticesOfEnd_shu (s : State) (o : TestOutcome) : (noticesOfEnd o s).shu = s.shu := by
  unfold noticesOfEnd
  (try dsimp only)
  repeat' split
  all_goals simp

@[simp] theorem noticesOfEnd_usc (s : State) (o : TestOutcome) : (noticesOfEnd o s).usc = s.usc := by
  unfold noticesOfEnd
  (try dsimp only)
  repeat' split
  all_goals simp

@[simp] theorem noticesOfEnd_clt (s : State) (o : TestOutcome) : (noticesOfEnd o s).clt = s.clt := by
  unfold noticesOfEnd
  (try dsimp only)
  repeat' split
  all_goals simp

@[simp] theorem noticesOfEnd_tsq (s : State) (o : TestOutcome) : (noticesOfEnd o s).tsq = s.tsq := by
  unfold noticesOfEnd
  (try dsimp only)
  repeat' split
  all_goals simp

@[simp] theorem noticesOfEnd_msu (s : State) (o : TestOutcome) : (noticesOfEnd o s).msu = s.msu := by
  unfold noticesOfEnd
  (try dsimp only)
  repeat' split
  all_goals simp

@[simp] theorem noticesOfEnd_smn (s : State) (o : TestOutcome) : (noticesOfEnd o s).smn = s.smn := by
  unfold noticesOfEnd
  (try dsimp only)
  repeat' split
  all_goals simp

@[simp] theorem noticesOfEnd_pending (s : State) (o : TestOutcome) : (noticesOfEnd o s).pending = s.pending := by
  unfold noticesOfEnd
  (try dsimp only)
  repeat' split
  all_goals simp

@[simp] theorem endTest_pins (s : State) : (endTest s).pins = s.pins := by
  unfold endTest
  (try dsimp only)
  repeat' split
  all_goals simp

@[simp] theorem endTest_relayHold (s : State) : (endTest s).relayHold = s.relayHold := by
  unfold endTest
  (try dsimp only)
  repeat' split
  all_goals simp

@[simp] theorem endTest_stc (s : State) : (endTest s).stc = s.stc := by
  unfold endTest
  (try dsimp only)
  repeat' split
  all_goals simp

@[simp] theorem endTest_cfg (s : State) : (endTest s).cfg = s.cfg := by
  unfold endTest
  (try dsimp only)
  repeat' split
  all_goals simp

@[simp] theorem endTest_shu (s : State) : (endTest s).shu = s.shu := by
  unfold endTest
  (try dsimp only)
  repeat' split
  all_goals simp

@[simp] theorem endTest_smn (s : State) : (endTest s).smn = s.smn := by
  unfold endTest
  (try dsimp only)
  repeat' split
  all_goals simp

@[simp] theorem endTest_pending (s : State) : (endTest s).pending = s.pending := by
  unfold endTest
  (try dsimp only)
  repeat' split
  all_goals simp

@[simp] theorem enterRestoring_pins (s : State) : (enterRestoring s).pins = s.pins := by
  unfold enterRestoring
  (try dsimp only)
  repeat' split
  all_goals simp

@[simp] theorem enterRestoring_relayHold (s : State) : (enterRestoring s).relayHold = s.relayHold := by
  unfold enterRestoring
  (try dsimp only)
  repeat' split
  all_goals simp

@[simp] theorem enterRestoring_stc (s : State) : (enterRestoring s).stc = s.stc := by
  unfold enterRestoring
  (try dsimp only)
  repeat' split
  all_goals simp

@[simp] theorem enterRestoring_cfg (s : State) : (enterRestoring s).cfg = s.cfg := by
  unfold enterRestoring
  (try dsimp only)
  repeat' split
  all_goals simp

@[simp] theorem enterRestoring_fst (s : State) : (enterRestoring s).fst = s.fst := by
  unfold enterRestoring
  (try dsimp only)
  repeat' split
  all_goals simp

@[simp] theorem enterRestoring_bau (s : State) : (enterRestoring s).bau = s.bau := by
  unfold enterRestoring
  (try dsimp only)
  repeat' split
  all_goals simp

@[simp] theorem enterRestoring_shu (s : State) : (enterRestoring s).shu = s.shu := by
  unfold enterRestoring
  (try dsimp only)
  repeat' split
  all_goals simp

@[simp] theorem enterRestoring_usc (s : State) : (enterRestoring s).usc = s.usc := by
  unfold enterRestoring
  (try dsimp only)
  repeat' split
  all_goals simp

@[simp] theorem enterRestoring_clt (s : State) : (enterRestoring s).clt = s.clt := by
  unfold enterRestoring
  (try dsimp only)
  repeat' split
  all_goals simp

@[simp] theorem enterRestoring_msu (s : State) : (enterRestoring s).msu = s.msu := by
  unfold enterRestoring
  (try dsimp only)
  repeat' split
  all_goals simp

@[simp] theorem enterRestoring_smn (s : State) : (enterRestoring s).smn = s.smn := by
  unfold enterRestoring
  (try dsimp only)
  repeat' split
  all_goals simp

@[simp] theorem enterRestoring_mga (s : State) : (enterRestoring s).mga = s.mga := by
  unfold enterRestoring
  (try dsimp only)
  repeat' split
  all_goals simp

@[simp] theorem enterRestoring_pending (s : State) : (enterRestoring s).pending = s.pending := by
  unfold enterRestoring
  (try dsimp only)
  repeat' split
  all_goals simp

@[simp] theorem hazardShutdown_pins (s : State) : (hazardShutdown s).pins = s.pins := by
  unfold hazardShutdown
  (try dsimp only)
  repeat' split
  all_goals simp

@[simp] theorem hazardShutdown_relayHold (s : State) : (hazardShutdown s).relayHold = s.relayHold := by
  unfold hazardShutdown
  (try dsimp only)
  repeat' split
  all_goals simp

@[simp] theorem hazardShutdown_stc (s : State) : (hazardShutdown s).stc = s.stc := by
  unfold hazardShutdown
  (try dsimp only)
  repeat' split
  all_goals simp

@[simp] theorem hazardShutdown_cfg (s : State) : (hazardShutdown s).cfg = s.cfg := by
  unfold hazardShutdown
  (try dsimp only)
  repeat' split
  all_goals simp

@[simp] theorem hazardShutdown_shu (s : State) : (hazardShutdown s).shu = s.shu := by
  unfold hazardShutdown
  (try dsimp only)
  repeat' split
  all_goals simp

@[simp] theorem hazardShutdown_smn (s : State) : (hazardShutdown s).smn = s.smn := by
  unfold hazardShutdown
  (try dsimp only)
  repeat' split
  all_goals simp

@[simp] theorem hazardShutdown_pending (s : State) : (hazardShutdown s).pending = s.pending := by
  unfold hazardShutdown
  (try dsimp only)
  repeat' split
  all_goals simp

@[simp] theorem abortTest_pins (s : State) (c : AbortCause) : (abortTest c s).pins = s.pins := by
  unfold abortTest
  (try dsimp only)
  repeat' split
  all_goals simp

@[simp] theorem abortTest_relayHold (s : State) (c : AbortCause) : (abortTest c s).relayHold = s.relayHold := by
  unfold abortTest
  (try dsimp only)
  repeat' split
  all_goals simp

@[simp] theorem abortTest_stc (s : State) (c : AbortCause) : (abortTest c s).stc = s.stc := by
  unfold abortTest
  (try dsimp only)
  repeat' split
  all_goals simp

@[simp] theorem abortTest_cfg (s : State) (c : AbortCause) : (abortTest c s).cfg = s.cfg := by
  unfold abortTest
  (try dsimp only)
  repeat' split
  all_goals simp

@[simp] theorem abortTest_shu (s : State) (c : AbortCause) : (abortTest c s).shu = s.shu := by
  unfold abortTest
  (try dsimp only)
  repeat' split
  all_goals simp

@[simp] theorem abortTest_smn (s : State) (c : AbortCause) : (abortTest c s).smn = s.smn := by
  unfold abortTest
  (try dsimp only)
  repeat' split
  all_goals simp

@[simp] theorem abortTest_pending (s : State) (c : AbortCause) : (abortTest c s).pending = s.pending := by
  unfold abortTest
  (try dsimp only)
  repeat' split
  all_goals simp

@[simp] theorem enterIsolating_pins (s : State) : (enterIsolating s).pins = s.pins := by
  unfold enterIsolating
  (try dsimp only)
  repeat' split
  all_goals simp

@[simp] theorem enterIsolating_relayHold (s : State) : (enterIsolating s).relayHold = s.relayHold := by
  unfold enterIsolating
  (try dsimp only)
  repeat' split
  all_goals simp

@[simp] theorem enterIsolating_stc (s : State) : (enterIsolating s).stc = s.stc := by
  unfold enterIsolating
  (try dsimp only)
  repeat' split
  all_goals simp

@[simp] theorem enterIsolating_cfg (s : State) : (enterIsolating s).cfg = s.cfg := by
  unfold enterIsolating
  (try dsimp only)
  repeat' split
  all_goals simp

@[simp] theorem enterIsolating_bau (s : State) : (enterIsolating s).bau = s.bau := by
  unfold enterIsolating
  (try dsimp only)
  repeat' split
  all_goals simp

@[simp] theorem enterIsolating_shu (s : State) : (enterIsolating s).shu = s.shu := by
  unfold enterIsolating
  (try dsimp only)
  repeat' split
  all_goals simp

@[simp] theorem enterIsolating_clt (s : State) : (enterIsolating s).clt = s.clt := by
  unfold enterIsolating
  (try dsimp only)
  repeat' split
  all_goals simp

@[simp] theorem enterIsolating_msu (s : State) : (enterIsolating s).msu = s.msu := by
  unfold enterIsolating
  (try dsimp only)
  repeat' split
  all_goals simp

@[simp] theorem enterIsolating_smn (s : State) : (enterIsolating s).smn = s.smn := by
  unfold enterIsolating
  (try dsimp only)
  repeat' split
  all_goals simp

@[simp] theorem enterIsolating_pending (s : State) : (enterIsolating s).pending = s.pending := by
  unfold enterIsolating
  (try dsimp only)
  repeat' split
  all_goals simp

@[simp] theorem claimLost_pins (s : State) : (claimLost s).pins = s.pins := by
  unfold claimLost
  (try dsimp only)
  repeat' split
  all_goals simp

@[simp] theorem claimLost_relayHold (s : State) : (claimLost s).relayHold = s.relayHold := by
  unfold claimLost
  (try dsimp only)
  repeat' split
  all_goals simp

@[simp] theorem claimLost_stc (s : State) : (claimLost s).stc = s.stc := by
  unfold claimLost
  (try dsimp only)
  repeat' split
  all_goals simp

@[simp] theorem claimLost_cfg (s : State) : (claimLost s).cfg = s.cfg := by
  unfold claimLost
  (try dsimp only)
  repeat' split
  all_goals simp

@[simp] theorem claimLost_ports (s : State) : (claimLost s).ports = s.ports := by
  unfold claimLost
  (try dsimp only)
  repeat' split
  all_goals simp

@[simp] theorem claimLost_fst (s : State) : (claimLost s).fst = s.fst := by
  unfold claimLost
  (try dsimp only)
  repeat' split
  all_goals simp

@[simp] theorem claimLost_bau (s : State) : (claimLost s).bau = s.bau := by
  unfold claimLost
  (try dsimp only)
  repeat' split
  all_goals simp

@[simp] theorem claimLost_shu (s : State) : (claimLost s).shu = s.shu := by
  unfold claimLost
  (try dsimp only)
  repeat' split
  all_goals simp

@[simp] theorem claimLost_usc (s : State) : (claimLost s).usc = s.usc := by
  unfold claimLost
  (try dsimp only)
  repeat' split
  all_goals simp

@[simp] theorem claimLost_clt (s : State) : (claimLost s).clt = s.clt := by
  unfold claimLost
  (try dsimp only)
  repeat' split
  all_goals simp

@[simp] theorem claimLost_msu (s : State) : (claimLost s).msu = s.msu := by
  unfold claimLost
  (try dsimp only)
  repeat' split
  all_goals simp

@[simp] theorem claimLost_smn (s : State) : (claimLost s).smn = s.smn := by
  unfold claimLost
  (try dsimp only)
  repeat' split
  all_goals simp

@[simp] theorem claimLost_mga (s : State) : (claimLost s).mga = s.mga := by
  unfold claimLost
  (try dsimp only)
  repeat' split
  all_goals simp

@[simp] theorem claimLost_pending (s : State) : (claimLost s).pending = s.pending := by
  unfold claimLost
  (try dsimp only)
  repeat' split
  all_goals simp

@[simp] theorem claimHeld_pins (s : State) : (claimHeld s).pins = s.pins := by
  unfold claimHeld
  (try dsimp only)
  repeat' split
  all_goals simp

@[simp] theorem claimHeld_relayHold (s : State) : (claimHeld s).relayHold = s.relayHold := by
  unfold claimHeld
  (try dsimp only)
  repeat' split
  all_goals simp

@[simp] theorem claimHeld_stc (s : State) : (claimHeld s).stc = s.stc := by
  unfold claimHeld
  (try dsimp only)
  repeat' split
  all_goals simp

@[simp] theorem claimHeld_cfg (s : State) : (claimHeld s).cfg = s.cfg := by
  unfold claimHeld
  (try dsimp only)
  repeat' split
  all_goals simp

@[simp] theorem claimHeld_bau (s : State) : (claimHeld s).bau = s.bau := by
  unfold claimHeld
  (try dsimp only)
  repeat' split
  all_goals simp

@[simp] theorem claimHeld_shu (s : State) : (claimHeld s).shu = s.shu := by
  unfold claimHeld
  (try dsimp only)
  repeat' split
  all_goals simp

@[simp] theorem claimHeld_clt (s : State) : (claimHeld s).clt = s.clt := by
  unfold claimHeld
  (try dsimp only)
  repeat' split
  all_goals simp

@[simp] theorem claimHeld_msu (s : State) : (claimHeld s).msu = s.msu := by
  unfold claimHeld
  (try dsimp only)
  repeat' split
  all_goals simp

@[simp] theorem claimHeld_smn (s : State) : (claimHeld s).smn = s.smn := by
  unfold claimHeld
  (try dsimp only)
  repeat' split
  all_goals simp

@[simp] theorem claimHeld_pending (s : State) : (claimHeld s).pending = s.pending := by
  unfold claimHeld
  (try dsimp only)
  repeat' split
  all_goals simp

@[simp] theorem claimClashed_pins (s : State) : (claimClashed s).pins = s.pins := by
  unfold claimClashed
  (try dsimp only)
  repeat' split
  all_goals simp

@[simp] theorem claimClashed_relayHold (s : State) : (claimClashed s).relayHold = s.relayHold := by
  unfold claimClashed
  (try dsimp only)
  repeat' split
  all_goals simp

@[simp] theorem claimClashed_stc (s : State) : (claimClashed s).stc = s.stc := by
  unfold claimClashed
  (try dsimp only)
  repeat' split
  all_goals simp

@[simp] theorem claimClashed_cfg (s : State) : (claimClashed s).cfg = s.cfg := by
  unfold claimClashed
  (try dsimp only)
  repeat' split
  all_goals simp

@[simp] theorem claimClashed_fst (s : State) : (claimClashed s).fst = s.fst := by
  unfold claimClashed
  (try dsimp only)
  repeat' split
  all_goals simp

@[simp] theorem claimClashed_bau (s : State) : (claimClashed s).bau = s.bau := by
  unfold claimClashed
  (try dsimp only)
  repeat' split
  all_goals simp

@[simp] theorem claimClashed_shu (s : State) : (claimClashed s).shu = s.shu := by
  unfold claimClashed
  (try dsimp only)
  repeat' split
  all_goals simp

@[simp] theorem claimClashed_usc (s : State) : (claimClashed s).usc = s.usc := by
  unfold claimClashed
  (try dsimp only)
  repeat' split
  all_goals simp

@[simp] theorem claimClashed_clt (s : State) : (claimClashed s).clt = s.clt := by
  unfold claimClashed
  (try dsimp only)
  repeat' split
  all_goals simp

@[simp] theorem claimClashed_smn (s : State) : (claimClashed s).smn = s.smn := by
  unfold claimClashed
  (try dsimp only)
  repeat' split
  all_goals simp

@[simp] theorem claimClashed_mga (s : State) : (claimClashed s).mga = s.mga := by
  unfold claimClashed
  (try dsimp only)
  repeat' split
  all_goals simp

@[simp] theorem claimClashed_pending (s : State) : (claimClashed s).pending = s.pending := by
  unfold claimClashed
  (try dsimp only)
  repeat' split
  all_goals simp

@[simp] theorem supplyAborts_pins (s : State) (n : Supply) : (supplyAborts n s).pins = s.pins := by
  unfold supplyAborts
  (try dsimp only)
  repeat' split
  all_goals simp

@[simp] theorem supplyAborts_relayHold (s : State) (n : Supply) : (supplyAborts n s).relayHold = s.relayHold := by
  unfold supplyAborts
  (try dsimp only)
  repeat' split
  all_goals simp

@[simp] theorem supplyAborts_stc (s : State) (n : Supply) : (supplyAborts n s).stc = s.stc := by
  unfold supplyAborts
  (try dsimp only)
  repeat' split
  all_goals simp

@[simp] theorem supplyAborts_cfg (s : State) (n : Supply) : (supplyAborts n s).cfg = s.cfg := by
  unfold supplyAborts
  (try dsimp only)
  repeat' split
  all_goals simp

@[simp] theorem supplyAborts_shu (s : State) (n : Supply) : (supplyAborts n s).shu = s.shu := by
  unfold supplyAborts
  (try dsimp only)
  repeat' split
  all_goals simp

@[simp] theorem supplyAborts_smn (s : State) (n : Supply) : (supplyAborts n s).smn = s.smn := by
  unfold supplyAborts
  (try dsimp only)
  repeat' split
  all_goals simp

@[simp] theorem supplyAborts_pending (s : State) (n : Supply) : (supplyAborts n s).pending = s.pending := by
  unfold supplyAborts
  (try dsimp only)
  repeat' split
  all_goals simp

@[simp] theorem recomputeCabinet_pins (s : State) : (recomputeCabinet s).pins = s.pins := by
  unfold recomputeCabinet
  (try dsimp only)
  repeat' split
  all_goals simp

@[simp] theorem recomputeCabinet_relayHold (s : State) : (recomputeCabinet s).relayHold = s.relayHold := by
  unfold recomputeCabinet
  (try dsimp only)
  repeat' split
  all_goals simp

@[simp] theorem recomputeCabinet_stc (s : State) : (recomputeCabinet s).stc = s.stc := by
  unfold recomputeCabinet
  (try dsimp only)
  repeat' split
  all_goals simp

@[simp] theorem recomputeCabinet_cfg (s : State) : (recomputeCabinet s).cfg = s.cfg := by
  unfold recomputeCabinet
  (try dsimp only)
  repeat' split
  all_goals simp

@[simp] theorem recomputeCabinet_shu (s : State) : (recomputeCabinet s).shu = s.shu := by
  unfold recomputeCabinet
  (try dsimp only)
  repeat' split
  all_goals simp

@[simp] theorem recomputeCabinet_pending (s : State) : (recomputeCabinet s).pending = s.pending := by
  unfold recomputeCabinet
  (try dsimp only)
  repeat' split
  all_goals simp

@[simp] theorem agePeer_pins (s : State) (t : StationId) : (agePeer t s).pins = s.pins := by
  unfold agePeer
  (try dsimp only)
  repeat' split
  all_goals simp

@[simp] theorem agePeer_relayHold (s : State) (t : StationId) : (agePeer t s).relayHold = s.relayHold := by
  unfold agePeer
  (try dsimp only)
  repeat' split
  all_goals simp

@[simp] theorem agePeer_stc (s : State) (t : StationId) : (agePeer t s).stc = s.stc := by
  unfold agePeer
  (try dsimp only)
  repeat' split
  all_goals simp

@[simp] theorem agePeer_cfg (s : State) (t : StationId) : (agePeer t s).cfg = s.cfg := by
  unfold agePeer
  (try dsimp only)
  repeat' split
  all_goals simp

@[simp] theorem agePeer_pending (s : State) (t : StationId) : (agePeer t s).pending = s.pending := by
  unfold agePeer
  (try dsimp only)
  repeat' split
  all_goals simp

@[simp] theorem agePeers_pins (s : State) : (agePeers s).pins = s.pins := by
  unfold agePeers
  exact fold_keeps (·.pins) _ (fun t s => agePeer_pins s t) _ _

@[simp] theorem agePeers_relayHold (s : State) : (agePeers s).relayHold = s.relayHold := by
  unfold agePeers
  exact fold_keeps (·.relayHold) _ (fun t s => agePeer_relayHold s t) _ _

@[simp] theorem agePeers_stc (s : State) : (agePeers s).stc = s.stc := by
  unfold agePeers
  exact fold_keeps (·.stc) _ (fun t s => agePeer_stc s t) _ _

@[simp] theorem agePeers_cfg (s : State) : (agePeers s).cfg = s.cfg := by
  unfold agePeers
  exact fold_keeps (·.cfg) _ (fun t s => agePeer_cfg s t) _ _

@[simp] theorem agePeers_pending (s : State) : (agePeers s).pending = s.pending := by
  unfold agePeers
  exact fold_keeps (·.pending) _ (fun t s => agePeer_pending s t) _ _

@[simp] theorem ageNotice_pins (s : State) : (ageNotice s).pins = s.pins := by
  unfold ageNotice
  (try dsimp only)
  repeat' split
  all_goals simp

@[simp] theorem ageNotice_relayHold (s : State) : (ageNotice s).relayHold = s.relayHold := by
  unfold ageNotice
  (try dsimp only)
  repeat' split
  all_goals simp

@[simp] theorem ageNotice_stc (s : State) : (ageNotice s).stc = s.stc := by
  unfold ageNotice
  (try dsimp only)
  repeat' split
  all_goals simp

@[simp] theorem ageNotice_cfg (s : State) : (ageNotice s).cfg = s.cfg := by
  unfold ageNotice
  (try dsimp only)
  repeat' split
  all_goals simp

@[simp] theorem ageNotice_ports (s : State) : (ageNotice s).ports = s.ports := by
  unfold ageNotice
  (try dsimp only)
  repeat' split
  all_goals simp

@[simp] theorem ageNotice_fst (s : State) : (ageNotice s).fst = s.fst := by
  unfold ageNotice
  (try dsimp only)
  repeat' split
  all_goals simp

@[simp] theorem ageNotice_bau (s : State) : (ageNotice s).bau = s.bau := by
  unfold ageNotice
  (try dsimp only)
  repeat' split
  all_goals simp

@[simp] theorem ageNotice_usc (s : State) : (ageNotice s).usc = s.usc := by
  unfold ageNotice
  (try dsimp only)
  repeat' split
  all_goals simp

@[simp] theorem ageNotice_clt (s : State) : (ageNotice s).clt = s.clt := by
  unfold ageNotice
  (try dsimp only)
  repeat' split
  all_goals simp

@[simp] theorem ageNotice_tsq (s : State) : (ageNotice s).tsq = s.tsq := by
  unfold ageNotice
  (try dsimp only)
  repeat' split
  all_goals simp

@[simp] theorem ageNotice_msu (s : State) : (ageNotice s).msu = s.msu := by
  unfold ageNotice
  (try dsimp only)
  repeat' split
  all_goals simp

@[simp] theorem ageNotice_smn (s : State) : (ageNotice s).smn = s.smn := by
  unfold ageNotice
  (try dsimp only)
  repeat' split
  all_goals simp

@[simp] theorem ageNotice_mga (s : State) : (ageNotice s).mga = s.mga := by
  unfold ageNotice
  (try dsimp only)
  repeat' split
  all_goals simp

@[simp] theorem ageNotice_pending (s : State) : (ageNotice s).pending = s.pending := by
  unfold ageNotice
  (try dsimp only)
  repeat' split
  all_goals simp

@[simp] theorem advance_pins (s : State) : (advance s).pins = s.pins := by
  unfold advance
  (try dsimp only)
  repeat' split
  all_goals simp

@[simp] theorem advance_relayHold (s : State) : (advance s).relayHold = s.relayHold := by
  unfold advance
  (try dsimp only)
  repeat' split
  all_goals simp

@[simp] theorem advance_stc (s : State) : (advance s).stc = s.stc := by
  unfold advance
  (try dsimp only)
  repeat' split
  all_goals simp

@[simp] theorem advance_cfg (s : State) : (advance s).cfg = s.cfg := by
  unfold advance
  (try dsimp only)
  repeat' split
  all_goals simp

@[simp] theorem advance_fst (s : State) : (advance s).fst = s.fst := by
  unfold advance
  (try dsimp only)
  repeat' split
  all_goals simp

@[simp] theorem advance_bau (s : State) : (advance s).bau = s.bau := by
  unfold advance
  (try dsimp only)
  repeat' split
  all_goals simp

@[simp] theorem advance_shu (s : State) : (advance s).shu = s.shu := by
  unfold advance
  (try dsimp only)
  repeat' split
  all_goals simp

@[simp] theorem advance_usc (s : State) : (advance s).usc = s.usc := by
  unfold advance
  (try dsimp only)
  repeat' split
  all_goals simp

@[simp] theorem advance_clt (s : State) : (advance s).clt = s.clt := by
  unfold advance
  (try dsimp only)
  repeat' split
  all_goals simp

@[simp] theorem advance_smn (s : State) : (advance s).smn = s.smn := by
  unfold advance
  (try dsimp only)
  repeat' split
  all_goals simp

@[simp] theorem advance_mga (s : State) : (advance s).mga = s.mga := by
  unfold advance
  (try dsimp only)
  repeat' split
  all_goals simp

@[simp] theorem advance_pending (s : State) : (advance s).pending = s.pending := by
  unfold advance
  (try dsimp only)
  repeat' split
  all_goals simp

@[simp] theorem stageDone_pins (s : State) (f : Running → Running) : (stageDone f s).pins = s.pins := by
  unfold stageDone
  (try dsimp only)
  repeat' split
  all_goals simp

@[simp] theorem stageDone_relayHold (s : State) (f : Running → Running) : (stageDone f s).relayHold = s.relayHold := by
  unfold stageDone
  (try dsimp only)
  repeat' split
  all_goals simp

@[simp] theorem stageDone_stc (s : State) (f : Running → Running) : (stageDone f s).stc = s.stc := by
  unfold stageDone
  (try dsimp only)
  repeat' split
  all_goals simp

@[simp] theorem stageDone_cfg (s : State) (f : Running → Running) : (stageDone f s).cfg = s.cfg := by
  unfold stageDone
  (try dsimp only)
  repeat' split
  all_goals simp

@[simp] theorem stageDone_fst (s : State) (f : Running → Running) : (stageDone f s).fst = s.fst := by
  unfold stageDone
  (try dsimp only)
  repeat' split
  all_goals simp

@[simp] theorem stageDone_bau (s : State) (f : Running → Running) : (stageDone f s).bau = s.bau := by
  unfold stageDone
  (try dsimp only)
  repeat' split
  all_goals simp

@[simp] theorem stageDone_shu (s : State) (f : Running → Running) : (stageDone f s).shu = s.shu := by
  unfold stageDone
  (try dsimp only)
  repeat' split
  all_goals simp

@[simp] theorem stageDone_usc (s : State) (f : Running → Running) : (stageDone f s).usc = s.usc := by
  unfold stageDone
  (try dsimp only)
  repeat' split
  all_goals simp

@[simp] theorem stageDone_clt (s : State) (f : Running → Running) : (stageDone f s).clt = s.clt := by
  unfold stageDone
  (try dsimp only)
  repeat' split
  all_goals simp

@[simp] theorem stageDone_smn (s : State) (f : Running → Running) : (stageDone f s).smn = s.smn := by
  unfold stageDone
  (try dsimp only)
  repeat' split
  all_goals simp

@[simp] theorem stageDone_mga (s : State) (f : Running → Running) : (stageDone f s).mga = s.mga := by
  unfold stageDone
  (try dsimp only)
  repeat' split
  all_goals simp

@[simp] theorem stageDone_pending (s : State) (f : Running → Running) : (stageDone f s).pending = s.pending := by
  unfold stageDone
  (try dsimp only)
  repeat' split
  all_goals simp

@[simp] theorem placeAnswer_pins (s : State) (a : List Byte) : (placeAnswer a s).pins = s.pins := by
  unfold placeAnswer
  (try dsimp only)
  repeat' split
  all_goals simp

@[simp] theorem placeAnswer_relayHold (s : State) (a : List Byte) : (placeAnswer a s).relayHold = s.relayHold := by
  unfold placeAnswer
  (try dsimp only)
  repeat' split
  all_goals simp

@[simp] theorem placeAnswer_stc (s : State) (a : List Byte) : (placeAnswer a s).stc = s.stc := by
  unfold placeAnswer
  (try dsimp only)
  repeat' split
  all_goals simp

@[simp] theorem placeAnswer_cfg (s : State) (a : List Byte) : (placeAnswer a s).cfg = s.cfg := by
  unfold placeAnswer
  (try dsimp only)
  repeat' split
  all_goals simp

@[simp] theorem placeAnswer_ports (s : State) (a : List Byte) : (placeAnswer a s).ports = s.ports := by
  unfold placeAnswer
  (try dsimp only)
  repeat' split
  all_goals simp

@[simp] theorem placeAnswer_bau (s : State) (a : List Byte) : (placeAnswer a s).bau = s.bau := by
  unfold placeAnswer
  (try dsimp only)
  repeat' split
  all_goals simp

@[simp] theorem placeAnswer_shu (s : State) (a : List Byte) : (placeAnswer a s).shu = s.shu := by
  unfold placeAnswer
  (try dsimp only)
  repeat' split
  all_goals simp

@[simp] theorem placeAnswer_usc (s : State) (a : List Byte) : (placeAnswer a s).usc = s.usc := by
  unfold placeAnswer
  (try dsimp only)
  repeat' split
  all_goals simp

@[simp] theorem placeAnswer_clt (s : State) (a : List Byte) : (placeAnswer a s).clt = s.clt := by
  unfold placeAnswer
  (try dsimp only)
  repeat' split
  all_goals simp

@[simp] theorem placeAnswer_tsq (s : State) (a : List Byte) : (placeAnswer a s).tsq = s.tsq := by
  unfold placeAnswer
  (try dsimp only)
  repeat' split
  all_goals simp

@[simp] theorem placeAnswer_msu (s : State) (a : List Byte) : (placeAnswer a s).msu = s.msu := by
  unfold placeAnswer
  (try dsimp only)
  repeat' split
  all_goals simp

@[simp] theorem placeAnswer_smn (s : State) (a : List Byte) : (placeAnswer a s).smn = s.smn := by
  unfold placeAnswer
  (try dsimp only)
  repeat' split
  all_goals simp

@[simp] theorem placeAnswer_mga (s : State) (a : List Byte) : (placeAnswer a s).mga = s.mga := by
  unfold placeAnswer
  (try dsimp only)
  repeat' split
  all_goals simp

@[simp] theorem placeAnswer_pending (s : State) (a : List Byte) : (placeAnswer a s).pending = s.pending := by
  unfold placeAnswer
  (try dsimp only)
  repeat' split
  all_goals simp

@[simp] theorem offerAnswer_pins (s : State) (a : List Byte) : (offerAnswer a s).pins = s.pins := by
  unfold offerAnswer
  (try dsimp only)
  repeat' split
  all_goals simp

@[simp] theorem offerAnswer_relayHold (s : State) (a : List Byte) : (offerAnswer a s).relayHold = s.relayHold := by
  unfold offerAnswer
  (try dsimp only)
  repeat' split
  all_goals simp

@[simp] theorem offerAnswer_stc (s : State) (a : List Byte) : (offerAnswer a s).stc = s.stc := by
  unfold offerAnswer
  (try dsimp only)
  repeat' split
  all_goals simp

@[simp] theorem offerAnswer_cfg (s : State) (a : List Byte) : (offerAnswer a s).cfg = s.cfg := by
  unfold offerAnswer
  (try dsimp only)
  repeat' split
  all_goals simp

@[simp] theorem offerAnswer_ports (s : State) (a : List Byte) : (offerAnswer a s).ports = s.ports := by
  unfold offerAnswer
  (try dsimp only)
  repeat' split
  all_goals simp

@[simp] theorem offerAnswer_bau (s : State) (a : List Byte) : (offerAnswer a s).bau = s.bau := by
  unfold offerAnswer
  (try dsimp only)
  repeat' split
  all_goals simp

@[simp] theorem offerAnswer_shu (s : State) (a : List Byte) : (offerAnswer a s).shu = s.shu := by
  unfold offerAnswer
  (try dsimp only)
  repeat' split
  all_goals simp

@[simp] theorem offerAnswer_usc (s : State) (a : List Byte) : (offerAnswer a s).usc = s.usc := by
  unfold offerAnswer
  (try dsimp only)
  repeat' split
  all_goals simp

@[simp] theorem offerAnswer_clt (s : State) (a : List Byte) : (offerAnswer a s).clt = s.clt := by
  unfold offerAnswer
  (try dsimp only)
  repeat' split
  all_goals simp

@[simp] theorem offerAnswer_tsq (s : State) (a : List Byte) : (offerAnswer a s).tsq = s.tsq := by
  unfold offerAnswer
  (try dsimp only)
  repeat' split
  all_goals simp

@[simp] theorem offerAnswer_msu (s : State) (a : List Byte) : (offerAnswer a s).msu = s.msu := by
  unfold offerAnswer
  (try dsimp only)
  repeat' split
  all_goals simp

@[simp] theorem offerAnswer_smn (s : State) (a : List Byte) : (offerAnswer a s).smn = s.smn := by
  unfold offerAnswer
  (try dsimp only)
  repeat' split
  all_goals simp

@[simp] theorem offerAnswer_pending (s : State) (a : List Byte) : (offerAnswer a s).pending = s.pending := by
  unfold offerAnswer
  (try dsimp only)
  repeat' split
  all_goals simp

@[simp] theorem placeItem_pins (s : State) (i : WaitItem) : (placeItem i s).pins = s.pins := by cases i <;> simp [placeItem]

@[simp] theorem placeItem_relayHold (s : State) (i : WaitItem) : (placeItem i s).relayHold = s.relayHold := by cases i <;> simp [placeItem]

@[simp] theorem placeItem_stc (s : State) (i : WaitItem) : (placeItem i s).stc = s.stc := by cases i <;> simp [placeItem]

@[simp] theorem placeItem_cfg (s : State) (i : WaitItem) : (placeItem i s).cfg = s.cfg := by cases i <;> simp [placeItem]

@[simp] theorem placeItem_ports (s : State) (i : WaitItem) : (placeItem i s).ports = s.ports := by cases i <;> simp [placeItem]

@[simp] theorem placeItem_bau (s : State) (i : WaitItem) : (placeItem i s).bau = s.bau := by cases i <;> simp [placeItem]

@[simp] theorem placeItem_shu (s : State) (i : WaitItem) : (placeItem i s).shu = s.shu := by cases i <;> simp [placeItem]

@[simp] theorem placeItem_usc (s : State) (i : WaitItem) : (placeItem i s).usc = s.usc := by cases i <;> simp [placeItem]

@[simp] theorem placeItem_clt (s : State) (i : WaitItem) : (placeItem i s).clt = s.clt := by cases i <;> simp [placeItem]

@[simp] theorem placeItem_tsq (s : State) (i : WaitItem) : (placeItem i s).tsq = s.tsq := by cases i <;> simp [placeItem]

@[simp] theorem placeItem_msu (s : State) (i : WaitItem) : (placeItem i s).msu = s.msu := by cases i <;> simp [placeItem]

@[simp] theorem placeItem_smn (s : State) (i : WaitItem) : (placeItem i s).smn = s.smn := by cases i <;> simp [placeItem]

@[simp] theorem placeItem_mga (s : State) (i : WaitItem) : (placeItem i s).mga = s.mga := by cases i <;> simp [placeItem]

@[simp] theorem placeItem_pending (s : State) (i : WaitItem) : (placeItem i s).pending = s.pending := by cases i <;> simp [placeItem]

@[simp] theorem txArbitrate_pins (s : State) : (txArbitrate s).pins = s.pins := by
  unfold txArbitrate chooseBelowControl takeData
  repeat' split
  all_goals first
    | rfl
    | (rename_i h; rw [takeInHand_pins, uscChoose_frame h]; rfl)
    | (rename_i h; rw [takeInHand_pins, uscChoose_frame h])

@[simp] theorem txArbitrate_relayHold (s : State) : (txArbitrate s).relayHold = s.relayHold := by
  unfold txArbitrate chooseBelowControl takeData
  repeat' split
  all_goals first
    | rfl
    | (rename_i h; rw [takeInHand_relayHold, uscChoose_frame h]; rfl)
    | (rename_i h; rw [takeInHand_relayHold, uscChoose_frame h])

@[simp] theorem txArbitrate_stc (s : State) : (txArbitrate s).stc = s.stc := by
  unfold txArbitrate chooseBelowControl takeData
  repeat' split
  all_goals first
    | rfl
    | (rename_i h; rw [takeInHand_stc, uscChoose_frame h]; rfl)
    | (rename_i h; rw [takeInHand_stc, uscChoose_frame h])

@[simp] theorem txArbitrate_cfg (s : State) : (txArbitrate s).cfg = s.cfg := by
  unfold txArbitrate chooseBelowControl takeData
  repeat' split
  all_goals first
    | rfl
    | (rename_i h; rw [takeInHand_cfg, uscChoose_frame h]; rfl)
    | (rename_i h; rw [takeInHand_cfg, uscChoose_frame h])

@[simp] theorem txArbitrate_ports (s : State) : (txArbitrate s).ports = s.ports := by
  unfold txArbitrate chooseBelowControl takeData
  repeat' split
  all_goals first
    | rfl
    | (rename_i h; rw [takeInHand_ports, uscChoose_frame h]; rfl)
    | (rename_i h; rw [takeInHand_ports, uscChoose_frame h])

@[simp] theorem txArbitrate_shu (s : State) : (txArbitrate s).shu = s.shu := by
  unfold txArbitrate chooseBelowControl takeData
  repeat' split
  all_goals first
    | rfl
    | (rename_i h; rw [takeInHand_shu, uscChoose_frame h]; rfl)
    | (rename_i h; rw [takeInHand_shu, uscChoose_frame h])

@[simp] theorem txArbitrate_clt (s : State) : (txArbitrate s).clt = s.clt := by
  unfold txArbitrate chooseBelowControl takeData
  repeat' split
  all_goals first
    | rfl
    | (rename_i h; rw [takeInHand_clt, uscChoose_frame h]; rfl)
    | (rename_i h; rw [takeInHand_clt, uscChoose_frame h])

@[simp] theorem txArbitrate_tsq (s : State) : (txArbitrate s).tsq = s.tsq := by
  unfold txArbitrate chooseBelowControl takeData
  repeat' split
  all_goals first
    | rfl
    | (rename_i h; rw [takeInHand_tsq, uscChoose_frame h]; rfl)
    | (rename_i h; rw [takeInHand_tsq, uscChoose_frame h])

@[simp] theorem txArbitrate_msu (s : State) : (txArbitrate s).msu = s.msu := by
  unfold txArbitrate chooseBelowControl takeData
  repeat' split
  all_goals first
    | rfl
    | (rename_i h; rw [takeInHand_msu, uscChoose_frame h]; rfl)
    | (rename_i h; rw [takeInHand_msu, uscChoose_frame h])

@[simp] theorem txArbitrate_smn (s : State) : (txArbitrate s).smn = s.smn := by
  unfold txArbitrate chooseBelowControl takeData
  repeat' split
  all_goals first
    | rfl
    | (rename_i h; rw [takeInHand_smn, uscChoose_frame h]; rfl)
    | (rename_i h; rw [takeInHand_smn, uscChoose_frame h])

@[simp] theorem txArbitrate_mga (s : State) : (txArbitrate s).mga = s.mga := by
  unfold txArbitrate chooseBelowControl takeData
  repeat' split
  all_goals first
    | rfl
    | (rename_i h; rw [takeInHand_mga, uscChoose_frame h]; rfl)
    | (rename_i h; rw [takeInHand_mga, uscChoose_frame h])

@[simp] theorem txArbitrate_pending (s : State) : (txArbitrate s).pending = s.pending := by
  unfold txArbitrate chooseBelowControl takeData
  repeat' split
  all_goals first
    | rfl
    | (rename_i h; rw [takeInHand_pending, uscChoose_frame h]; rfl)
    | (rename_i h; rw [takeInHand_pending, uscChoose_frame h])

end Sys2Proof.Machine
end

