-- ==== Sys2Proof/Laws/Operations.lean ====
section
/-! SUPPORT. What the shared operations do: one lemma each that says it once. -/

namespace Sys2Proof.Machine

/-! ## The end of a step -/

theorem startChoice_noQueue {s : State} (h : s.tsq.queue = []) : startChoice s = s := by
  unfold startChoice
  split
  · simp [h]
  · rfl

theorem mgaWork_idle {s : State} (hr : s.fst.requests = []) (hw : s.mga.waiting = []) : mgaWork s = s := by
  simp [mgaWork, hr, mgaRun, hw, offerWaiting]

/-- Where nothing waits, the end of a step is the transmit arbiter's choice alone. -/
theorem settle_unburdened {s : State} (h : Unburdened s) : settle s = txArbitrate s := by
  obtain ⟨h1, h2, h3, h4⟩ := h
  simp [settle, h1, startChoice_noQueue h2, mgaWork_idle h3 h4]

/-- An event whose outcome leaves nothing waiting. -/
theorem event_unburdened {f : State → State} {s : State} (h : Unburdened (f s)) :
    event f s = .next (txArbitrate (f s)) := by
  simp [event, settle_unburdened h]

theorem heard_running {f : State → State} {s : State} (h : s.stc.startState ≠ .reset) : heard f s = event f s := by
  simp [heard, h]

theorem heard_unburdened {f : State → State} {s : State} (h0 : s.stc.startState ≠ .reset) (h : Unburdened (f s)) :
    heard f s = .next (txArbitrate (f s)) := by
  rw [heard_running h0, event_unburdened h]

/-- Nothing is heard in RESET. -/
theorem heard_reset {f : State → State} {s : State} (h : s.stc.startState = .reset) : heard f s = .next s := by
  simp [heard, h]

/-! ## Notices and counters -/

/-- What raising a cause can do (R161). -/
theorem raiseNotice_cases (c : Cause) (s : State) :
    raiseNotice c s = s ∨
      (∃ t, t = { s with mga := { s.mga with flags := s.mga.flags ||| BitVec.ofNat 10 (2 ^ c.bit) } } ∧ s.flagSet c = false ∧
        (raiseNotice c s = t ∨ (raiseNotice c s = placeNotice c t ∧ s.mga.waiting = [] ∧ t.fst.placeable 1 0 0 = true)
          ∨ raiseNotice c s = joinWaiting (.notice c) t)) := by
  by_cases hf : s.flagSet c = true
  · left; simp [raiseNotice, hf]
  · right
    refine ⟨_, rfl, by simpa using hf, ?_⟩
    simp only [raiseNotice, hf]
    simp only [Bool.false_eq_true, if_false]
    split
    · left; rfl
    · split
      · rename_i h
        right; left
        simp only [Bool.and_eq_true, List.isEmpty_iff] at h
        exact ⟨rfl, h.1, h.2⟩
      · right; right; rfl

/-- The counters are not touched by a notice. -/
@[simp] theorem raiseNotice_portCounters (c : Cause) (s : State) :
    (raiseNotice c s).mga.portCounters = s.mga.portCounters := by
  unfold raiseNotice
  dsimp only
  repeat' split
  all_goals rfl

@[simp] theorem raiseNotice_cardCounters (c : Cause) (s : State) :
    (raiseNotice c s).mga.cardCounters = s.mga.cardCounters := by
  unfold raiseNotice
  dsimp only
  repeat' split
  all_goals rfl

@[simp] theorem raiseNotice_mask (c : Cause) (s : State) : (raiseNotice c s).mga.mask = s.mga.mask := by
  unfold raiseNotice
  dsimp only
  repeat' split
  all_goals rfl

@[simp] theorem raiseNotice_restartPending (c : Cause) (s : State) :
    (raiseNotice c s).mga.restartPending = s.mga.restartPending := by
  unfold raiseNotice
  dsimp only
  repeat' split
  all_goals rfl

/-- A rise below the maximum raises no notice. -/
theorem countPort_below {s : State} {p : PortId} {c : PortCounter} {k : Nat}
    (h : (s.portCounter p c).saturates k = false) : (countPort p c k s).fst = s.fst := by
  simp [countPort, h]

theorem countCard_below {s : State} {c : CardCounter} (h : (s.cardCounter c).saturates 1 = false) :
    (countCard c s).fst = s.fst := by
  simp [countCard, h]

theorem PortCounter.idx_injective : Function.Injective PortCounter.idx := by
  intro a b h
  cases a <;> cases b <;> first | rfl | cases h

theorem CardCounter.idx_injective : Function.Injective CardCounter.idx := by
  intro a b h
  cases a <;> cases b <;> first | rfl | cases h

/-- The counter that rises, and the others (R163). -/
theorem countPort_portCounter (s : State) (p q : PortId) (c d : PortCounter) (k : Nat) :
    (countPort p c k s).portCounter q d =
      if p = q ∧ c = d then (s.portCounter p c).rise k else s.portCounter q d := by
  have key : (countPort p c k s).mga.portCounters =
      tset s.mga.portCounters p (tset (tget s.mga.portCounters p) c.idx ((s.portCounter p c).rise k)) := by
    unfold countPort
    dsimp only
    split <;> simp
  unfold State.portCounter
  rw [key, tget_tset]
  by_cases hp : p = q
  · subst hp
    simp only [true_and, if_true]
    rw [tget_tset]
    by_cases hc : c = d
    · simp [hc, State.portCounter]
    · have : c.idx ≠ d.idx := fun e => hc (PortCounter.idx_injective e)
      simp [hc, this]
  · simp [hp]

theorem countCard_cardCounter (s : State) (c d : CardCounter) :
    (countCard c s).cardCounter d = if c = d then (s.cardCounter c).rise 1 else s.cardCounter d := by
  have key : (countCard c s).mga.cardCounters = tset s.mga.cardCounters c.idx ((s.cardCounter c).rise 1) := by
    unfold countCard
    dsimp only
    split <;> simp
  unfold State.cardCounter
  rw [key, tget_tset]
  by_cases hc : c = d
  · simp [hc, State.cardCounter]
  · have : c.idx ≠ d.idx := fun e => hc (CardCounter.idx_injective e)
    simp [hc, this]

/-! ## Ports -/

/-- The fields of a record that no change of line state writes (R3, R5, R13 to R17). -/
theorem changeState_others (p q : PortId) (ns : LineState) (w l : Bool) (s : State) (h : p ≠ q) :
    (changeState p ns w l s).port q = s.port q := by
  have hs : ∀ t : State, t.ports = (s.setPort p (((s.port p).leave ns l).enter ns w)).ports → t.port q = s.port q := by
    intro t ht
    unfold State.port
    rw [ht]
    exact setPort_port_ne s _ h
  apply hs
  unfold changeState
  dsimp only
  repeat' split
  all_goals simp

theorem changeState_port_self (p : PortId) (ns : LineState) (w l : Bool) (s : State) :
    (changeState p ns w l s).port p = ((s.port p).leave ns l).enter ns w := by
  have hs : ∀ t : State, t.ports = (s.setPort p (((s.port p).leave ns l).enter ns w)).ports →
      t.port p = ((s.port p).leave ns l).enter ns w := by
    intro t ht
    unfold State.port
    rw [ht]
    exact setPort_port_self s p _
  apply hs
  unfold changeState
  dsimp only
  repeat' split
  all_goals simp

theorem Port.powerTo_lineState (m : PowerMode) (r : Port) : (r.powerTo m).lineState = r.lineState := by
  unfold Port.powerTo
  dsimp only
  repeat' split
  all_goals rfl

theorem Port.enter_lineState (ns : LineState) (w : Bool) (r : Port) : (r.enter ns w).lineState = ns := by
  unfold Port.enter
  dsimp only
  rw [Port.powerTo_lineState]
  cases ns <;> rfl

/-- A port that changes its line state is in the new one. -/
@[simp] theorem changeState_lineState (p : PortId) (ns : LineState) (w l : Bool) (s : State) :
    ((changeState p ns w l s).port p).lineState = ns := by
  rw [changeState_port_self, Port.enter_lineState]

theorem Port.powerTo_relays (m : PowerMode) (r : Port) :
    (r.powerTo m).serviceClosed = r.serviceClosed ∧ (r.powerTo m).testClosed = r.testClosed := by
  unfold Port.powerTo
  dsimp only
  repeat' split
  all_goals exact ⟨rfl, rfl⟩

/-- No change of line state moves a relay (R5). -/
theorem Port.change_relays (ns : LineState) (w l : Bool) (r : Port) :
    ((r.leave ns l).enter ns w).serviceClosed = r.serviceClosed ∧ ((r.leave ns l).enter ns w).testClosed = r.testClosed := by
  have hl : (r.leave ns l).serviceClosed = r.serviceClosed ∧ (r.leave ns l).testClosed = r.testClosed := by
    unfold Port.leave
    dsimp only
    split <;> exact ⟨rfl, rfl⟩
  unfold Port.enter
  dsimp only
  rw [(Port.powerTo_relays _ _).1, (Port.powerTo_relays _ _).2]
  cases ns <;> exact hl

/-! ## Claims -/

/-- The entry that is written. -/
theorem setClaim_entries (b : BinderId) (e : ClaimEntry) (s : State) :
    (setClaim b e s).clt.entries = tset s.clt.entries b e := by
  unfold setClaim
  dsimp only
  repeat' split
  all_goals simp

@[simp] theorem setClaim_own (b : BinderId) (e : ClaimEntry) (s : State) : (setClaim b e s).clt.own = s.clt.own := by
  unfold setClaim
  dsimp only
  repeat' split
  all_goals simp

@[simp] theorem setClaim_claim_self (b : BinderId) (e : ClaimEntry) (s : State) : (setClaim b e s).claim b = e := by
  simp [State.claim, setClaim_entries]

theorem setClaim_claim_ne {b c : BinderId} (e : ClaimEntry) (s : State) (h : b ≠ c) :
    (setClaim b e s).claim c = s.claim c := by
  simp [State.claim, setClaim_entries, tget_tset_ne _ _ h]

/-! ## Lists of control items -/

/-- What the expiry of a binder's claim leaves in each entry (R104). -/
theorem expireClaim_claim (b c : BinderId) (s : State) :
    (expireClaim b s).claim c = if b = c ∧ (s.claim c).runsOut = true then ClaimEntry.vacant else s.claim c := by
  unfold expireClaim
  by_cases h : b = c
  · subst h
    by_cases hr : (s.claim b).runsOut = true <;> simp [hr]
  · split
    · simp [h, setClaim_claim_ne _ _ h]
    · simp [h]

theorem foldl_expireClaim_claim (bs : List BinderId) (c : BinderId) (s : State) :
    (bs.foldl (fun u b => expireClaim b u) s).claim c =
      if c ∈ bs ∧ (s.claim c).runsOut = true then ClaimEntry.vacant else s.claim c := by
  induction bs generalizing s with
  | nil => simp
  | cons b bs ih =>
    rw [List.foldl_cons, ih, expireClaim_claim]
    by_cases hr : (s.claim c).runsOut = true
    · by_cases hb : b = c
      · subst hb
        simp [hr]
      · simp [hr, hb, Ne.symm hb]
    · simp [hr]

/-- What one millisecond leaves in each entry (R104). -/
theorem idleTick_claim (c : BinderId) (s : State) :
    (idleTick s).claim c = if (s.claim c).runsOut = true then ClaimEntry.vacant else (s.claim c).tick := by
  have hm : c ∈ allBinders := by revert c; decide
  have h := foldl_expireClaim_claim allBinders c s
  simp only [hm, true_and] at h
  have ht : (idleTick s).claim c = ((allBinders.foldl (fun u b => expireClaim b u) s).claim c).tick := by
    simp [idleTick, State.claim, tget]
  rw [ht, h]
  split
  · rfl
  · rfl

theorem countP_replaceOrAppend (sort q : CtrlItem → Bool) (item : CtrlItem) (hq : ∀ x, sort x = true → q x = q item)
    (l : List CtrlItem) :
    (replaceOrAppend sort item l).countP q = if l.any sort then l.countP q else l.countP q + (if q item then 1 else 0) := by
  induction l with
  | nil => simp [replaceOrAppend, List.countP_cons]
  | cons x xs ih =>
    by_cases hx : sort x = true
    · simp [replaceOrAppend, hx, List.countP_cons, hq x hx]
    · have e : replaceOrAppend sort item (x :: xs) = x :: replaceOrAppend sort item xs := by
        simp [replaceOrAppend, hx]
      rw [e, List.countP_cons, List.countP_cons, ih, List.any_cons]
      simp only [hx, Bool.false_or]
      by_cases h : xs.any sort = true
      · simp [h]
      · simp only [h]
        simp only [Bool.false_eq_true, if_false]
        omega

/-! ## Pools -/

@[simp] theorem giveBack_freeCells (f : Frame) (x : Fst) : (x.giveBack f).freeCells = x.freeCells + f.cells := rfl
@[simp] theorem giveBack_freeRecords (f : Frame) (x : Fst) : (x.giveBack f).freeRecords = x.freeRecords + 1 := rfl
@[simp] theorem takeOut_freeCells (f : Frame) (x : Fst) : (x.takeOut f).freeCells = x.freeCells - f.cells := rfl
@[simp] theorem takeOut_freeRecords (f : Frame) (x : Fst) : (x.takeOut f).freeRecords = x.freeRecords - 1 := rfl

@[simp] theorem cellsIn_nil : cellsIn [] = 0 := rfl
@[simp] theorem cellsIn_cons (f : Frame) (q : List Frame) : cellsIn (f :: q) = f.cells + cellsIn q := by
  simp [cellsIn]
@[simp] theorem cellsIn_append (q r : List Frame) : cellsIn (q ++ r) = cellsIn q + cellsIn r := by
  simp [cellsIn]

/-- A mark changes no frame's cells. -/
@[simp] theorem cellsIn_markHead (q : List Frame) : cellsIn (markHead q) = cellsIn q := by
  cases q <;> simp [markHead, Frame.cells]

@[simp] theorem length_markHead (q : List Frame) : (markHead q).length = q.length := by
  cases q <;> simp [markHead]

/-- A flush parts the queue: what it keeps and what it removes (R46). -/
theorem flush_parts (q : List Frame) : keptByFlush q ++ flushedFrom q = q := by
  cases q with
  | nil => rfl
  | cons f fs => by_cases h : f.inFlight = true <;> simp [keptByFlush, flushedFrom, h]

/-- A frame occupies at least one cell (R37). -/
theorem one_le_cells (f : Frame) : 1 ≤ f.cells := Nat.le_max_left _ _

end Sys2Proof.Machine
end

