-- ==== Sys2Proof/Tests/Slice0.lean ====
section
/-! SUPPORT. Tests: the well-formedness checks, the spec's worked figures, and a witness for the hypotheses of every
statement. -/

namespace Sys2Proof.Tests

open Sys2Proof Sys2Proof.Machine

set_option Elab.async false

/-! ## Small states -/

/-- A card out of reset in a start state, all else at its reset values. -/
def up (ss : StartState) : State :=
  { State.reset with
    pins := { State.reset.pins with resetAsserted := false }
    stc := { State.reset.stc with startState := ss } }

/-- A card in RUNNING. -/
def on : State := up .running

/-- An enabled port with its link ON in a line state. -/
def line (ls : LineState) : Port := { Port.initial with admin := true, power := .on, lineState := ls }

/-- A card in RUNNING with port 3 as given. -/
def card (r : Port) : State := on.setPort 3 r

/-- A frame of some bytes. -/
def frame (kind : FrameKind) (n : Nat) (inFlight : Bool) : Frame :=
  { kind := kind, port := 3, payload := List.replicate n 0, inFlight := inFlight }

/-- The card with port 3's queues as given. -/
def queued (ups downs : List Frame) (s : State) : State :=
  { s with fst := { s.fst with up := tset s.fst.up 3 ups, down := tset s.fst.down 3 downs } }

/-- The card with its transmitter in a state, with a frame in hand. -/
def sending (st : TxState) (jam gap : Bool) (n : Nat) (hand : InHand) (s : State) : State :=
  { s with bau := { s.bau with tx :=
    { st := st, hand := some hand, collisions := n, backoff := 0, jamming := jam, gapCounting := gap } } }

/-- The card with one claim table entry and the own claim context. -/
def claims (b : BinderId) (e : ClaimEntry) (own : Option (BinderId × ClaimStep)) (s : State) : State :=
  { s with clt := { entries := tset s.clt.entries b e, own := own } }

/-- A claim entry. -/
def entry (phase : ClaimPhase) (y : StationId) (own : Bool) : ClaimEntry :=
  { phase := phase, claimant := some y, remaining := 500, own := own }

/-- A test request. -/
def asks (p : PortId) (k : TestKind) : TestReq :=
  { port := p, kind := k, intrusive := true, tone := none, origin := .management, arrival := 0 }

/-- A running test of a kind on a port, in a state and a stage. -/
def runs (p : PortId) (k : TestKind) (st : SeqState) (stage : Option Stage) : Running :=
  { newRunning (asks p k) 1 with st := st, stage := stage, deadTimer := true, outcome := some .pass }

/-- The card with a running test. -/
def testing (r : Running) (s : State) : State := { s with tsq := { s.tsq with running := some r } }

/-- The card with the measurement stage and the converter's holder as given. -/
def measuring (r : StageRun) (h : Holder) (s : State) : State := { s with msu := { s.msu with run := r, holder := h } }

/-- The card with its cabinet supply state. -/
def supply (x : Supply) (s : State) : State := { s with smn := { s.smn with cabinet := x } }

/-- The card with these free cells and records. -/
def pools (cells records : Nat) (s : State) : State :=
  { s with fst := { s.fst with freeCells := cells, freeRecords := records } }

/-! ## WellFormed: an ill-formed term for each check -/

theorem test_wellFormed_upstreamFrame_empty : WellFormed (.upstreamFrame 0 []) = false := by decide
theorem test_wellFormed_upstreamFrame_long : WellFormed (.upstreamFrame 0 (List.replicate 1537 0)) = false := by
  decide +kernel
theorem test_wellFormed_upstreamFrame_limit : WellFormed (.upstreamFrame 0 (List.replicate 1536 0)) = true := by
  decide +kernel
theorem test_wellFormed_dataReceived_empty : WellFormed (.dataReceived 0 []) = false := by decide
theorem test_wellFormed_mreqReceived_long : WellFormed (.mreqReceived (List.replicate 1537 0)) = false := by
  decide +kernel
theorem test_wellFormed_configWrite_long : WellFormed (.configWrite 0 0 (List.replicate 766 0)) = false := by
  decide +kernel
theorem test_wellFormed_mreqUnknownKind_known : WellFormed (.mreqUnknownKind [0, 0, 13]) = false := by decide
theorem test_wellFormed_mreqUnknownKind_unknown : WellFormed (.mreqUnknownKind [0, 0, 14]) = true := by decide
theorem test_refused_upstreamFrame_empty : exec (.upstreamFrame 0 []) on = .refused .illFormed := rfl

/-! ## The spec's worked figures -/

/-- R27's table: 24000 and 5000 kbit/s against the default profiles. -/
theorem test_selection_table :
    selectProfile defaultCfg.profiles 0 24000 5000 none = some 1 ∧
      selectProfile defaultCfg.profiles 0 24000 5000 (some 3200) = some 2 ∧
      selectProfile defaultCfg.profiles 2 24000 5000 (some 2400) = some 2 ∧
      selectProfile defaultCfg.profiles 1 24000 5000 (some 2400) = some 1 ∧
      selectProfile defaultCfg.profiles 0 24000 5000 (some 6000) = some 3 ∧
      selectProfile defaultCfg.profiles 0 1500 5000 none = none := by decide

/-- 05, worked case "two entries satisfied in one pass". -/
theorem test_shares_two_in_one_pass :
    let x := computeShares 1000 [⟨1, 300, 4⟩, ⟨3, 100, 1⟩, ⟨6, 230, 2⟩, ⟨7, 900, 3⟩]
    x.grantOf 1 = 300 ∧ x.grantOf 7 = 370 ∧ x.handedOut = 1000 := by decide

/-- 05, worked case "a rounding remainder". -/
theorem test_shares_rounding :
    let x := computeShares 1001 [⟨0, 150, 2⟩, ⟨2, 700, 3⟩, ⟨4, 600, 2⟩]
    x.grantOf 2 = 510 ∧ x.grantOf 4 = 340 ∧ x.handedOut = 1000 := by decide

/-- 05, worked case "zero capacity". -/
theorem test_shares_zero_capacity :
    (computeShares 0 [⟨0, 10, 1⟩, ⟨5, 40, 2⟩]).grantOf 5 = 0 := by decide

/-- 05, worked sequence 5.6: the credit −4 and a grant of 30. -/
theorem test_credit_debt_is_repaid :
    (expiryCredit { on with shu := { on.shu with credit := -4, grant := 30 } }).shu.credit = 26 := rfl

/-- 09, section 9.6: the insulation figures. -/
theorem test_insulation_figures :
    resistance 10000 384 380 = 950000 ∧ resistance 10000 384 383 = 3830000 ∧ resistance 10000 384 300 = 35714 ∧
      insClass defaultCfg.insulationThreshold 35714 = .leak := by decide

/-- 09, section 9.6: the means of the three FOREIGN_VOLTAGE inputs, rounded half up. -/
theorem test_means : meanOf 64 [130] = 2 ∧ meanOf 64 [-70] = -1 ∧ meanOf 64 [410] = 6 := by decide

/-- 09, section 9.6: a crossing at 1600 µs is 160 nF, and the reference is 242 codes. -/
theorem test_capacitance_figures :
    capFigures defaultCfg 1600 = .measured 160 3200 ∧ capReference defaultCfg = 242 := by decide +kernel

/-- R102: the lower station keeps an even meeting, and HELD keeps against PENDING. -/
theorem test_claim_precedence :
    keepsFirst false false 1 4 = true ∧ keepsFirst true true 4 1 = false ∧ keepsFirst true false 4 1 = true ∧
      keepsFirst false true 1 4 = false := by decide

/-- 03, section 3.9, port 5: 1536 bytes fit at 74 free cells and 17 records, 200 bytes fail on the pool, and 64 bytes fail
on the records. -/
theorem test_admission_example :
    let at' := fun (cells records : Nat) =>
      { card (line .inService) with fst := { on.fst with freeCells := cells, freeRecords := records } }
    admission (at' 74 17) 3 .down 24 = none ∧ admission (at' 50 16) 3 .down 4 = some .pool ∧
      admission (at' 50 16) 3 .down 1 = some .record := by decide +kernel

/-- The CRC of R51 on "123456789" (PRESUMED: the published check value of this CRC-32 variant, not the spec's). -/
theorem test_crc_check_value :
    crc32 [0x31, 0x32, 0x33, 0x34, 0x35, 0x36, 0x37, 0x38, 0x39] = 0xFC891918 := by decide +kernel

set_option maxRecDepth 10000 in
/-- A built frame is accepted and loses one bit to RX_CRC (R51, R64). -/
theorem test_frame_is_checked :
    checkFrame (busFrame .release 15 2 31 [4, 0]) = .inr .release ∧
      checkFrame ((busFrame .release 15 2 31 [4, 0]).set 8 5) = .inl .rxCrc := by decide +kernel

/-- The first ADVERT's payload of a card in JOINING (R83, R84, R173). -/
theorem test_advert_layout :
    (CtrlItem.advert 300 4 .battery true 7).wire.2 = [1, 44, 0, 4, 1, 1, 7, 0] := by decide

/-- R146: 2300 codes are 460 dV, which is MAINS from MAINS and not from BATTERY. -/
theorem test_candidate_hysteresis :
    candidateOf defaultCfg .mains true (decivolts 2300) = .mains ∧
      candidateOf defaultCfg .battery true (decivolts 2300) = .battery ∧
      candidateOf defaultCfg .mains true (decivolts 2149) = .critical := by decide

/-- R142: the ninth eighth of a 250 ms burst is silence, and 240 s make 4 minutes. -/
theorem test_tone_envelope :
    toneDrive ⟨.hz800, .ms250, 60⟩ 8 = .off ∧ toneDrive ⟨.hz800, .ms250, 60⟩ 17 = .tone .hz800 7 ∧
      toneMinutes ⟨.hz800, .ms250, 60⟩ 7680 = 4 := by decide

/-- The table gives no row any bits, so no word spells a command. -/
theorem test_no_word_spells_a_command : decodeTableWord 16 0x1234 = none := rfl

/-! ## Witnesses for the hypotheses of the statements -/

theorem test_witness_StepRunsFrontCommand :
    { on with pending := [.settleExpiry, .captureLimit] }.pending = Instr.settleExpiry :: [.captureLimit] := rfl

theorem test_witness_ResetReleaseAndHoldEnd :
    (State.reset.pins.resetAsserted = true ∧ State.reset.tsq.queue = [] ∧ State.reset.fst.requests = [] ∧
        State.reset.mga.waiting = []) ∧
      (let s := { State.reset with relayHold := .elapsed }.setPort 3
         { Port.initial with serviceClosed := false, serviceHeld := true }
       s.pins.resetAsserted = true ∧ s.relayHold = .elapsed ∧ (s.port 3).serviceHeld = true ∧ s.tsq.queue = [] ∧
         s.fst.requests = [] ∧ s.mga.waiting = []) ∧
      (let s := { State.reset with relayHold := .running }
       s.relayHold = .running ∧ s.pins.resetAsserted = true ∧ s.stc.startState = .reset) ∧
      (let s := { on with relayHold := .running }
       s.relayHold = .running ∧ s.pins.resetAsserted = false ∧ Unburdened s) := by
  unfold Unburdened; decide +kernel

/-- A good image of the least length: 16 and 65520 sum to 0. -/
def goodWords : List Word16 := [16, 65520, 0, 0, 0, 0, 0, 0, 0, 0, 0, 0, 0, 0, 0, 0]

theorem test_witness_StoredImageEndsLoading :
    (let s := up .loading
     Unburdened s ∧ s.stc.startState = .loading ∧ s.stc.startMode = 0 ∧ goodWords.head? = some 16 ∧
       (16 : Word16).toNat ≤ goodWords.length ∧ ((goodWords.take 16).map BitVec.toNat).sum % 65536 = 0) ∧
      ([15] : List Word16).head? = some 15 ∧ ¬16 ≤ (15 : Word16).toNat := by
  unfold Unburdened; decide +kernel

/-- The binder is free, and claimed by a peer. -/
theorem test_witness_ActivityLeadsToTraining :
    ∀ ph : ClaimPhase, ph = .free ∨ ph = .held →
      (let s := claims 0 (entry ph 4 false) none (card { line .waiting with persistTimer := true })
       Unburdened s ∧ (s.port 3).lineState = .waiting ∧ (s.port 3).persistTimer = true ∧
         s.claimed (s.port 3).binder = decide (ph = .held)) ∧
      (let s := claims 0 (entry ph 4 false) none (card { line .shed with wakeWatch := true, reportAwaited := true })
       Unburdened s ∧ (s.port 3).lineState = .shed ∧ (s.port 3).wakeWatch = true ∧ (s.port 3).reportAwaited = true) ∧
      (let s := claims 0 (entry ph 4 false) none (card { line .shed with wakeWatch := true, wakeArmed := true })
       Unburdened s ∧ (s.port 3).lineState = .shed ∧ (s.port 3).wakeWatch = true ∧ (s.port 3).reportAwaited = false ∧
         (s.port 3).wakeArmed = true ∧ s.claimed (s.port 3).binder = decide (ph = .held)) ∧
      ∀ x : Supply, ∀ pr : Bool, let s := supply x (card { line .hold with priority := pr })
        Unburdened s ∧ (s.port 3).lineState = .hold ∧ (s.port 3).power = .on ∧ s.smn.cabinet = x ∧
          (s.port 3).priority = pr := by
  intro ph h
  refine ⟨?_, ?_, ?_, fun x pr => ?_⟩
  · rcases h with rfl | rfl <;> (unfold Unburdened; decide +kernel)
  · rcases h with rfl | rfl <;> (unfold Unburdened; decide +kernel)
  · rcases h with rfl | rfl <;> (unfold Unburdened; decide +kernel)
  · cases x <;> cases pr <;> (unfold Unburdened; decide +kernel)

theorem test_witness_TrainReportCommitsProfile :
    let s := card { line .training with phase := .report }
    Unburdened s ∧ (s.port 3).lineState = .training ∧ (s.port 3).phase = .report ∧
      selectProfile s.cfg.profiles (ceilingOf s 3) (24000 : BitVec 20).toNat (5000 : BitVec 20).toNat
        (s.port 3).loopEst = some 1 := by
  unfold Unburdened; decide +kernel

theorem test_witness_FailedAttemptRetries :
    let s := fun (ph : TrainPhase) =>
      card { line .training with phase := ph, failures := 1, trainTimer := true, readyTimer := true }
    (∀ ph, ph = .report ∨ ph = .ready →
      Unburdened (s ph) ∧ ((s ph).port 3).lineState = .training ∧ ((s ph).port 3).failures < 2 ∧
        ((s ph).portCounter 3 .trainFails).saturates 1 = false ∧
        ((s ph).port 3).phase = ph ∧ ((s ph).port 3).trainTimer = true ∧ ((s ph).port 3).readyTimer = true) ∧
      selectProfile (s .report).cfg.profiles (ceilingOf (s .report) 3) (1500 : BitVec 20).toNat
        (5000 : BitVec 20).toNat ((s .report).port 3).loopEst = none := by
  refine ⟨fun ph h => ?_, by decide +kernel⟩
  rcases h with rfl | rfl <;> (unfold Unburdened; decide +kernel)

theorem test_witness_ThirdFailureWaitsAndAsksForTest :
    let r := runs 5 .quickCheck .isolating none
    let s := testing r (card { line .training with phase := .report, failures := 2 })
    Unburdened s ∧ (s.port 3).lineState = .training ∧ (s.port 3).phase = .report ∧ (s.port 3).failures = 2 ∧
      s.smn.cabinet = .mains ∧ s.tsq.running = some r ∧ r.req.port ≠ 3 := by
  unfold Unburdened; decide +kernel

theorem test_witness_ReadyEntersService :
    let s := card { line .training with phase := .ready }
    Unburdened s ∧ (s.port 3).lineState = .training ∧ (s.port 3).phase = .ready ∧ (s.port 3).power = .on := by
  unfold Unburdened; decide +kernel

theorem test_witness_MarginCountsAndRetrains :
    (let s := claims 0 (entry .held 4 false) none (card (line .inService))
     Unburdened s ∧ (s.port 3).lineState = .inService ∧ s.claimed (s.port 3).binder = true) ∧
      (let s := card { line .inService with marginLow := 2 }
       let t := card { line .inService with marginLow := 1 }
       Unburdened s ∧ (s.port 3).lineState = .inService ∧ s.claimed (s.port 3).binder = false ∧
         s.cfg.retrainThreshold ≤ (6 : Byte).toNat ∧ (5 : Byte).toNat < s.cfg.retrainThreshold ∧
         (s.port 3).marginLow = 2 ∧ Unburdened t ∧ (t.port 3).lineState = .inService ∧
         t.claimed (t.port 3).binder = false ∧ (t.port 3).marginLow < 2) := by
  unfold Unburdened; decide +kernel

theorem test_witness_FarFaultIsCountedAndNoticed :
    ∀ ls : LineState, Unburdened (card (line ls)) ∧ ((card (line ls)).port 3).lineState = ls := by
  intro ls; cases ls <;> (unfold Unburdened; decide +kernel)

/-- A counter one short of its maximum, and one at it with its sticky flag set. -/
theorem test_witness_FarFault_saturates :
    let full : Counter := { value := 4294967295, sticky := true }
    let s := { on with mga := { on.mga with
      portCounters := tset on.mga.portCounters 3
        (tset (tset (tconst 18 Counter.zero) PortCounter.farFaults.idx { value := 4294967294, sticky := false })
          PortCounter.sheds.idx full) } }
    (s.portCounter 3 .farFaults).sticky = false ∧ 4294967295 ≤ (s.portCounter 3 .farFaults).value + 1 ∧
      (s.portCounter 3 .sheds).sticky = true ∧ (s.portCounter 3 .retrains).value + 1 < 4294967295 ∧
      (on.cardCounter .collisions).value < 4294967294 := by
  decide +kernel

/-- A clear flag, enabled and not, with room and nothing waiting, with a waiting notice, and without room. -/
theorem test_witness_FarFault_notices :
    (on.flagSet .hazard = false ∧ on.mga.mask.getLsbD Cause.hazard.bit = true ∧ on.mga.waiting = [] ∧
        on.fst.responses.length < 8 ∧ 1 ≤ on.fst.freeCells ∧ 1 ≤ on.fst.freeRecords) ∧
      (let s := { on with mga := { on.mga with flags := 2, mask := 1021, waiting := [.notice .testDone] } }
       s.flagSet .hazard = true ∧ s.flagSet .testDone = false ∧ s.mga.mask.getLsbD Cause.testDone.bit = true ∧
         s.mga.mask.getLsbD Cause.hazard.bit = false ∧ s.mga.waiting ≠ []) ∧
      ¬1 ≤ (pools 0 16 on).fst.freeCells := by
  decide +kernel

theorem test_witness_SignalLostLeavesTraffic :
    (∀ x : Supply, let s := supply x (card { line .inService with priority := true })
      Unburdened s ∧ (s.port 3).lineState = .inService ∧ (s.port 3).power = .on ∧ s.smn.cabinet = x ∧
        (s.port 3).priority = true) ∧
      (let s := supply .critical (card (line .training))
       Unburdened s ∧ (s.port 3).lineState = .training ∧ 3 ∉ s.usc.active ∧ (s.port 3).power = .on ∧
         s.smn.cabinet = .critical ∧ (s.port 3).priority = false) := by
  refine ⟨fun x => ?_, by unfold Unburdened; decide +kernel⟩
  cases x <;> (unfold Unburdened; decide +kernel)

theorem test_witness_FrameRequestPullsHeadFrame :
    (let s := card (line .waiting)
     Unburdened s ∧ (s.port 3).lineState ≠ .inService) ∧
      (let s := card (line .inService)
       Unburdened s ∧ (s.port 3).lineState = .inService ∧ tget s.fst.down 3 = []) ∧
      (let f := frame .data 65 false
       let s := queued [] [f] (card (line .inService))
       Unburdened s ∧ (s.port 3).lineState = .inService ∧ tget s.fst.down 3 = f :: [] ∧
         (s.portCounter 3 .dnFrames).saturates 1 = false ∧ (s.portCounter 3 .dnBlocks).saturates f.blocks = false) := by
  unfold Unburdened; decide +kernel

theorem test_witness_IdleExpirySetsFlagOrSheds :
    ∀ x : Supply, ∀ pr : Bool, let s := supply x (card { line .inService with idleTimer := true, priority := pr })
      Unburdened s ∧ (s.port 3).lineState = .inService ∧ (s.port 3).idleTimer = true ∧ s.smn.cabinet = x ∧
        (s.port 3).priority = pr := by
  intro x pr; cases x <;> cases pr <;> (unfold Unburdened; decide +kernel)

/-- One frame of 64 bytes: beside full queues, with 48 free cells, and with 16 free records. -/
theorem test_witness_FailedAdmissionOnlyCounts :
    let payload : List Byte := List.replicate 64 0
    (1 ≤ payload.length ∧ payload.length ≤ 1536 ∧ (payload.length + 63) / 64 = 1) ∧
      (let s := card (line .hold)
       Unburdened s ∧ ¬(s.port 3).lineState = .inService) ∧
      (let s := queued [frame .data 64 false] [frame .data 64 false] (card (line .inService))
       let t := { s with cfg := { s.cfg with uqMax := 1, dqMax := 1 } }
       Unburdened t ∧ (t.port 3).lineState = .inService ∧ ¬cellsIn (tget t.fst.up 3) + 1 ≤ t.cfg.uqMax ∧
         ¬cellsIn (tget t.fst.down 3) + 1 ≤ t.cfg.dqMax) ∧
      (let s := pools 48 1024 (card (line .inService))
       Unburdened s ∧ (s.port 3).lineState = .inService ∧ cellsIn (tget s.fst.up 3) + 1 ≤ s.cfg.uqMax ∧
         cellsIn (tget s.fst.down 3) + 1 ≤ s.cfg.dqMax ∧ ¬1 + 48 ≤ s.fst.freeCells) ∧
      (let s := pools 49 16 (card (line .inService))
       Unburdened s ∧ (s.port 3).lineState = .inService ∧ cellsIn (tget s.fst.up 3) + 1 ≤ s.cfg.uqMax ∧
         cellsIn (tget s.fst.down 3) + 1 ≤ s.cfg.dqMax ∧ 1 + 48 ≤ s.fst.freeCells ∧ s.fst.freeRecords < 17) := by
  unfold Unburdened; decide +kernel

/-- One frame of 64 bytes that fits exactly, with the pull-pending flag clear and set. -/
theorem test_witness_AdmittedFramesJoinTheirQueues :
    ∀ pull : Bool,
      let s := pools 49 17 (card (line .inService))
      let t := { s with
        cfg := { s.cfg with uqMax := 1, dqMax := 1 }
        fst := { s.fst with pull := tset s.fst.pull 3 pull } }
      Unburdened t ∧ (t.port 3).lineState = .inService ∧ cellsIn (tget t.fst.up 3) + 1 ≤ t.cfg.uqMax ∧
        cellsIn (tget t.fst.down 3) + 1 ≤ t.cfg.dqMax ∧ 1 + 48 ≤ t.fst.freeCells ∧ 17 ≤ t.fst.freeRecords ∧
        tget t.fst.pull 3 = pull ∧ tget t.fst.down 3 = [] := by
  intro pull; cases pull <;> (unfold Unburdened; decide +kernel)

theorem test_witness_FlushKeepsOnlyHeadInFlight :
    (card (line .inService)).portCounter 3 .flushed = { value := 0, sticky := false } ∧
      ((card (line .inService)).portCounter 3 .flushed).saturates 2 = false := by
  decide +kernel

/-- The bytes of a carrier with this header, this announced length and so many bytes after the header, with a good CRC. -/
def carrier (kind dest source port announced n : Nat) : List Byte :=
  let body := [u8 kind, u8 (dest * 16 + source), u8 port, 0, u8 (announced / 256), u8 announced, 0, 0] ++
    List.replicate n 0
  body ++ crcBytes body

/-- A carrier passes the checks of its length and its CRC (R64). -/
def sound (bytes : List Byte) : Bool :=
  let announced := (byteAt bytes 4).toNat * 256 + (byteAt bytes 5).toNat
  decide (64 ≤ bytes.length) && decide (bytes.length ≤ 1548) && decide (announced ≤ 1536) &&
    decide (announced + 12 ≤ bytes.length) &&
    decide (crcBytes (bytes.take (bytes.length - 4)) = bytes.drop (bytes.length - 4))

set_option maxRecDepth 100000 in
/-- The own station number is 1. Runts and wrong CRCs; 1537 announced bytes, 53 in 64, and 1549 bytes with a CRC at the
1548th. -/
theorem test_witness_BadCarriersAreCountedAndDropped :
    (Unburdened on ∧ on.bau.tx.st ≠ .sending ∧ on.stc.station.val + 1 = 1) ∧
      Unburdened (sending .sending false false 0 (.data 3) on) ∧
      (List.replicate 63 (0 : Byte)).length < 64 ∧
      (let bytes := (carrier 4 15 2 31 2 52).set 8 5
       bytes.length = 64 ∧ ¬crcBytes (bytes.take (bytes.length - 4)) = bytes.drop (bytes.length - 4)) ∧
      (∀ b, b ∈ [carrier 1 1 0 3 1537 52, carrier 1 1 0 3 53 52] →
        b.length = 64 ∧ crcBytes (b.take (b.length - 4)) = b.drop (b.length - 4) ∧ sound b = false) ∧
      (let b := carrier 1 1 0 3 1536 1536 ++ [0]
       let taken := b.take 1548
       b.length = 1549 ∧ crcBytes (taken.take (taken.length - 4)) = taken.drop (taken.length - 4)) := by
  unfold Unburdened; decide +kernel

set_option maxRecDepth 20000 in
/-- Sound carriers for the later checks: the kinds 9 and 0, an ADVERT of 4 bytes and empty DATA; the own source; the source
9, an MREQ and DATA for the card from a station; station 2's; an MRSP and a NOTICE; port 16, port 30, and station 15 as the
destination of DATA and MREQ. -/
theorem test_witness_BadCarriers_by_header :
    (∀ b, b ∈ [carrier 9 15 2 31 0 52, carrier 0 15 2 31 0 52, carrier 2 15 2 31 4 52, carrier 1 1 0 3 0 52,
        carrier 4 15 1 31 2 52,
        carrier 4 15 9 31 2 52, carrier 6 1 2 31 0 52, carrier 1 1 3 3 1 52,
        carrier 4 2 3 31 2 52,
        carrier 7 1 2 31 0 52, carrier 8 1 2 31 0 52,
        carrier 1 1 0 16 1 52, carrier 6 1 0 30 0 52, carrier 1 15 0 3 1 52, carrier 6 15 0 31 0 52] →
      sound b = true) ∧
      (∀ b, b ∈ [carrier 4 2 3 31 2 52, carrier 7 1 2 31 0 52, carrier 1 1 0 16 1 52] →
        (∃ k, checkFrame b = .inr k) ∧ (byteAt b 1).toNat % 16 ≠ 1) := by
  refine ⟨by decide +kernel, fun b h => ⟨?_, ?_⟩⟩
  all_goals
    simp only [List.mem_cons, List.not_mem_nil, or_false] at h
    rcases h with rfl | rfl | rfl
  · exact ⟨.release, by decide +kernel⟩
  · exact ⟨.mrsp, by decide +kernel⟩
  · exact ⟨.data, by decide +kernel⟩
  all_goals decide +kernel

theorem test_witness_ReceiverReadsTheLayouts :
    on.stc.startState ≠ .reset ∧ on.bau.tx.st ≠ .sending ∧
      (sending .deferring false false 0 (.data 3) on).bau.tx.st = .deferring ∧ (4 : StationId) ≠ on.stc.station ∧
      1 ≤ (List.replicate 1536 (0 : Byte)).length ∧ (List.replicate 1536 (0 : Byte)).length ≤ 1536 := by
  decide +kernel

theorem test_witness_AdvertsAndCapacityAreTaken :
    ∀ ss : StartState, ss ≠ .reset →
      let s := up ss
      let e : Peer :=
        { present := true, demand := 40, weight := 1, supply := .mains, joining := false, lastSeq := 7, age := 0 }
      Unburdened s ∧ s.stc.startState = ss ∧ (4 : StationId) ≠ s.stc.station ∧
        worstSupply (setPeer 4 e s) = s.smn.cabinet := by
  intro ss h; cases ss
  · exact absurd rfl h
  all_goals (unfold Unburdened; decide +kernel)

theorem test_witness_ClaimTakesFreeEntry :
    (let s := card { line .training with phase := .report }
     Unburdened s ∧ (4 : StationId) ≠ s.stc.station ∧ (s.claim 0).phase = .free ∧ (s.port 3).binder = 0 ∧
       (s.port 3).lineState = .training ∧ (s.port 3).phase ≠ .none ∧ (s.port 3).power = .on) ∧
      (let s := claims 0 (entry .pending 4 false) none on
       Unburdened s ∧ (s.claim 0).phase ≠ .free ∧ (s.claim 0).own = false ∧ (s.claim 0).claimant = some 4) := by
  unfold Unburdened; decide +kernel

theorem test_witness_PeerClaimsAreResolvedByPhase :
    ∀ ph : ClaimPhase, ph = .pending ∨ ph = .held →
      let s := claims 0 (entry ph 4 false) none on
      Unburdened s ∧ (5 : StationId) ≠ s.stc.station ∧ (4 : StationId) ≠ 5 ∧ (s.claim 0).phase ≠ .free ∧
        (s.claim 0).own = false ∧ (s.claim 0).claimant = some 4 ∧ (s.claim 0).phase = ph := by
  intro ph h
  rcases h with rfl | rfl <;> (unfold Unburdened; decide +kernel)

/-- The own station is 3, and peers stand on both sides of it; the test of a HELD claim isolates its port, or runs REFLECTION
or NOISE. -/
theorem test_witness_OwnClaimMeetsPeerClaim :
    ∀ ph : ClaimPhase, ph = .pending ∨ ph = .held → ∀ stage : Option Stage,
      stage = none ∨ stage = some .reflection ∨ stage = some .noise →
      let st : SeqState := if ph = .pending then .claiming else if stage = none then .isolating else .measuring
      let r := runs 3 .lineCheck st stage
      let s0 := testing r (claims 0 (entry ph 3 true)
        (some (0, if ph = .pending then .settling else .held)) (card (line .waiting)))
      let s := { s0 with stc := { s0.stc with station := 3 } }
      Unburdened s ∧ (2 : StationId) < s.stc.station ∧ s.stc.station < (4 : StationId) ∧
        s.clt.own = some (0, if ph = .pending then .settling else .held) ∧ (s.claim 0).own = true ∧
        s.tsq.running = some r ∧ r.req.kind = .lineCheck ∧ (s.port r.req.port).binder = 0 ∧ (s.claim 0).phase = ph ∧
        (ph = .pending → r.st = .claiming) ∧ (stage ≠ none → ph = .held → r.st = .measuring ∧ r.stage = stage) := by
  intro ph h stage hs
  rcases h with rfl | rfl <;> rcases hs with rfl | rfl | rfl <;> (unfold Unburdened; decide +kernel)

/-- The entry counts 500 ms; in its last millisecond it stands at 1. -/
theorem test_witness_ReleaseAndExpiryFreeAPeersEntry :
    (∀ n, n = 0 ∨ n = 1 ∨ n = 2 →
      let s := claims 0 { entry .held 4 false with remaining := n } none (card (line .hold))
      Unburdened s ∧ (4 : StationId) ≠ s.stc.station ∧ (s.claim 0).phase ≠ .free ∧ (s.claim 0).own = false ∧
        (s.claim 0).claimant = some 4 ∧ (s.claim 0).remaining = n ∧ (s.port 3).binder = 0 ∧
        (s.port 3).lineState = .hold ∧ s.pending = []) ∧
      (let s := claims 0 (entry .held 0 true) (some (0, .held)) on
       Unburdened s ∧ (s.claim 0).own = true) ∧
      (let s := claims 0 (entry .held 5 false) none on
       Unburdened s ∧ (s.claim 0).claimant ≠ some 4 ∧ 1 < (s.claim 0).remaining) ∧
      Unburdened on ∧ (on.claim 0).phase = .free := by
  refine ⟨fun n h => ?_, by unfold Unburdened; decide +kernel⟩
  rcases h with rfl | rfl | rfl <;> (unfold Unburdened; decide +kernel)

theorem test_witness_SettledClaimIsHeldAndRenewed :
    (let r := runs 3 .lineCheck .claiming none
     let s := testing r (claims 0 (entry .pending 0 true) (some (0, .settling)) (card (line .waiting)))
     Unburdened s ∧ s.clt.own = some (0, .settling) ∧ s.tsq.running = some r ∧ r.st = .claiming ∧
       (s.claim 0).phase = .pending) ∧
      (let s := claims 0 (entry .held 0 true) (some (0, .held)) on
       Unburdened s ∧ s.clt.own = some (0, .held)) := by
  unfold Unburdened; decide +kernel

theorem test_witness_TransmitterMovesByItsEvents :
    (let s := sending .deferring false true 0 (.data 3) on
     Unburdened s ∧ s.bau.tx.st = .deferring ∧ s.bau.tx.gapCounting = true ∧ s.bau.tx.hand ≠ some .mgmt) ∧
      (let f := frame .mrsp 4 false
       let s0 := sending .deferring false true 0 .mgmt on
       let s := { s0 with fst := { s0.fst with responses := [f] } }
       Unburdened s ∧ s.bau.tx.st = .deferring ∧ s.bau.tx.gapCounting = true ∧ s.bau.tx.hand = some .mgmt ∧
         s.fst.responses = f :: []) ∧
      (let s := sending .sending false false 0 (.data 3) on
       Unburdened s ∧ s.bau.tx.st = .sending ∧ s.bau.tx.jamming = false) ∧
      (let s := sending .backingOff false false 3 (.data 3) on
       Unburdened s ∧ s.bau.tx.st = .backingOff) ∧
      (let s := sending .sending true false 10 (.data 3) on
       Unburdened s ∧ s.bau.tx.st = .sending ∧ s.bau.tx.jamming = true ∧ s.bau.tx.collisions < 11 ∧
         (s.cardCounter .collisions).saturates 1 = false) := by
  unfold Unburdened; decide +kernel

/-- Frames of the longest payload, and of the longest and the shortest on the two sides of the collision window. -/
theorem test_witness_DataFramesEndSentOrAborted :
    ∀ jam : Bool, ∀ n : Nat, n = 52 ∨ n = 53 ∨ n = 1536 →
      let f := frame .data n true
      let s := sending .sending jam false 11 (.data 3) (queued [f] [] (card (line .inService)))
      Unburdened s ∧ s.bau.tx.st = .sending ∧ s.bau.tx.jamming = jam ∧ s.bau.tx.hand = some (.data 3) ∧
        tget s.fst.up 3 = f :: [] ∧ s.bau.tx.collisions = 11 ∧ f.payload.length = n := by
  intro jam n hn
  refine ⟨?_, rfl, rfl, rfl, rfl, rfl, by simp [frame]⟩
  rcases hn with rfl | rfl | rfl <;> cases jam <;> (unfold Unburdened; decide +kernel)

/-- Items of every kind, sent and at their twelfth collision; the test of the withdrawn claim may start again in MAINS and
may not in LOW. -/
theorem test_witness_ControlItemsEndByKind :
    (∀ item : CtrlItem, ∀ jam : Bool, let s := sending .sending jam false 11 (.control item) on
      Unburdened s ∧ s.bau.tx.st = .sending ∧ s.bau.tx.jamming = jam ∧ s.bau.tx.hand = some (.control item) ∧
        s.bau.tx.collisions = 11 ∧ s.clt.own ≠ some (0, .sending) ∧ (s.cardCounter .advertsSent).saturates 1 = false ∧
        (s.cardCounter .collisions).saturates 1 = false) ∧
      ∀ x : Supply, ∀ jam : Bool,
        let r := runs 3 .lineCheck .claiming none
        let s := supply x (testing r (claims 0 (entry .pending 0 true) (some (0, .sending))
          (sending .sending jam false 11 (.control (.claim 0 false 20)) (card (line .waiting)))))
        Unburdened s ∧ s.bau.tx.st = .sending ∧ s.bau.tx.jamming = jam ∧ s.bau.tx.collisions = 11 ∧
          s.bau.tx.hand = some (.control (.claim 0 false 20)) ∧ (s.cardCounter .collisions).saturates 1 = false ∧
          s.clt.own = some (0, .sending) ∧ s.tsq.running = some r ∧ r.st = .claiming ∧ r.req.kind = .lineCheck ∧
          (s.port r.req.port).binder = 0 ∧ s.smn.cabinet = x ∧ s.stc.startState = .running ∧
          r.req.intrusive = true := by
  refine ⟨fun item jam => ⟨?_, rfl, rfl, rfl, rfl, ?_, rfl, rfl⟩, fun x jam => ?_⟩
  · exact ⟨(fun h => by cases h), rfl, rfl, rfl⟩
  · exact fun h => by cases h
  · cases x <;> cases jam <;> (unfold Unburdened; decide +kernel)

/-- The card with DATA waiting on port 3, with this priority, last winner and response queue. -/
def contested (equal : Bool) (w : Winner) (rs : List Frame) : State :=
  let s := queued [frame .data 64 false] [] (card (line .inService))
  { s with
    cfg := { s.cfg with priorityEqual := equal }
    shu := { s.shu with credit := 1 }
    usc := { s.usc with active := [3] }
    bau := { s.bau with lastWinner := w }
    fst := { s.fst with responses := rs } }

/-- Control lists with an item of each kind to replace, with none, and with two RELEASE items for other binders. -/
theorem test_witness_Placements :
    let a := CtrlItem.advert 0 0 .mains false 7
    let c := CtrlItem.claim 4 false 20
    let r := CtrlItem.release 5 false
    let q := CtrlItem.release 6 true
    ([r, a, c] = [r] ++ a :: [c] ∧ a.isAdvert = true ∧ r.isAdvert = false) ∧
      ([r, c] = [r] ++ c :: [] ∧ c.isClaim = true ∧ r.isClaim = false ∧ c.isAdvert = false) ∧
      ([c, r, q].filter (fun y => !y.isClaimFor 4) = [] ++ r :: [q] ∧ r.isReleaseFor 5 = true ∧
        r.isReleaseFor 4 = false ∧ q.isReleaseFor 4 = false ∧ r.isRelease = true ∧
        2 ≤ [r, q].countP CtrlItem.isRelease) ∧
      [r].countP CtrlItem.isRelease < 2 := by
  decide

theorem test_witness_ArbiterChoosesByClass :
    (let s := { on with bau := { on.bau with ctrl := [.release 0 false] } }
     s.bau.tx.st = .idle ∧ s.bau.ctrl = CtrlItem.release 0 false :: []) ∧
      (on.bau.tx.st = .idle ∧ on.bau.ctrl = [] ∧ ¬(0 < on.shu.credit ∧ on.usc.active ≠ []) ∧ ¬on.fst.responses ≠ []) ∧
      (let s := contested false .data [frame .mrsp 4 false]
       s.bau.tx.st = .idle ∧ s.bau.ctrl = [] ∧ s.fst.responses ≠ [] ∧ s.cfg.priorityEqual = false) ∧
      (let s := contested true .data [frame .mrsp 4 false]
       s.bau.tx.st = .idle ∧ s.bau.ctrl = [] ∧ s.fst.responses ≠ [] ∧ (0 < s.shu.credit ∧ s.usc.active ≠ []) ∧
         s.cfg.priorityEqual = true ∧ s.bau.lastWinner = .data) ∧
      (let s := contested true .mgmt [frame .mrsp 4 false]
       s.bau.tx.st = .idle ∧ s.bau.ctrl = [] ∧ 0 < s.shu.credit ∧ s.usc.active = 3 :: [] ∧ tget s.fst.up 3 ≠ [] ∧
         s.cfg.priorityEqual = true ∧ s.bau.lastWinner = .mgmt) ∧
      (let s := contested false .data []
       s.bau.tx.st = .idle ∧ s.bau.ctrl = [] ∧ 0 < s.shu.credit ∧ s.usc.active = 3 :: [] ∧ tget s.fst.up 3 ≠ [] ∧
         ¬s.fst.responses ≠ []) := by
  decide +kernel

theorem test_witness_SchedulerServesTurns :
    let s := contested false .data []
    let turn := fun (tokens : Int) (deficit : Nat) =>
      { s with usc := { s.usc with ports := tset s.usc.ports 3 {
        tokens := tokens, heldDepth := 24, deficit := deficit, turnOpen := true } } }
    s.usc.active = 3 :: [] ∧ tget s.fst.up 3 = frame .data 64 false :: [] ∧ (3 : PortId) ∉ ([] : List PortId) ∧
      s.eligible 3 = false ∧ (turn 1 1).eligible 3 = true ∧ ((turn 1 1).uscPort 3).turnOpen = true ∧
      (frame .data 64 false).blocks ≤ ((turn 1 1).uscPort 3).deficit ∧ (turn 1 0).eligible 3 = true ∧
      ((turn 1 0).uscPort 3).deficit < (frame .data 64 false).blocks := by
  decide +kernel

/-- A peer of age 1 and a notice of age 2. -/
theorem test_witness_SharePeriodRenewsCredit :
    (let s0 := setPeer 4 { Peer.absent with present := true, age := 1 } (card (line .inService))
     let s := { s0 with shu := { s0.shu with notice := some { capacity := 100, age := 2 } } }
     Unburdened s ∧ (∀ y, y ≠ s.stc.station → (s.peer y).present = true → (s.peer y).age < 2) ∧
       s.stc.startState = .running ∧ s.shu.notice = some { capacity := 100, age := 2 }) ∧
      (∀ n : Fin 3, let s0 := up .joining
        let s := { s0 with stc := { s0.stc with joinCount := n.val } }
        Unburdened s ∧ (∀ y, y ≠ s.stc.station → (s.peer y).present = true → (s.peer y).age < 2) ∧
          s.stc.startState = .joining ∧ s.stc.joinCount = n.val) := by
  unfold Unburdened; decide +kernel

/-- A peer of age 2 whose LOW held the cabinet supply state, with a SHED port, in RUNNING; and a port with a queue. -/
theorem test_witness_SharePeriod_removes :
    let s0 := setPeer 4 { Peer.absent with present := true, age := 2, supply := .low } (card { line .shed with wakeWatch := true })
    let s := supply .low s0
    (Unburdened s ∧ s.stc.startState = .running ∧ (4 : StationId) ≠ s.stc.station ∧ (s.peer 4).present = true ∧
        2 ≤ (s.peer 4).age ∧ (s.port 3).lineState = .shed ∧
        s.smn.cabinet = .low ∧ (sharePeriodExpires s).smn.cabinet = .mains) ∧
      (on.stc.startState ≠ .joining ∧ (up .joining).stc.startState = .joining) := by
  unfold Unburdened; decide +kernel

theorem test_witness_SharesStayWithinCapacity :
    (∀ j, j ∈ ([⟨0, 150, 2⟩, ⟨2, 700, 3⟩, ⟨4, 600, 2⟩] : List Sharer) → 0 < j.weight) ∧
      (([⟨0, 150, 2⟩, ⟨2, 700, 3⟩, ⟨4, 600, 2⟩] : List Sharer).map Sharer.station).Nodup ∧
      (computeShares 1001 [⟨0, 150, 2⟩, ⟨2, 700, 3⟩, ⟨4, 600, 2⟩]).left ≠ [] := by
  decide

theorem test_witness_SupplySamplesAreRequested :
    ∀ h : Holder, h = .none ∨ h = .stage ∨ h = .supply →
      ∀ ss : StartState, ss = .loading ∨ ss = .joining →
        let s0 := measuring .none h (up ss)
        let s := { s0 with smn := { s0.smn with debounce := true, sampleTimer := some 4000 } }
        Unburdened s ∧ s.smn.debounce = true ∧ s.stc.startState = ss ∧ s.msu.supplyWaiting = false ∧
          s.msu.holder = h ∧ s.smn.sampleTimer ≠ none := by
  intro h hh ss hs
  rcases hh with rfl | rfl | rfl <;> rcases hs with rfl | rfl <;> (unfold Unburdened; decide +kernel)

/-- A request waits behind a stage already. -/
theorem test_witness_SupplySamplesAreRequested_again :
    let s0 := measuring .none .stage (up .joining)
    let s := { s0 with
      smn := { s0.smn with debounce := true, sampleTimer := some 4000 }, msu := { s0.msu with supplyWaiting := true } }
    Unburdened s ∧ s.smn.debounce = true ∧ s.stc.startState = .joining ∧ s.msu.supplyWaiting = true ∧
      s.smn.sampleTimer ≠ none := by
  unfold Unburdened; decide +kernel

/-- 2300 codes are the threshold of MAINS, and 2299 are below it. -/
theorem test_witness_SupplySampleIsEvaluated :
    ∀ n : Fin 2,
      let s0 := measuring .none .supply on
      let s := { s0 with smn := { s0.smn with mainsSeen := true, differing := n.val } }
      Unburdened s ∧ s.msu.holder = .supply ∧ s.msu.supplyWaiting = false ∧ s.msu.stageWaiting = false ∧
        s.smn.own = .mains ∧ s.smn.mainsSeen = true ∧ s.cfg.vLow ≤ (2300 : BitVec 12).toNat / 5 ∧
        ¬s.cfg.vLow ≤ (2299 : BitVec 12).toNat / 5 ∧ s.cfg.vCrit ≤ (2299 : BitVec 12).toNat / 5 ∧
        s.smn.differing = n.val := by
  unfold Unburdened; decide +kernel

theorem test_witness_SupplyChangeMovesPorts :
    ∀ ls : LineState, ∀ pr idle : Bool, let s := card { line ls with priority := pr, idleFlag := idle }
      (s.port 3).lineState = ls ∧ (s.port 3).priority = pr ∧ (s.port 3).idleFlag = idle := by
  intro ls pr idle; cases ls <;> exact ⟨rfl, rfl, rfl⟩

/-- The second sample below the lower threshold, with a running test in each state, and with none. -/
theorem test_witness_SupplyChange_of_the_cabinet :
    let s := { on with
      smn := { on.smn with mainsSeen := true, differing := 1 }
      msu := { on.msu with holder := .supply } }
    (Unburdened s ∧ s.tsq.running = none ∧
      ∀ t, exec (.supplySampleComplete 100) s = .next t → t.smn.cabinet = .critical ∧ s.smn.cabinet = .mains) ∧
      ∀ st : SeqState,
        let r := { runs 5 .quickCheck st (if st = .measuring then some .foreignVoltage else none) with
          outcome := if st = .claiming then none else some .pass }
        Unburdened (testing r s) ∧ (testing r s).tsq.running = some r ∧ r.req.kind ≠ .tone ∧ r.st = st ∧
          (st = .claiming → r.outcome = none) := by
  refine ⟨⟨by unfold Unburdened; decide +kernel, rfl, fun t h => ?_⟩, fun st => ?_⟩
  · cases h; decide +kernel
  · cases st <;> (unfold Unburdened; decide +kernel)

/-- A tone of five minutes. -/
def fiveMinutes : ToneSpec := { freq := .hz800, width := .ms250, minutes := 5 }

theorem test_witness_DeadTimesMoveTheTest :
    (∀ k : TestKind, ∀ h : Holder, h = .none ∨ h = .supply →
      let r0 := runs 3 k .isolating none
      let r := { r0 with req := { r0.req with tone := some fiveMinutes } }
      let s := testing r (measuring .none h (card { line .testing with serviceClosed := false }))
      Unburdened s ∧ s.tsq.running = some r ∧ r.deadTimer = true ∧ r.st = .isolating ∧
        (s.port 3).serviceClosed = false ∧ (∀ q, q ≠ 3 → (s.port q).testClosed = false) ∧ s.msu.holder = h ∧
        s.msu.supplyWaiting = false ∧ s.msu.stageWaiting = false ∧ r.req.kind = k ∧ r.req.tone = some fiveMinutes) ∧
      (∀ faulted : Bool, ∀ x : Supply,
        let r := { runs 3 .quickCheck .restoring none with fromFaulted := faulted }
        let s := supply x (testing r (card { line .testing with serviceClosed := false }))
        Unburdened s ∧ s.tsq.running = some r ∧ r.deadTimer = true ∧ r.st = .restoring ∧ r.outcome = some .pass ∧
          r.req.kind ≠ .lineCheck ∧ (s.port 3).lineState = .testing ∧ (s.port 3).testClosed = false ∧
          r.fromFaulted = faulted ∧ r.parts.fv = none ∧ (s.port 3).admin = true ∧ s.smn.cabinet = x) := by
  constructor
  · intro k h hh
    rcases hh with rfl | rfl <;> cases k <;> (unfold Unburdened; decide +kernel)
  · intro faulted x; cases faulted <;> cases x <;> (unfold Unburdened; decide +kernel)

/-- The end of a LINE_CHECK with every part, its claim held and lost. -/
theorem test_witness_DeadTimes_of_a_line_check :
    ∀ step : ClaimStep, step = .held ∨ step = .lost →
      let r := { runs 3 .lineCheck .restoring none with
        parts := { Parts.empty with cap := some (.measured 160 3200), noise := some { level := 20, noisy := true } } }
      let s := testing r (claims 0 (entry .held 0 (step == .held)) (some (0, step))
        (card { line .testing with serviceClosed := false }))
      Unburdened s ∧ s.tsq.running = some r ∧ r.deadTimer = true ∧ r.st = .restoring ∧ r.outcome = some .pass ∧
        r.req.kind = .lineCheck ∧ (s.port 3).lineState = .testing ∧ (s.port 3).testClosed = false ∧
        s.clt.own = some (0, step) ∧ (s.claim 0).phase ≠ .free ∧ r.fromFaulted = false := by
  intro step h
  rcases h with rfl | rfl <;> (unfold Unburdened; decide +kernel)

theorem test_witness_HazardReportShutsDown :
    (∀ armed : Bool,
      let r := runs 3 .lineCheck .measuring (some .foreignVoltage)
      let s0 := testing r (measuring (.fv [] []) .stage (card { line .testing with testClosed := true }))
      let s := { s0 with msu := { s0.msu with hazardArmed := armed } }
      Unburdened s ∧ s.msu.hazardArmed = armed ∧ s.tsq.running = some r ∧ (s.port r.req.port).lineState = .testing) ∧
      (let r := runs 3 .lineCheck .isolating none
       let s := testing r (card { line .testing with serviceClosed := false })
       Unburdened s ∧ s.tsq.running = some r ∧ (s.port r.req.port).lineState = .testing ∧ r.st = .isolating ∧
         r.deadTimer = true) := by
  unfold Unburdened; decide +kernel

/-- Inputs with 62 and with 63 samples. -/
theorem test_witness_StageSamplesAreTaken :
    ∀ n : Fin 2,
      let xs : List Int := List.replicate (62 + n.val) 5
      let s := fun (r : StageRun) => measuring r .stage on
      Unburdened (s (.fv xs [])) ∧ (s (.fv xs [])).msu.holder = .stage ∧ (s (.fv xs [])).msu.run = .fv xs [] ∧
        (s (.ins true xs [])).msu.run = .ins true xs [] ∧ (s (.ins false xs [])).msu.run = .ins false xs [] ∧
        (s (.noise xs)).msu.run = .noise xs ∧ xs.length = 62 + n.val := by
  intro n
  exact ⟨⟨(fun h => by cases h), rfl, rfl, rfl⟩, rfl, rfl, rfl, rfl, rfl, by simp⟩

/-- The last sample of the third input, and the 256th of NOISE, beside a waiting supply sample and none; a peak at the hazard
threshold and one above it, and a mean at the warning threshold and one above it. -/
theorem test_witness_StageSamples_complete :
    (∀ k : TestKind, k = .quickCheck ∨ k = .lineCheck → ∀ waiting : Bool,
      let s := fun (stage : Stage) (r : StageRun) =>
        let s0 := testing (runs 3 k .measuring (some stage)) (measuring r .stage (card (line .testing)))
        { s0 with msu := { s0.msu with supplyWaiting := waiting } }
      let xs : List Int := List.replicate 63 5
      let a : InsFigure := { ohms := 100000, cls := .good }
      ∀ peak : Nat, peak = 480 ∨ peak = 481 → ∀ mean : Int, mean = 40 ∨ mean = 41 →
      let v : VoltFigure := { mean := mean, peak := peak }
      (s .foreignVoltage (.fv xs [v, v])).msu.run = .fv xs [v, v] ∧
        (s .insulation (.ins false xs [a, a])).msu.run = .ins false xs [a, a] ∧ xs.length = 63 ∧
        Unburdened (s .insulation (.ins false xs [a, a])) ∧
        (s .foreignVoltage (.fv xs [v, v])).msu.supplyWaiting = waiting ∧
        (s .foreignVoltage (.fv xs [v, v])).tsq.running = some (runs 3 k .measuring (some .foreignVoltage)) ∧
        (runs 3 k .measuring (some .foreignVoltage)).req.kind = k ∧ k ≠ .tone ∧
        (s .noise (.noise (List.replicate 255 5))).msu.run = .noise (List.replicate 255 5)) ∧
      on.cfg.hazardThreshold = 480 ∧ on.cfg.warningThreshold = 40 := by
  refine ⟨fun k hk waiting peak _ mean _ => ?_, by decide⟩
  exact ⟨rfl, rfl, by simp, ⟨(fun h => by cases h), rfl, rfl, rfl⟩, rfl, rfl, rfl, by rcases hk with rfl | rfl <;> decide,
    rfl⟩

theorem test_witness_CapacitanceRunsBetweenDischarges :
    (∀ c : Option Nat, c = none ∨ c = some 65527 →
      let s0 := measuring (.cap .running) .none on
      let s := { s0 with msu := { s0.msu with capRunning := true, blanked := true, candidate := c } }
      Unburdened s ∧ s.msu.run = .cap .running ∧ s.msu.capRunning = true ∧ s.msu.blanked = true ∧
        s.msu.candidate = c ∧ 65527 + s.cfg.filterLength ≤ 65535) ∧
      Unburdened (measuring (.cap .opening) .none on) ∧
      (∀ clash : Bool,
       let r := { runs 3 .lineCheck .measuring (some .capacitance) with clash := clash }
       let s := testing r (measuring (.cap (.closing .aboveRange)) .none on)
       Unburdened s ∧ s.msu.run = .cap (.closing .aboveRange) ∧ s.tsq.running = some r ∧ r.req.kind = .lineCheck ∧
         r.stage = some .capacitance ∧ r.clash = clash ∧ s.msu.holder = .none ∧ s.msu.supplyWaiting = false) := by
  refine ⟨fun c hc => ?_, by unfold Unburdened; decide +kernel, fun clash => ?_⟩
  · rcases hc with rfl | rfl <;> (unfold Unburdened; decide +kernel)
  · cases clash <;> (unfold Unburdened; decide +kernel)

/-- A crossing one filter length before the window's end, with a shot still to come and at the last one. -/
theorem test_witness_ReflectionShotsAreCaptured :
    (let s := measuring (.refl 3 []) .stage on
     Unburdened s ∧ s.msu.run = .refl 3 [] ∧ s.msu.holder = .stage ∧ s.msu.capRunning = false) ∧
      (let s0 := measuring (.refl 3 [none, none]) .stage on
       let s := { s0 with msu := { s0.msu with capRunning := true, blanked := false } }
       Unburdened s ∧ s.msu.capRunning = true ∧ s.msu.blanked = false ∧ s.msu.candidate = none ∧
         ([none, none] : List (Option Echo)).length < 3) ∧
      (let window := (on.cfg.maxDistance * 50 + on.cfg.velocity - 1) / on.cfg.velocity
       window = 2000 ∧ on.cfg.filterLength = 8 ∧
       ∀ es : List (Option Echo), es = [none, none] ∨ es = List.replicate 3 (some { ticks := 900, polarity := .short }) →
         ∀ tick, tick = 1992 ∨ tick = 1993 → ∀ clash : Bool,
         let r := { runs 3 .lineCheck .measuring (some .reflection) with clash := clash }
         let s0 := testing r (measuring (.refl 4 es) .stage (card (line .testing)))
         let s := { s0 with msu := { s0.msu with capRunning := true, blanked := true, candidate := some tick } }
         Unburdened s ∧ s.msu.run = .refl 4 es ∧ s.msu.capRunning = true ∧ s.msu.candidate = some tick ∧
           s.tsq.running = some r ∧ r.req.kind = .lineCheck ∧ r.stage = some .reflection ∧ r.clash = clash) := by
  refine ⟨by unfold Unburdened; decide +kernel, by unfold Unburdened; decide +kernel, by decide, by decide, ?_⟩
  intro es _ tick _ clash
  exact ⟨⟨(fun h => by cases h), rfl, rfl, rfl⟩, rfl, rfl, rfl, rfl, rfl, rfl, rfl⟩

theorem test_witness_ToneStepsThroughItsDuration :
    let r := runs 3 .tone .measuring (some .tone)
    let s := testing r (measuring (.tone fiveMinutes 7) .none on)
    Unburdened s ∧ s.msu.run = .tone fiveMinutes 7 ∧ s.tsq.running = some r ∧ r.req.kind = .tone ∧
      r.stage = some .tone ∧ r.abort = none ∧ r.faultFound = false ∧ r.clash = false := by
  unfold Unburdened; decide +kernel

theorem test_witness_ReadingRequestsReport :
    (AgentFree (up .loading) ∧ (up .loading).stc.startState = .loading) ∧
      (AgentFree on ∧ on.stc.startState ≠ .loading ∧ tget on.tsq.results 3 = none ∧ 16 ≤ (16 : Byte).toNat ∧
        (16 : Byte) ≠ 255) ∧
      (let kept := recordOf (runs 3 .tone .restoring none) .completed
       let s := { on with tsq := { on.tsq with results := tset on.tsq.results 3 (some kept) } }
       AgentFree s ∧ tget s.tsq.results 3 = some kept) := by
  unfold AgentFree; decide +kernel

/-- Every line state of port 3, in JOINING and in RUNNING, its binder free and claimed, its queues empty and not, and its
admin field set; beside it a running test in each state, on it and on another port. -/
theorem test_witness_PortRequestsAct :
    (∀ ls : LineState, ∀ ss : StartState, ss = .joining ∨ ss = .running → ∀ ph : ClaimPhase, ph = .free ∨ ph = .held →
      let s := claims 0 (entry ph 4 false) none ((up ss).setPort 3 (line ls))
      let t := queued [frame .data 64 true, frame .data 64 false] [frame .data 64 false] s
      AgentFree s ∧ s.stc.startState = ss ∧ (s.port 3).lineState = ls ∧ (s.port 3).admin = true ∧
        s.smn.cabinet = .mains ∧ tget s.fst.up 3 = [] ∧ tget s.fst.down 3 = [] ∧
        s.claimed (s.port 3).binder = decide (ph = .held) ∧ (s.portCounter 3 .retrains).saturates 1 = false ∧
        AgentFree t ∧
        (t.portCounter 3 .flushed).saturates (flushedFrom (tget t.fst.up 3) ++ tget t.fst.down 3).length = false) ∧
      (∀ run, on.tsq.running = some run → run.req.port ≠ 3) ∧
      ∀ st : SeqState, ∀ p : PortId,
        let r := { runs p .quickCheck st none with outcome := if st = .restoring then some .pass else none }
        let s := testing r (card (line (if st = .claiming then .waiting else .testing)))
        AgentFree s ∧ s.tsq.running = some r ∧ r.req.port = p ∧ r.st = st ∧ s.tsq.queue = [] ∧
          (st = .claiming → r.outcome = none) := by
  refine ⟨fun ls ss h ph hp => ?_, fun run h => (by cases h), fun st p => ?_⟩
  · rcases h with rfl | rfl <;> rcases hp with rfl | rfl <;> cases ls <;> (unfold AgentFree; decide +kernel)
  · refine ⟨⟨(fun h => by cases h), rfl, rfl, rfl, (by decide : 0 < 8),
      (by decide : 64 ≤ 4096), (by decide : 1 ≤ 1024), Or.inl rfl⟩, rfl, rfl, rfl, rfl, ?_⟩
    intro h; subst h; rfl

theorem test_witness_TestRequestsAreCheckedAndCancelled :
    (∀ ls : LineState,
      let s := testing (runs 5 .quickCheck .isolating none) (card (line ls))
      AgentFree s ∧ s.stc.startState ≠ .loading ∧ s.tsq.running ≠ none ∧ (s.port 3).lineState = ls ∧
        (s.tsq.queue.any (fun q => q.port == 3)) = false ∧
        toneSpecOf (800 : BitVec 16).toNat (250 : BitVec 16).toNat (5 : BitVec 8).toNat = some fiveMinutes) ∧
      (let s0 := testing (runs 5 .quickCheck .isolating none) on
       let s := { s0 with tsq := { s0.tsq with queue := [asks 3 .tone] } }
       AgentFree s ∧ s.stc.startState ≠ .loading ∧ s.tsq.running ≠ none ∧
         (s.tsq.queue.any (fun q => q.port == 3)) = true) ∧
      (∀ st : SeqState,
        let r := runs 3 .quickCheck st none
        let s := testing r (card (line .testing))
        AgentFree s ∧ (s.tsq.queue.any (fun q => q.port == 3)) = false ∧ s.tsq.running = some r ∧ r.req.port = 3 ∧
          r.st = st) ∧
      AgentFree on ∧ ∀ run, on.tsq.running = some run → run.req.port ≠ 3 := by
  refine ⟨fun ls => ?_, by unfold AgentFree; decide +kernel, fun st => ?_, by unfold AgentFree; decide +kernel,
    fun run h => by cases h⟩
  · cases ls <;> (unfold AgentFree; decide +kernel)
  · cases st <;> (unfold AgentFree; decide +kernel)

/-- The claim of a cancelled test, still in the control list and past it. -/
theorem test_witness_TestCancel_in_claiming :
    ∀ step : ClaimStep, step = .sending ∨ step = .settling → ∀ ctrl, ctrl = [] ∨ ctrl = [CtrlItem.claim 0 false 20] →
      let r := { runs 3 .lineCheck .claiming none with outcome := none }
      let s0 := testing r (claims 0 (entry .pending 0 true) (some (0, step)) (card (line .waiting)))
      let s := { s0 with bau := { s0.bau with ctrl := ctrl } }
      AgentFree s ∧ s.tsq.queue = [] ∧ s.tsq.running = some r ∧ r.outcome = none ∧ r.parts = Parts.empty ∧
        (s.port 3).lineState ≠ .testing ∧ s.clt.own = some (0, step) ∧ (s.claim 0).phase ≠ .free ∧
        s.bau.ctrl.any (CtrlItem.isClaimFor 0) = decide (ctrl ≠ []) := by
  intro step h ctrl hc
  rcases h with rfl | rfl <;> rcases hc with rfl | rfl <;> (unfold AgentFree; decide +kernel)

/-- In BATTERY, a LINE_CHECK that may not start stands before a QUICK_CHECK that may; in MAINS the LINE_CHECK starts, with
its claim context free and not. -/
theorem test_witness_StartChoice :
    (let s := supply .battery { on with tsq := { on.tsq with queue := [asks 3 .lineCheck, asks 5 .quickCheck] } }
     s.tsq.running = none ∧ s.stc.startState = .running ∧ s.tsq.queue = [asks 3 .lineCheck] ++ asks 5 .quickCheck :: [] ∧
       s.smn.cabinet = .battery ∧ (asks 3 .lineCheck).kind = .lineCheck ∧ (asks 5 .quickCheck).kind ≠ .lineCheck ∧
       (asks 5 .quickCheck).intrusive = true) ∧
      ∀ own : Option (BinderId × ClaimStep), own = none ∨ own = some (1, .lost) →
        let s0 := { on with tsq := { on.tsq with queue := [asks 3 .lineCheck] } }
        let s := { s0 with clt := { s0.clt with own := own } }
        s.tsq.running = none ∧ s.smn.cabinet = .mains ∧ s.clt.own = own ∧
          (s.claim (s.port 3).binder).phase = .free := by
  refine ⟨by decide +kernel, fun own h => ?_⟩
  rcases h with rfl | rfl <;> decide +kernel

theorem test_witness_NoticeAckClearsNamedFlags :
    let s := { on with mga := { on.mga with flags := 1023 } }
    AgentFree s ∧ s.stc.startState ≠ .loading ∧ s.flagSet .configDefaulted = true := by
  unfold AgentFree; decide +kernel

theorem test_witness_RestartFollowsItsAnswer :
    (AgentFree on ∧ on.stc.startState ≠ .loading) ∧
      ∀ jam : Bool,
       let f : Frame := { kind := .mrsp, port := 31, payload := [1, 2, 11, 0], inFlight := true }
       let s0 := sending .sending jam false 11 .mgmt on
       let s := { s0 with
         fst := { s0.fst with responses := [f] }
         mga := { s0.mga with restartPending := true } }
       s.stc.startState ≠ .reset ∧ s.bau.tx.st = .sending ∧ s.bau.tx.jamming = jam ∧ s.bau.tx.hand = some .mgmt ∧
         s.bau.tx.collisions = 11 ∧ s.mga.restartPending = true ∧ s.fst.responses = f :: [] := by
  refine ⟨by unfold AgentFree; decide +kernel, fun jam => ?_⟩
  cases jam <;> decide +kernel

/-- A response frame of 52 and of 53 bytes, and a NOTICE beside a pending RESTART. -/
theorem test_witness_Responses_end :
    ∀ jam : Bool, ∀ f : Frame, f = frame .mrsp 52 true ∨ f = frame .mrsp 53 true ∨ f = frame .notice 3 true →
      let s0 := sending .sending jam false 11 .mgmt on
      let s := { s0 with
        fst := { s0.fst with responses := [f] }
        mga := { s0.mga with restartPending := f.kind == .notice, flags := 64 } }
      Unburdened s ∧ s.bau.tx.st = .sending ∧ s.bau.tx.jamming = jam ∧ s.bau.tx.collisions = 11 ∧
        s.bau.tx.hand = some .mgmt ∧ s.fst.responses = f :: [] ∧ (s.mga.restartPending = false ∨ f.kind = .notice) ∧
        (s.cardCounter .collisions).saturates 1 = false ∧ (s.cardCounter .lateCollisions).saturates 1 = false ∧
        s.flagSet .busFault = true := by
  intro jam f h
  rcases h with rfl | rfl | rfl <;> cases jam <;> (unfold Unburdened; decide +kernel)

/-- Eight responses, of which the first ends, and a waiting notice or answer, with room for it and without. -/
theorem test_witness_Waiting_items_are_placed :
    ∀ item : WaitItem, item = .notice .hazard ∨ item = .answer [1, 2, 9, 0] → ∀ n, n = 0 ∨ n = 63 →
      let f := frame .mrsp 4 true
      let rest := List.replicate 7 (frame .mrsp 4 false)
      let r := frame .mreq 3 false
      let s0 := sending .sending false false 0 .mgmt on
      let s := { s0 with
        fst := { s0.fst with responses := f :: rest, requests := [r], freeCells := n }
        mga := { s0.mga with waiting := [item] } }
      s.stc.startState ≠ .reset ∧ s.tsq.queue = [] ∧ s.bau.tx.st = .sending ∧ s.bau.tx.jamming = false ∧
        s.bau.tx.hand = some .mgmt ∧ s.fst.responses = f :: rest ∧ rest.length = 7 ∧ s.mga.waiting = item :: [] ∧
        s.mga.restartPending = false ∧ s.fst.requests = r :: [] ∧ cellsOf [1, 2, 9, 0] ≤ n + f.cells + r.cells ∧
        0 + f.cells + r.cells < cellsOf (List.replicate 129 0) := by
  intro item h n hn
  rcases h with rfl | rfl <;> rcases hn with rfl | rfl <;> decide +kernel

/-- The last word of the staging image, and a good and a bad staging image. -/
theorem test_witness_RemoteConfigurationIsWrittenAndApplied :
    let s := { up .loading with stc := { (up .loading).stc with startMode := 2 } }
    let good := { s with stc := { s.stc with staging := writeWords 0 [16, 65520] s.stc.staging } }
    (AgentFree s ∧ s.stc.startState = .loading ∧ s.stc.startMode = 2 ∧
      (511 : BitVec 16).toNat + ([5] : List Word16).length ≤ 512) ∧
      (AgentFree good ∧ good.stc.startState = .loading ∧ good.stc.startMode = 2) ∧
      (AgentFree on ∧ ¬(on.stc.startState = .loading ∧ on.stc.startMode = 2)) := by
  unfold AgentFree; decide +kernel

theorem test_good_and_bad_staging :
    goodImage (goodWords ++ List.replicate 496 0) = some goodWords ∧ goodImage (List.replicate 512 0) = none := by
  decide +kernel

theorem test_witness_MreqsAreAdmittedOrCounted :
    (let rs := List.replicate 8 (frame .mrsp 4 false)
     let s := { on with
       fst := { on.fst with responses := rs, freeCells := 1, freeRecords := 1 }
       mga := { on.mga with waiting := [.notice .hazard] } }
     s.stc.startState ≠ .reset ∧ s.tsq.queue = [] ∧ s.fst.responses.length = 8 ∧ s.mga.waiting ≠ [] ∧
       s.fst.requests.length < 8 ∧ max 1 ((([] : List Byte).length + 63) / 64) ≤ s.fst.freeCells ∧
       1 ≤ s.fst.freeRecords ∧ s.fst.freeCells < max 1 ((List.replicate 65 (0 : Byte)).length + 63) / 64) ∧
      AgentFree on ∧ ¬(1 ≤ (14 : Byte).toNat ∧ (14 : Byte).toNat ≤ 13) := by
  unfold AgentFree; decide +kernel

theorem test_witness_OnlyIllFormedCommandsAreRefused :
    WellFormed (.upstreamFrame 0 []) = false ∧ WellFormed .settleExpiry = true := by decide

/-- A card in RUNNING with port 3 in service and one frame in its upstream queue: it meets every law, and steps. -/
def lawful : State :=
  let s := queued [frame .data 64 false] [] (card (line .inService))
  { s with fst := { s.fst with freeCells := 4095, freeRecords := 1023 } }

theorem test_witness_laws_lists :
    RelayLaw lawful ∧ StoreLaw lawful ∧ ControlLaw lawful := by
  refine ⟨?_, ?_, ?_⟩
  · unfold RelayLaw; decide +kernel
  · unfold StoreLaw; decide +kernel
  · unfold ControlLaw; decide +kernel

theorem test_witness_laws_counters : CounterLaw lawful := by
  refine ⟨fun p c => ?_, fun c => ?_⟩
  · revert p; cases c <;> (unfold Counter.lawful; decide +kernel)
  · cases c <;> (unfold Counter.lawful; decide +kernel)

theorem test_witness_laws_scheduler : ActiveLaw lawful := by
  unfold ActiveLaw; decide +kernel

theorem test_witness_laws_supply : SupplyLaw lawful := by
  unfold SupplyLaw ResetHolds; decide +kernel

theorem test_witness_laws_credit : CreditLaw lawful := by
  refine ⟨by decide, by decide, by decide +kernel, fun p h => (by cases h), ?_⟩
  decide +kernel

theorem test_witness_laws_queues : QueueLaw lawful := by
  refine ⟨⟨by unfold ResetHolds; decide +kernel, by decide +kernel⟩, fun p h => ?_, by decide +kernel⟩
  have hp : p ≠ 3 := by rintro rfl; revert h; decide +kernel
  have h0 : ∀ q : PortId, q ≠ 3 → tget lawful.fst.down q = [] ∧ tget lawful.fst.up q = [] := by decide +kernel
  exact ⟨(h0 p hp).1, Or.inl (h0 p hp).2⟩

theorem test_witness_laws_training : TrainingLaw lawful := by
  refine ⟨⟨by unfold ResetHolds; decide +kernel, by decide +kernel⟩, by decide +kernel⟩

theorem test_witness_laws_claims : ClaimLaw lawful := by
  have h0 : ∀ b, (lawful.claim b).own = false := by decide +kernel
  refine ⟨fun b => ⟨fun h => ?_, fun ⟨_, h, _⟩ => by cases h⟩, fun b h => ?_⟩
  · rw [h0 b] at h; cases h
  · rw [h0 b] at h; cases h

theorem test_witness_laws_tests : TestLaw lawful := by
  have h0 : ∀ p, (lawful.port p).lineState ≠ .testing := by decide +kernel
  refine ⟨by unfold ResetHolds; decide +kernel, by decide +kernel,
    fun p => ⟨fun h => absurd h (h0 p), fun ⟨_, h, _⟩ => by cases h⟩, fun h => absurd rfl h, by decide +kernel⟩

theorem test_witness_laws_step :
    (∃ t, step lawful = .next t) ∧ lawful.pending.head? ≠ some (.hardwareReset true) := ⟨⟨_, rfl⟩, by decide⟩

end Sys2Proof.Tests
end

section
/-! SUPPORT. Proofs about line training: profile selection (R27), the entry to service (R28), and margins and retrains
(R34, R35). -/

namespace Sys2Proof.Machine

/-! ## What else an operation leaves alone: the frames in full -/

/-- All that USC's choice writes: the scheduler's ports, its choice, and the marks of the upstream queues (R93). -/
theorem uscChoose_writes {s t : State} {p : PortId} (h : uscChoose s = some (p, t)) :
    ∃ ports ups, t = { s with
      usc := { s.usc with ports := ports, chosen := some p }
      fst := { s.fst with up := ups } } := by
  unfold uscChoose at h
  split at h
  · cases h
  · split at h
    · cases h
    · cases h
      exact ⟨_, _, rfl⟩

/-- All that the choice of a DATA frame writes (R62, R93). -/
theorem takeData_writes (s : State) :
    ∃ bau ports chosen ups, takeData s = { s with
      bau := bau
      usc := { s.usc with ports := ports, chosen := chosen }
      fst := { s.fst with up := ups } } := by
  unfold takeData
  split
  · next h =>
    obtain ⟨ports, ups, rfl⟩ := uscChoose_writes h
    exact ⟨_, _, _, _, rfl⟩
  · exact ⟨_, _, _, _, rfl⟩

/-- All that the transmit arbiter writes (R62). -/
theorem txArbitrate_writes (s : State) :
    ∃ bau ports chosen ups, txArbitrate s = { s with
      bau := bau
      usc := { s.usc with ports := ports, chosen := chosen }
      fst := { s.fst with up := ups } } := by
  unfold txArbitrate
  split
  · split
    · exact ⟨_, _, _, _, rfl⟩
    · unfold chooseBelowControl
      repeat' split
      all_goals first
        | exact takeData_writes _
        | exact ⟨_, _, _, _, rfl⟩
  · exact ⟨_, _, _, _, rfl⟩

/-- All that the placement of a waiting item writes (R48). -/
theorem placeItem_writes (i : WaitItem) (s : State) :
    ∃ cells records requests responses, placeItem i s = { s with
      fst := { s.fst with
        freeCells := cells, freeRecords := records, requests := requests, responses := responses } } := by
  cases i with
  | notice c => exact ⟨_, _, _, _, rfl⟩
  | answer a =>
    simp only [placeItem, placeAnswer, removeRequestHead]
    split <;> exact ⟨_, _, _, _, rfl⟩

/-- All that the offer of the waiting items writes (R157). -/
theorem offerWaiting_writes (n : Nat) (s : State) :
    ∃ cells records requests responses waiting, offerWaiting n s = { s with
      fst := { s.fst with
        freeCells := cells, freeRecords := records, requests := requests, responses := responses }
      mga := { s.mga with waiting := waiting } } := by
  induction n generalizing s with
  | zero => exact ⟨_, _, _, _, _, rfl⟩
  | succ n ih =>
    unfold offerWaiting
    split
    · exact ⟨_, _, _, _, _, rfl⟩
    · next i rest _ =>
      split
      · obtain ⟨_, _, _, _, hp⟩ := placeItem_writes i { s with mga := { s.mga with waiting := rest } }
        obtain ⟨_, _, _, _, _, ho⟩ := ih (placeItem i { s with mga := { s.mga with waiting := rest } })
        rw [ho, hp]
        exact ⟨_, _, _, _, _, rfl⟩
      · exact ⟨_, _, _, _, _, rfl⟩

/-- Of the Frame Store a raised cause writes the pools and the response queue alone (R161). -/
theorem raiseNotice_fst (c : Cause) (s : State) :
    ∃ cells records responses, (raiseNotice c s).fst =
      { s.fst with freeCells := cells, freeRecords := records, responses := responses } := by
  obtain h | ⟨t, rfl, -, h | ⟨h, -⟩ | h⟩ := raiseNotice_cases c s <;> rw [h] <;> exact ⟨_, _, _, rfl⟩

/-- Of the Frame Store a counter's rise writes the pools and the response queue alone (R163). -/
theorem countPort_fst (p : PortId) (c : PortCounter) (k : Nat) (s : State) :
    ∃ cells records responses, (countPort p c k s).fst =
      { s.fst with freeCells := cells, freeRecords := records, responses := responses } := by
  unfold countPort
  dsimp only
  split
  · exact raiseNotice_fst _ _
  · exact ⟨_, _, _, rfl⟩

/-- Without a queued test and a management request, the end of a step offers the waiting items and arbitrates. -/
theorem settle_noRequests {s : State} (h0 : s.stc.startState ≠ .reset) (hq : s.tsq.queue = [])
    (hr : s.fst.requests = []) : settle s = txArbitrate (offerWaiting s.mga.waiting.length s) := by
  simp [settle, h0, startChoice_noQueue hq, mgaWork, hr, mgaRun]

/-- What the end of a step leaves alone where it starts no test and takes no request. -/
theorem settle_keeps {s : State} (h0 : s.stc.startState ≠ .reset) (hq : s.tsq.queue = []) (hr : s.fst.requests = []) :
    (settle s).ports = s.ports ∧ (settle s).mga.portCounters = s.mga.portCounters ∧
      (settle s).fst.down = s.fst.down ∧ (settle s).fst.pull = s.fst.pull ∧
      (settle s).usc.active = s.usc.active := by
  rw [settle_noRequests h0 hq hr]
  obtain ⟨_, _, _, _, _, ho⟩ := offerWaiting_writes s.mga.waiting.length s
  obtain ⟨_, _, _, _, ht⟩ := txArbitrate_writes (offerWaiting s.mga.waiting.length s)
  rw [ht, ho]
  exact ⟨rfl, rfl, rfl, rfl, rfl⟩

/-- A port's record has no part in what makes a state unburdened. -/
@[simp] theorem unburdened_setPort (s : State) (p : PortId) (r : Port) :
    Unburdened (s.setPort p r) ↔ Unburdened s := Iff.rfl

/-- The scheduler's ports have no part in what makes a state unburdened. -/
@[simp] theorem unburdened_modUsc (s : State) (p : PortId) (f : UscPort → UscPort) :
    Unburdened (s.modUsc p f) ↔ Unburdened s := Iff.rfl

/-! ## Profile selection (R27) -/

theorem profileSuits_iff (q : Profile) (down up : Nat) (loop : Option Nat) :
    profileSuits q down up loop = true ↔
      q.present = true ∧ q.minDown ≤ down ∧ q.minUp ≤ up ∧
        (loop = none ∨ q.maxLoop = 0 ∨ ∃ m, loop = some m ∧ m ≤ q.maxLoop) := by
  cases loop with
  | none => simp [profileSuits, and_assoc]
  | some m => simp [profileSuits, and_assoc]

theorem profileIndexes_eq_finRange : profileIndexes = List.finRange 8 := by decide

/-- Selection is the search for the least index that is in range and suits (R27). -/
theorem selectProfile_eq_some_iff (profiles : Tbl Profile 8) (ceiling down up : Nat) (loop : Option Nat) (i : Fin 8) :
    selectProfile profiles ceiling down up loop = some i ↔
      ceiling ≤ i.val ∧ profileSuits (tget profiles i) down up loop = true ∧
        ∀ j, j < i → ceiling ≤ j.val → profileSuits (tget profiles j) down up loop = false := by
  rw [selectProfile, profileIndexes_eq_finRange, ← Fin.find?_eq_find?_finRange, Fin.find?_eq_some_iff]
  simp [and_assoc]

/-- Settles O6: the search through the profile table in order finds the least index that suits. -/
theorem selectionTakesFirstSuitableProfile : Obligations.SelectionTakesFirstSuitableProfile := by
  unfold Obligations.SelectionTakesFirstSuitableProfile
  intro s p down up
  exact ⟨rfl, selectProfile_eq_some_iff _ _ _ _ _, fun q loop => profileSuits_iff q down up loop⟩

/-! ## The entry to service (R28) -/

/-- POWER is sent only where the mode differs (R4). -/
theorem Port.powerTo_self {m : PowerMode} {r : Port} (h : r.power = m) : r.powerTo m = r := by
  simp [Port.powerTo, h]

/-- The record of a port that comes into service (R10, R28). -/
def serviceRecord (r : Port) : Port :=
  { r with
    lineState := .inService
    failures := 0
    marginLow := 0
    idleFlag := false
    idleTimer := true
    persistTimer := false
    trainTimer := false
    readyTimer := false
    wakeWatch := false
    wakeArmed := false
    reportAwaited := false
    phase := .none }

/-- From TRAINING, with its link on, a port's move to service sends nothing and keeps the committed profile. -/
theorem Port.leave_enter_inService {r : Port} (hl : r.lineState = .training) (hp : r.power = .on) :
    (r.leave .inService false).enter .inService false = serviceRecord r := by
  have hleave : r.leave .inService false =
      { r with
        persistTimer := false, trainTimer := false, readyTimer := false, idleTimer := false, idleFlag := false,
        marginLow := 0, wakeWatch := false, wakeArmed := false, reportAwaited := false, phase := .none } := by
    simp [Port.leave, Port.needsAbandon, hl]
  rw [hleave]
  exact Port.powerTo_self hp

/-- The scheduler's entry work reads the profile that the record holds (R87). -/
theorem uscEnterService_setPort (s : State) (p : PortId) {r : Port} (h : r.profile = (s.port p).profile) :
    uscEnterService p (s.setPort p r) = (s.setPort p r).modUsc p
      (fun u => { u with heldDepth := max (2 * s.aUpOf p) 24, tokens := min u.tokens 0 }) := by
  have ha : (s.setPort p r).aUpOf p = s.aUpOf p := by simp [State.aUpOf, h]
  rw [uscEnterService, ha]

/-- The whole change of state from TRAINING to IN_SERVICE (R28, R87). -/
theorem changeState_inService_of_training {s : State} {p : PortId} (hl : (s.port p).lineState = .training)
    (hp : (s.port p).power = .on) :
    changeState p .inService false false s = (s.setPort p (serviceRecord (s.port p))).modUsc p
      (fun u => { u with heldDepth := max (2 * s.aUpOf p) 24, tokens := min u.tokens 0 }) := by
  have hrec := Port.leave_enter_inService hl hp
  have hchange : changeState p .inService false false s =
      uscEnterService p (s.setPort p (serviceRecord (s.port p))) := by
    simp [changeState, hl, hrec, LineState.flushes]
  rw [hchange]
  exact uscEnterService_setPort s p rfl

theorem exec_ready (p : PortId) (attempt : Byte) (s : State) :
    exec (.ready p attempt) s = heard (takeReady p attempt) s := rfl

/-- Settles O10: the READY is taken, and the change to IN_SERVICE is all that the event does. -/
theorem readyEntersService : Obligations.ReadyEntersService := by
  unfold Obligations.ReadyEntersService
  intro s p hu hl hphase hp
  have htake : takeReady p (s.port p).attempt s = changeState p .inService false false s := by
    simp [takeReady, hl, hphase]
  rw [changeState_inService_of_training hl hp] at htake
  have hquiet : Unburdened (takeReady p (s.port p).attempt s) := by simpa [htake] using hu
  rw [exec_ready, heard_unburdened hu.1 hquiet, htake]
  rfl

/-! ## Margins and retrains (R34, R35) -/

theorem exec_margin (p : PortId) (level : Byte) (s : State) :
    exec (.margin p level) s = heard (takeMargin p level.toNat) s := rfl

/-- A margin report is ignored while the binder is claimed (R34). -/
theorem takeMargin_claimed {s : State} {p : PortId} (level : Nat) (hc : s.claimed (s.port p).binder = true) :
    takeMargin p level s = s := by
  simp [takeMargin, hc]

section
variable {s : State} {p : PortId} {level : Nat} (hl : (s.port p).lineState = .inService)
  (hc : s.claimed (s.port p).binder = false)
include hl hc

theorem takeMargin_high (h : s.cfg.retrainThreshold ≤ level) :
    takeMargin p level s = s.setPort p { s.port p with marginLow := 0 } := by
  simp [takeMargin, hl, hc, Nat.not_lt.mpr h]

theorem takeMargin_low (h : level < s.cfg.retrainThreshold) (hm : (s.port p).marginLow < 2) :
    takeMargin p level s = s.setPort p { s.port p with marginLow := (s.port p).marginLow + 1 } := by
  have hcount : (s.port p).marginLow + 1 < 3 := by omega
  simp [takeMargin, hl, hc, h, hcount]

theorem takeMargin_third (h : level < s.cfg.retrainThreshold) (hm : (s.port p).marginLow = 2) :
    takeMargin p level s = retrainPort p (s.setPort p { s.port p with marginLow := 3 }) := by
  simp [takeMargin, hl, hc, h, hm]

end

/-- The change from IN_SERVICE to TRAINING: the port leaves the active list and its pull flag is cleared; nothing is flushed
(R8, R35, R43, R90). -/
theorem changeState_training_of_inService {s : State} {p : PortId} (hl : (s.port p).lineState = .inService) :
    changeState p .training false false s =
      let t := uscLeave p (s.setPort p (((s.port p).leave .training false).enter .training false))
      { t with fst := { t.fst with pull := tset t.fst.pull p false } } := by
  simp [changeState, hl, LineState.flushes]

/-- With its binder free, a port outside TRAINING begins its attempt by the change of state and TRAIN (R24). -/
theorem beginAttempt_free {s : State} {p : PortId} (hc : s.claimed (s.port p).binder = false)
    (hl : (s.port p).lineState ≠ .training) :
    beginAttempt p s = (changeState p .training false false s).modPort p Port.startTraining := by
  simp [beginAttempt, hc, hl]

/-- The fields of a record with which an attempt begins from service: all but the link's record are as R24 and R35 say,
whether POWER goes out or not. -/
theorem Port.startTraining_fields (r : Port) :
    let t := ((r.leave .training false).enter .training false).startTraining
    t.lineState = .training ∧ t.marginLow = 0 ∧ t.profile = none ∧ t.phase = .report ∧ t.attempt = r.attempt + 1 ∧
      t.trainTimer = true ∧ t.idleTimer = false ∧ t.idleFlag = false := by
  simp only [Port.startTraining, Port.send, Port.enter, Port.powerTo, powerModeOf, Port.leave]
  split <;> split <;> simp

@[simp] theorem setPort_claimed (s : State) (p : PortId) (r : Port) : (s.setPort p r).claimed = s.claimed := rfl

@[simp] theorem countPort_claimed (p : PortId) (c : PortCounter) (k : Nat) (s : State) :
    (countPort p c k s).claimed = s.claimed := by
  simp [State.claimed, funext_iff]

@[simp] theorem countPort_port (p : PortId) (c : PortCounter) (k : Nat) (s : State) :
    (countPort p c k s).port = s.port := by
  simp [State.port, funext_iff]

/-- A retrain from service: the count rises, the port leaves service for TRAINING, and TRAIN goes out (R35). -/
theorem retrainPort_eq {s : State} {p : PortId} (hl : (s.port p).lineState = .inService)
    (hc : s.claimed (s.port p).binder = false) :
    retrainPort p s = (changeState p .training false false (countPort p .retrains 1 s)).modPort p Port.startTraining :=
  beginAttempt_free (by simpa using hc) (by simp [hl])

/-- What a retrain from service writes, and what it leaves alone (R35). -/
theorem retrainPort_spec {s : State} {p : PortId} (hl : (s.port p).lineState = .inService)
    (hc : s.claimed (s.port p).binder = false) :
    let t := retrainPort p s
    t.port p = (((s.port p).leave .training false).enter .training false).startTraining ∧
      (∀ q, q ≠ p → t.port q = s.port q) ∧ t.mga = (countPort p .retrains 1 s).mga ∧
      t.fst.down = s.fst.down ∧ tget t.fst.pull p = false ∧ t.fst.requests = s.fst.requests ∧ p ∉ t.usc.active := by
  obtain ⟨_, _, _, hfst⟩ := countPort_fst p .retrains 1 s
  intro t
  have ht : t = _ := retrainPort_eq hl hc
  refine ⟨?_, fun q hq => ?_, ?_⟩
  · rw [ht, modPort_port_self, changeState_port_self, countPort_port]
  · rw [ht, modPort_port_ne _ _ hq.symm, changeState_others _ _ _ _ _ _ hq.symm, countPort_port]
  · rw [ht, changeState_training_of_inService (by simpa using hl)]
    simp [hfst, uscLeave]

/-- The end of the step leaves a retrain as it is, also where RETRAINS saturates and its notice waits (R35, R163). -/
theorem settle_retrainPort {s : State} {p : PortId} (hu : Unburdened s) (hl : (s.port p).lineState = .inService)
    (hc : s.claimed (s.port p).binder = false) :
    let t := settle (retrainPort p s)
    t.port p = (((s.port p).leave .training false).enter .training false).startTraining ∧
      (∀ q, q ≠ p → t.port q = s.port q) ∧ t.portCounter p .retrains = (s.portCounter p .retrains).rise 1 ∧
      t.fst.down = s.fst.down ∧ tget t.fst.pull p = false ∧ p ∉ t.usc.active := by
  obtain ⟨hrun, hqueue, hreq, -⟩ := hu
  obtain ⟨hport, hothers, hmga, hdown, hpull, hrequests, hactive⟩ := retrainPort_spec hl hc
  obtain ⟨kports, kcounters, kdown, kpull, kactive⟩ :=
    settle_keeps (s := retrainPort p s) (by simpa using hrun) (by simpa using hqueue) (by rw [hrequests, hreq])
  have hrise : (countPort p .retrains 1 s).portCounter p .retrains = (s.portCounter p .retrains).rise 1 := by
    simp [countPort_portCounter]
  simp only [State.port, State.portCounter] at hport hothers hrise ⊢
  rw [kports, kcounters, kdown, kpull, kactive, hmga]
  exact ⟨hport, hothers, hrise, hdown, hpull, hactive⟩

/-- Settles O11: each clause is one branch of the margin count, and the third low margin in a row is a retrain. -/
theorem marginCountsAndRetrains : Obligations.MarginCountsAndRetrains := by
  unfold Obligations.MarginCountsAndRetrains
  intro s p level hu hl
  have hexec : exec (.margin p level) s = event (takeMargin p level.toNat) s := by
    rw [exec_margin, heard_running hu.1]
  have whole {t : State} (ht : takeMargin p level.toNat s = t) (hquiet : Unburdened t) :
      exec (.margin p level) s = .next (txArbitrate t) := by
    subst ht
    rw [hexec, event_unburdened hquiet]
  refine ⟨fun hc => whole (takeMargin_claimed _ hc) hu, fun hc => ⟨fun hhigh => ?_, fun hlow hm => ?_, fun hlow hm => ?_⟩⟩
  · exact whole (takeMargin_high hl hc hhigh) (by simpa using hu)
  · exact whole (takeMargin_low hl hc hlow hm) (by simpa using hu)
  · obtain ⟨hport, hothers, hrise, hdown, hpull, hactive⟩ :=
      settle_retrainPort (s := s.setPort p { s.port p with marginLow := 3 }) (p := p) hu (by simpa using hl)
        (by simpa using hc)
    obtain ⟨hline, hmargin, hprofile, hphase, hattempt, htimer, hidle, hflag⟩ :=
      Port.startTraining_fields { s.port p with marginLow := 3 }
    rw [setPort_port_self] at hport
    refine ⟨_, by rw [hexec, event, takeMargin_third hl hc hlow hm], ?_⟩
    rw [hport, hdown]
    exact ⟨hline, hmargin, hprofile, hphase, hattempt, htimer, hidle, hflag, hrise, rfl, hpull, hactive,
      fun q hq => (hothers q hq).trans (setPort_port_ne _ _ hq.symm)⟩

end Sys2Proof.Machine
end

section
/-! SUPPORT. Proofs about the claims of peers: two peers' claims for one binder (R102). -/

namespace Sys2Proof.Machine

/-! ## The notice and the count of a clash -/

/-- A raised cause's flag stands, whether or not a NOTICE is made (R161). -/
theorem raiseNotice_flagSet_self (c : Cause) (s : State) : (raiseNotice c s).flagSet c = true := by
  by_cases hset : s.flagSet c = true
  · simp [raiseNotice, hset]
  · have hbit : (s.mga.flags ||| BitVec.ofNat 10 (2 ^ c.bit)).getLsbD c.bit = true := by
      cases c <;> simp [Cause.bit]
    simp only [raiseNotice, hset, Bool.false_eq_true, if_false]
    repeat' split
    all_goals exact hbit

/-- Of the Frame Store a raised cause leaves the request queue alone (R161). -/
@[simp] theorem raiseNotice_requests (c : Cause) (s : State) : (raiseNotice c s).fst.requests = s.fst.requests := by
  obtain ⟨_, _, _, h⟩ := raiseNotice_fst c s
  rw [h]

@[simp] theorem countCard_requests (c : CardCounter) (s : State) : (countCard c s).fst.requests = s.fst.requests := by
  unfold countCard
  dsimp only
  split <;> simp

@[simp] theorem noteClash_requests (s : State) : (noteClash s).fst.requests = s.fst.requests := by
  simp [noteClash]

theorem noteClash_claimClashes (s : State) :
    (noteClash s).cardCounter .claimClashes = (s.cardCounter .claimClashes).rise 1 := by
  have hcount := countCard_cardCounter s .claimClashes .claimClashes
  simpa [noteClash, State.cardCounter] using hcount

theorem noteClash_flagSet (s : State) : (noteClash s).flagSet .claimClash = true := raiseNotice_flagSet_self _ _

/-- The end of a step leaves the claims, the card's counters and the notice flags alone where it starts no test and takes
no request. -/
theorem settle_keeps_claims_and_notices {s : State} (h0 : s.stc.startState ≠ .reset) (hq : s.tsq.queue = [])
    (hr : s.fst.requests = []) :
    (settle s).clt = s.clt ∧ (settle s).mga.cardCounters = s.mga.cardCounters ∧
      (settle s).mga.flags = s.mga.flags := by
  rw [settle_noRequests h0 hq hr]
  obtain ⟨_, _, _, _, _, ho⟩ := offerWaiting_writes s.mga.waiting.length s
  simp [ho]

/-! ## Two peers' claims (R102) -/

/-- A claimed binder whose entry is written and stays claimed: LSV is told nothing (R100). -/
theorem setClaim_of_claimed {b : BinderId} {e : ClaimEntry} {s : State} (hs : s.claimed b = true)
    (he : e.phase ≠ .free) :
    setClaim b e s = { s with clt := { s.clt with entries := tset s.clt.entries b e } } := by
  have ht : ({ s with clt := { s.clt with entries := tset s.clt.entries b e } } : State).claimed b = true := by
    simp [State.claimed, he]
  simp [setClaim, hs, ht]

theorem peerClaim_phase_ne_free (y : StationId) (held : Bool) (duration : Byte) :
    (peerClaim y held duration).phase ≠ .free := by
  cases held <;> simp [peerClaim]

/-- The model's entry for a peer's claim is the one that the statements write out (R101). -/
theorem peerClaim_eq_claimedBy (y : StationId) (phase duration : Byte) :
    peerClaim y (phase == 1) duration = claimedBy y phase duration := by
  simp [peerClaim, claimedBy, holdTime]

/-- R102's precedence: a HELD claim is kept against one that is not, and between equal phases the lower station's. -/
theorem keepsFirst_iff (xHeld yHeld : Bool) (x y : StationId) :
    keepsFirst xHeld yHeld x y = true ↔
      (xHeld = true ∧ ¬yHeld = true) ∨ ((xHeld = true ↔ yHeld = true) ∧ x < y) := by
  cases xHeld <;> cases yHeld <;> simp [keepsFirst]

/-- The precedence over the phases that the entry and the frame carry. -/
theorem keepsFirst_phases_iff (xPhase : ClaimPhase) (yPhase : Byte) (x y : StationId) :
    keepsFirst (xPhase == .held) (yPhase == 1) x y = true ↔
      (xPhase = .held ∧ yPhase ≠ 1) ∨ ((xPhase = .held ↔ yPhase = 1) ∧ x < y) := by
  simp [keepsFirst_iff]

section
variable {s : State} {b : BinderId} {x y : StationId}

/-- A CLAIM that finds another peer's claim in the entry meets it by R102, and the sequencer hears nothing. -/
theorem claimArrives_otherPeer (phase duration : Byte) (hphase : (s.claim b).phase ≠ .free)
    (hown : (s.claim b).own = false) (hx : (s.claim b).claimant = some x) (hxy : x ≠ y) :
    claimArrives y b phase duration s = meetPeerClaim b x y (phase == 1) duration s := by
  simp [claimArrives, takeClaim, tellSequencer, hphase, hown, hx, hxy]

/-- An entry of a claimed binder that a condition keeps, or else is written with another claim. -/
theorem ite_setClaim_of_claimed {e : ClaimEntry} (keep : Bool) (hs : s.claimed b = true) (he : e.phase ≠ .free) :
    (if keep then s else setClaim b e s) =
      { s with clt := { s.clt with entries := if keep then s.clt.entries else tset s.clt.entries b e } } := by
  cases keep
  · exact setClaim_of_claimed hs he
  · rfl

/-- All that a meeting of two peers' claims writes: a clash's count and notice, and the binder's entry where the claim that
came is kept (R102). -/
theorem meetPeerClaim_writes (held : Bool) (duration : Byte) (hphase : (s.claim b).phase ≠ .free) :
    meetPeerClaim b x y held duration s =
      { (if (s.claim b).phase == .held && held then noteClash s else s) with
        clt := { s.clt with
          entries :=
            if keepsFirst ((s.claim b).phase == .held) held x y then s.clt.entries
            else tset s.clt.entries b (peerClaim y held duration) } } := by
  have hnoted : (if (s.claim b).phase == .held && held then noteClash s else s).clt = s.clt := by
    split <;> simp
  have hclaimed : (if (s.claim b).phase == .held && held then noteClash s else s).claimed b = true := by
    rw [State.claimed, hnoted]
    exact bne_iff_ne.2 hphase
  rw [meetPeerClaim, ite_setClaim_of_claimed _ hclaimed (peerClaim_phase_ne_free y held duration), hnoted]

/-- What a meeting leaves in the entries, and what it leaves alone (R102). -/
theorem meetPeerClaim_spec (held : Bool) (duration : Byte) (hphase : (s.claim b).phase ≠ .free) :
    let u := meetPeerClaim b x y held duration s
    u.claim b = (if keepsFirst ((s.claim b).phase == .held) held x y then s.claim b else peerClaim y held duration) ∧
      (∀ c, c ≠ b → u.claim c = s.claim c) ∧ u.clt.own = s.clt.own ∧ u.ports = s.ports ∧
      u.stc = s.stc ∧ u.tsq = s.tsq ∧ u.fst.requests = s.fst.requests := by
  rw [meetPeerClaim_writes held duration hphase]
  generalize keepsFirst ((s.claim b).phase == .held) held x y = keep
  refine ⟨?_, fun c hc => ?_, rfl, ?_⟩
  · cases keep <;> simp [State.claim]
  · cases keep <;> simp [State.claim, tget_tset_ne _ _ hc.symm]
  · split <;> simp

theorem meetPeerClaim_mga_of_clash (duration : Byte) (hx : (s.claim b).phase = .held) :
    (meetPeerClaim b x y true duration s).mga = (noteClash s).mga := by
  rw [meetPeerClaim_writes true duration (by simp [hx])]
  simp [hx]

/-- Without a clash a meeting writes the Claim Table alone (R102). -/
theorem meetPeerClaim_of_noClash {held : Bool} (duration : Byte) (hphase : (s.claim b).phase ≠ .free)
    (h : ¬((s.claim b).phase = .held ∧ held = true)) :
    ∃ clt, meetPeerClaim b x y held duration s = { s with clt := clt } := by
  have hno : ((s.claim b).phase == .held && held) = false := by simpa using h
  rw [meetPeerClaim_writes held duration hphase, hno]
  exact ⟨_, rfl⟩

/-! ## The step of the meeting -/

/-- What the step leaves in the entries and in the ports: the end of a step touches neither. -/
theorem settle_meetPeerClaim_spec (held : Bool) (duration : Byte) (hu : Unburdened s) (hphase : (s.claim b).phase ≠ .free) :
    let t := settle (meetPeerClaim b x y held duration s)
    t.claim b = (if keepsFirst ((s.claim b).phase == .held) held x y then s.claim b else peerClaim y held duration) ∧
      (∀ c, c ≠ b → t.claim c = s.claim c) ∧ t.ports = s.ports ∧ t.clt.own = s.clt.own := by
  obtain ⟨hself, hothers, hown, hports, hstc, htsq, hrequests⟩ :=
    meetPeerClaim_spec (x := x) (y := y) held duration hphase
  obtain ⟨hrun, hqueue, hreq, -⟩ := hu
  rw [← hstc] at hrun
  rw [← htsq] at hqueue
  rw [← hrequests] at hreq
  obtain ⟨kports, -⟩ := settle_keeps hrun hqueue hreq
  obtain ⟨kclt, -⟩ := settle_keeps_claims_and_notices hrun hqueue hreq
  simp only [State.claim, kclt, kports]
  exact ⟨hself, hothers, hports, hown⟩

/-- A meeting of two HELD claims is counted and its flag stands at the end of the step (R102). -/
theorem settle_meetPeerClaim_of_clash (duration : Byte) (hu : Unburdened s) (hx : (s.claim b).phase = .held) :
    let t := settle (meetPeerClaim b x y true duration s)
    t.cardCounter .claimClashes = (s.cardCounter .claimClashes).rise 1 ∧ t.flagSet .claimClash = true := by
  obtain ⟨-, -, -, -, hstc, htsq, hrequests⟩ :=
    meetPeerClaim_spec (x := x) (y := y) true duration (b := b) (s := s) (by simp [hx])
  obtain ⟨hrun, hqueue, hreq, -⟩ := hu
  obtain ⟨-, kcounters, kflags⟩ :=
    settle_keeps_claims_and_notices (hstc ▸ hrun) (htsq ▸ hqueue) (hrequests ▸ hreq)
  have hmga := meetPeerClaim_mga_of_clash (x := x) (y := y) duration hx
  simp only [State.cardCounter, State.flagSet, kcounters, kflags, hmga]
  exact ⟨noteClash_claimClashes s, noteClash_flagSet s⟩

/-- A meeting without a clash leaves the management agent as it was (R102). -/
theorem settle_meetPeerClaim_of_noClash {held : Bool} (duration : Byte) (hu : Unburdened s)
    (hphase : (s.claim b).phase ≠ .free) (h : ¬((s.claim b).phase = .held ∧ held = true)) :
    (settle (meetPeerClaim b x y held duration s)).mga = s.mga := by
  obtain ⟨clt, hmeet⟩ := meetPeerClaim_of_noClash (x := x) (y := y) duration hphase h
  have hquiet : Unburdened { s with clt := clt } := hu
  rw [hmeet, settle_unburdened hquiet, txArbitrate_mga]

end

theorem exec_claimReceived (y : StationId) (b : BinderId) (phase duration : Byte) (s : State) :
    exec (.claimReceived y b phase duration) s = execClaimReceived y b phase duration s := rfl

/-- A CLAIM from a peer is delivered to the Claim Table, and the step ends (R66, R101). -/
theorem exec_claimReceived_peer {s : State} {y : StationId} (b : BinderId) (phase duration : Byte)
    (h0 : s.stc.startState ≠ .reset) (hy : y ≠ s.stc.station) :
    exec (.claimReceived y b phase duration) s = .next (settle (claimArrives y b phase duration s)) := by
  rw [exec_claimReceived, execClaimReceived, heard_running h0, event, if_neg hy]

/-- Settles O23: the CLAIM meets the entry by R102's precedence, and the end of the step leaves what the meeting wrote. -/
theorem peerClaimsAreResolvedByPhase : Obligations.PeerClaimsAreResolvedByPhase := by
  unfold Obligations.PeerClaimsAreResolvedByPhase
  intro s x y b phase duration hu hy hxy hphase hown hclaimant
  dsimp only
  have hexec := exec_claimReceived_peer b phase duration hu.1 hy
  rw [claimArrives_otherPeer phase duration hphase hown hclaimant hxy] at hexec
  obtain ⟨hentry, hothers, hports, hownClaim⟩ :=
    settle_meetPeerClaim_spec (x := x) (y := y) (phase == 1) duration hu hphase
  simp only [peerClaim_eq_claimedBy, keepsFirst_phases_iff] at hentry
  refine ⟨_, hexec, fun ⟨hx, hy⟩ => ?_, fun ⟨hx, hy⟩ => ?_, fun hsame => ?_, fun ⟨hx, hy⟩ => ?_, fun hno => ?_,
    hothers, hports, hownClaim⟩
  · rw [hentry, if_pos (.inl ⟨hx, hy⟩)]
  · rw [hentry]
    simp [hx, hy]
  · rw [hentry]
    simp [hsame]
  · rw [beq_iff_eq.2 hy]
    exact settle_meetPeerClaim_of_clash duration hu hx
  · exact settle_meetPeerClaim_of_noClash duration hu hphase fun ⟨hx, hy⟩ => hno ⟨hx, beq_iff_eq.1 hy⟩

end Sys2Proof.Machine
end

section
/-! SUPPORT. Proofs about the management requests: what becomes of one that reaches a free agent (R47, R48, R156), and
NOTICE_ACK (R162). -/

namespace Sys2Proof.Machine

/-! ## A request that reaches a free agent -/

/-- The card with a request at the tail of the request queue (R47). -/
def admitRequest (payload : List Byte) (s : State) : State :=
  { s with fst := { s.fst with
    busStaging := []
    freeCells := s.fst.freeCells - cellsOf payload
    freeRecords := s.fst.freeRecords - 1
    requests := s.fst.requests ++ [{ kind := .mreq, port := 31, payload := payload, inFlight := false }] } }

/-- A completed MREQ that finds room is admitted (R47). -/
theorem completeMreq_of_room {payload : List Byte} {s : State} (hq : s.fst.requests.length < 8)
    (hc : cellsOf payload ≤ s.fst.freeCells) (hr : 1 ≤ s.fst.freeRecords) :
    completeMreq (stageBus payload s) = admitRequest payload s :=
  if_pos ⟨hq, hc, hr⟩

/-- The start choice does nothing where no test is queued or one runs (R116). -/
theorem startChoice_of_noQueue_or_running {s : State} (h : s.tsq.queue = [] ∨ s.tsq.running ≠ none) :
    startChoice s = s := by
  obtain hq | hr := h
  · exact startChoice_noQueue hq
  · simp [startChoice, hr]

/-- MGA takes the only request where nothing waits, and has no more to do where its answer does not wait either (R156). -/
theorem mgaWork_takes_one {s : State} {f : Frame} (hreq : s.fst.requests = [f]) (htake : canTake s = true)
    (hafter : (startChoice (takeRequest s)).mga.waiting = []) : mgaWork s = startChoice (takeRequest s) := by
  have hcan := htake
  simp only [canTake, Bool.and_eq_true, List.isEmpty_iff] at hcan
  obtain ⟨⟨⟨-, hw⟩, -⟩, -⟩ := hcan
  simp [mgaWork, hreq, mgaRun, hw, offerWaiting, htake, hafter]

section
variable {s u : State} {payload bytes : List Byte}

theorem admitRequest_requests (hq : s.fst.requests = []) : (admitRequest payload s).fst.requests =
    [{ kind := .mreq, port := 31, payload := payload, inFlight := false }] := by
  simp [admitRequest, hq]

/-- The one request of a card whose agent is free otherwise is taken (R156). -/
theorem canTake_admitRequest (hw : s.mga.waiting = []) (hp : s.fst.responses.length < 8)
    (hrestart : s.mga.restartPending = false) : canTake (admitRequest payload s) = true := by
  simp [canTake, admitRequest, hw, hp, hrestart]

/-- An answer's placement returns what its request's admission took, so that the answer alone takes room (R48). -/
theorem placeAnswer_admitRequest (hq : u.fst.requests = []) (hc : cellsOf payload ≤ u.fst.freeCells)
    (hr : 1 ≤ u.fst.freeRecords) :
    placeAnswer bytes (admitRequest payload u) =
      { u with fst := { u.fst with busStaging := [] }.placeResponse .mrsp bytes } := by
  simp [placeAnswer, removeRequestHead, admitRequest, hq, Fst.giveBack, Frame.cells, Nat.sub_add_cancel hc,
    Nat.sub_add_cancel hr, Fst.placeResponse, Fst.takeOut]

/-- An answer that has room once its request is gone is placed at once (R48, R156). -/
theorem offerAnswer_admitRequest (hq : u.fst.requests = []) (hc : cellsOf payload ≤ u.fst.freeCells)
    (hr : 1 ≤ u.fst.freeRecords) (hp : u.fst.responses.length < 8) (ha : cellsOf bytes ≤ u.fst.freeCells) :
    offerAnswer bytes (admitRequest payload u) =
      { u with fst := { u.fst with busStaging := [] }.placeResponse .mrsp bytes } := by
  have hfits : answerFits bytes (admitRequest payload u) = true := by
    simp only [answerFits, Fst.placeable, returning, admitRequest_requests hq, Frame.cells, Bool.and_eq_true,
      decide_eq_true_eq]
    simp only [admitRequest]
    omega
  rw [offerAnswer, if_pos hfits, placeAnswer_admitRequest hq hc hr]

end

section
variable {s u : State} {tag : BitVec 16} {kind : Nat} {args data : List Byte} {st : Status}

/-- The one request is taken, and its answer placed, where its effect `u` leaves the Frame Store as it was (R48, R156). -/
theorem takeRequest_admitRequest (hs : AgentFree s) (hargs : cellsOf (mreqPayload tag kind args) ≤ 64)
    (hdata : cellsOf (u16 tag.toNat ++ [u8 kind, u8 st.code] ++ data) ≤ 64)
    (hcheck : checkRequest (mreqPayload tag kind args) (admitRequest (mreqPayload tag kind args) s) =
      { card := admitRequest (mreqPayload tag kind args) u, status := st, data := data })
    (hfst : u.fst = s.fst) :
    takeRequest (admitRequest (mreqPayload tag kind args) s) = answered tag kind st data u := by
  obtain ⟨-, hq, -, -, hp, hcells, hrecords, -⟩ := hs
  rw [← hfst] at hp hcells hrecords
  simp only [takeRequest, admitRequest_requests hq, hcheck]
  exact offerAnswer_admitRequest (hfst ▸ hq) (hargs.trans hcells) hrecords hp (hdata.trans hcells)

/-- A request that reaches a free agent is answered within its step: the card is then as the request's effect `u` leaves it,
with the answer in the response queue (R47, R48, R156). -/
theorem request_answered (hs : AgentFree s) (hargs : cellsOf (mreqPayload tag kind args) ≤ 64)
    (hdata : cellsOf (u16 tag.toNat ++ [u8 kind, u8 st.code] ++ data) ≤ 64)
    (hcheck : checkRequest (mreqPayload tag kind args) (admitRequest (mreqPayload tag kind args) s) =
      { card := admitRequest (mreqPayload tag kind args) u, status := st, data := data })
    (hfst : u.fst = s.fst) (hwaiting : u.mga.waiting = []) (htsq : u.tsq.queue = [] ∨ u.tsq.running ≠ none) :
    request tag kind args s = .next (txArbitrate (answered tag kind st data u)) := by
  have htake := takeRequest_admitRequest hs hargs hdata hcheck hfst
  obtain ⟨h0, hq, hw, hrestart, hp, hcells, hrecords, hidle⟩ := hs
  have hadmit : completeMreq (stageBus (mreqPayload tag kind args) s) = admitRequest (mreqPayload tag kind args) s :=
    completeMreq_of_room (by simp [hq]) (hargs.trans hcells) hrecords
  have hbefore : startChoice (admitRequest (mreqPayload tag kind args) s) = admitRequest (mreqPayload tag kind args) s :=
    startChoice_of_noQueue_or_running hidle
  have hafter : startChoice (answered tag kind st data u) = answered tag kind st data u :=
    startChoice_of_noQueue_or_running htsq
  have hwork : mgaWork (admitRequest (mreqPayload tag kind args) s) = answered tag kind st data u := by
    rw [mgaWork_takes_one (admitRequest_requests hq) (canTake_admitRequest hw hp hrestart), htake, hafter]
    rwa [htake, hafter]
  have hrunning : (admitRequest (mreqPayload tag kind args) s).stc.startState ≠ .reset := h0
  rw [request, heard_running h0, event, hadmit, settle, if_neg hrunning, hbefore, hwork]

/-- Out of LOADING a request of a known kind passes the checks where its arguments can be read (R156). -/
theorem checkRequest_mreqPayload {r : Request} (hl : s.stc.startState ≠ .loading) (hk : isKind (u8 kind).toNat = true)
    (hr : parseArgs (u8 kind).toNat args = some r) : checkRequest (mreqPayload tag kind args) s = answerRequest r s := by
  simp [checkRequest, mreqPayload, u16, hk, hl, hr]

end

/-- A word's two bytes hold the word (R174). -/
theorem ofNat_pair16_bytes (w : BitVec 16) : BitVec.ofNat 16 (pair16 (u8 (w.toNat / 256)) (u8 w.toNat)) = w := by
  apply BitVec.eq_of_toNat_eq
  simp only [pair16, u8, BitVec.toNat_ofNat]
  omega

/-! ## NOTICE_ACK (R162) -/

theorem exec_noticeAck (tag mask : BitVec 16) (s : State) :
    exec (.noticeAck tag mask) s = request tag 10 (u16 mask.toNat) s := rfl

theorem parseArgs_noticeAck (mask : BitVec 16) : parseArgs 10 (u16 mask.toNat) = some (.noticeAck mask) :=
  congrArg (fun m => some (Request.noticeAck m)) (ofNat_pair16_bytes mask)

theorem Cause.bit_lt (c : Cause) : c.bit < 10 := by
  cases c <;> decide

/-- NOTICE_ACK clears the flags of the causes that its mask names and no other (R162). -/
theorem ackNotices_flagSet (mask : BitVec 16) (s : State) (c : Cause) :
    (ackNotices mask s).card.flagSet c = (s.flagSet c && !mask.getLsbD c.bit) := by
  have hbit : c.bit < 10 := c.bit_lt
  simp [ackNotices, Answer.plain, State.flagSet, hbit]

/-- Where nothing waits, NOTICE_ACK writes the flags alone (R162, log 41). -/
theorem ackNotices_of_noWaiting {s : State} (mask : BitVec 16) (hw : s.mga.waiting = []) :
    (ackNotices mask s).card = { s with mga := { s.mga with flags := (ackNotices mask s).card.mga.flags } } := by
  have hnone : s.mga.waiting.filter (fun i => !i.acked mask) = s.mga.waiting := by simp [hw]
  simp only [ackNotices, Answer.plain, hnone]

/-- A NOTICE_ACK that reaches a free agent out of LOADING is answered OK (R156, R162). -/
theorem exec_noticeAck_answered {s : State} (tag mask : BitVec 16) (hs : AgentFree s)
    (hl : s.stc.startState ≠ .loading) :
    exec (.noticeAck tag mask) s = .next (txArbitrate (answered tag 10 .ok [] (ackNotices mask s).card)) := by
  obtain ⟨-, -, hw, -, -, -, -, hidle⟩ := id hs
  have hcheck := checkRequest_mreqPayload (s := admitRequest (mreqPayload tag 10 (u16 mask.toNat)) s) (tag := tag)
    (kind := 10) hl rfl (parseArgs_noticeAck mask)
  rw [exec_noticeAck]
  refine request_answered hs ?_ ?_ hcheck rfl ?_ hidle
  · simp [cellsOf, blocksOf, mreqPayload, u16]
  · simp [cellsOf, blocksOf, u16]
  · simp [ackNotices, Answer.plain, hw]

/-- Settles O46: a free agent has nothing waiting, so that the mask's flags are all that NOTICE_ACK writes. -/
theorem noticeAckClearsNamedFlags : Obligations.NoticeAckClearsNamedFlags := by
  unfold Obligations.NoticeAckClearsNamedFlags
  refine ⟨fun s tag mask hs hl => ?_, fun s mask => ?_⟩
  · obtain ⟨-, -, hw, -⟩ := id hs
    exact ⟨_, exec_noticeAck_answered tag mask hs hl, ackNotices_of_noWaiting mask hw, ackNotices_flagSet mask s⟩
  · refine List.filter_congr fun i _ => ?_
    cases i <;> rfl

end Sys2Proof.Machine
end

section
/-! SUPPORT. What an operation of the card may do to the parts of the state that the laws speak of: the small changes that
leave them as they were, and the moves of which every step is made. -/

namespace Sys2Proof.Machine

/-! ## What the laws read -/

/-- The port that the running test has taken: none while it waits for its claim (R119). -/
def State.taken (s : State) : Option PortId :=
  s.tsq.running.bind fun r => if r.st = .claiming then none else some r.req.port

/-- A stage runs in MEASURING alone (R120). -/
def StageLaw (s : State) : Prop := s.msu.run ≠ .none → ∃ run, s.tsq.running = some run ∧ run.st = .measuring

/-- A port stands once at most among the test queue and the running test (R113). -/
def OnceLaw (s : State) : Prop :=
  ((s.tsq.queue ++ (s.tsq.running.map Running.req).toList).map TestReq.port).Nodup

/-- No port under test and no FAULTED port has a relay that the reset hold will close (log 19). -/
def HeldLaw (s : State) : Prop :=
  ∀ p, (s.port p).serviceHeld = true → (s.port p).lineState ≠ .testing ∧ (s.port p).lineState ≠ .faulted

/-- No relay closes, and the reset hold keeps off the ports under test and the FAULTED ones (R5, R7). -/
structure Opens (s t : State) : Prop where
  service : ∀ p, (t.port p).serviceClosed = true → (s.port p).serviceClosed = true
  test : ∀ p, (t.port p).testClosed = true → (s.port p).testClosed = true
  held : HeldLaw s → HeldLaw t

theorem Opens.refl (s : State) : Opens s s := ⟨fun _ h => h, fun _ h => h, id⟩

theorem Opens.trans {s t u : State} (h : Opens s t) (k : Opens t u) : Opens s u :=
  ⟨fun p hp => h.service p (k.service p hp), fun p hp => h.test p (k.test p hp), fun hs => k.held (h.held hs)⟩

/-- Whatever keeps the port records moves no relay. -/
theorem Opens.of_ports {s t : State} (h : t.ports = s.ports) : Opens s t := by
  have hp : t.port = s.port := by simp [State.port, h, funext_iff]
  simpa [HeldLaw, hp] using (⟨by simp [hp], by simp [hp], by simp [HeldLaw, hp]⟩ : Opens s t)

/-! ## Harmless changes -/

/-- A change that leaves what the laws read as it was, but that it may take frames into a downstream queue in service and move
frames between the pools and the management queues, change the control list and the counters within their bounds, and lead
the own claim and the test queue from one lawful state to another. -/
structure Harmless (s t : State) : Prop where
  cfg : t.cfg = s.cfg
  start : t.stc.startState = s.stc.startState
  station : t.stc.station = s.stc.station
  asserted : t.pins.resetAsserted = true → s.pins.resetAsserted = true
  idle : s.stc.startState = .reset → s.bau.tx.st = .idle → t.bau.tx.st = .idle
  hand : ∀ p, t.bau.tx.hand = some (.data p) → s.bau.tx.hand = some (.data p)
  line : ∀ p, (t.port p).lineState = (s.port p).lineState
  binder : ∀ p, (t.port p).binder = (s.port p).binder
  store : StoreLaw s → StoreLaw t
  up : t.fst.up = s.fst.up
  down : ∀ p, tget t.fst.down p = tget s.fst.down p ∨
    (s.port p).lineState = .inService ∧ cellsIn (tget t.fst.down p) ≤ max (cellsIn (tget s.fst.down p)) s.cfg.dqMax
  control : ControlLaw s → ControlLaw t
  counters : CounterLaw s → CounterLaw t
  peers : t.shu.peers = s.shu.peers
  credit : t.shu.credit = s.shu.credit
  own : t.smn.own = s.smn.own
  cabinet : t.smn.cabinet = s.smn.cabinet
  active : t.usc.active = s.usc.active
  tokens : ∀ p, (t.uscPort p).tokens = (s.uscPort p).tokens
  depth : ∀ p, (t.uscPort p).heldDepth = (s.uscPort p).heldDepth
  phase : ∀ b, (t.claim b).phase = (s.claim b).phase
  claims : ClaimLaw s → ClaimLaw t
  stage : StageLaw s → t.taken = s.taken ∧ StageLaw t
  origin : t.tsq.running ≠ none → s.tsq.running ≠ none ∨ s.stc.startState = .running
  once : OnceLaw s → OnceLaw t

theorem Harmless.refl (s : State) : Harmless s s where
  cfg := rfl
  start := rfl
  station := rfl
  asserted := id
  idle _ := id
  hand _ := id
  line _ := rfl
  binder _ := rfl
  store := id
  up := rfl
  down _ := .inl rfl
  control := id
  counters := id
  peers := rfl
  credit := rfl
  own := rfl
  cabinet := rfl
  active := rfl
  tokens _ := rfl
  depth _ := rfl
  phase _ := rfl
  claims := id
  stage h := ⟨rfl, h⟩
  origin := .inl
  once := id

theorem Harmless.trans {s t u : State} (h : Harmless s t) (k : Harmless t u) : Harmless s u where
  cfg := k.cfg.trans h.cfg
  start := k.start.trans h.start
  station := k.station.trans h.station
  asserted hu := h.asserted (k.asserted hu)
  idle h0 hi := k.idle (h.start.trans h0) (h.idle h0 hi)
  hand p hu := h.hand p (k.hand p hu)
  line p := (k.line p).trans (h.line p)
  binder p := (k.binder p).trans (h.binder p)
  store hs := k.store (h.store hs)
  up := k.up.trans h.up
  down p := by
    have hd := h.down p
    have kd := k.down p
    rw [h.line, h.cfg] at kd
    obtain hd | ⟨hl, hd⟩ := hd <;> obtain kd | ⟨kl, kd⟩ := kd
    · exact .inl (kd.trans hd)
    · exact .inr ⟨kl, hd ▸ kd⟩
    · exact .inr ⟨hl, kd ▸ hd⟩
    · exact .inr ⟨hl, by omega⟩
  control hs := k.control (h.control hs)
  counters hs := k.counters (h.counters hs)
  peers := k.peers.trans h.peers
  credit := k.credit.trans h.credit
  own := k.own.trans h.own
  cabinet := k.cabinet.trans h.cabinet
  active := k.active.trans h.active
  tokens p := (k.tokens p).trans (h.tokens p)
  depth p := (k.depth p).trans (h.depth p)
  phase b := (k.phase b).trans (h.phase b)
  claims hs := k.claims (h.claims hs)
  stage hs := ⟨(k.stage (h.stage hs).2).1.trans (h.stage hs).1, (k.stage (h.stage hs).2).2⟩
  origin hu := by
    obtain ht | ht := k.origin hu
    · exact h.origin ht
    · exact .inr (h.start ▸ ht)
  once hs := k.once (h.once hs)

/-! ## Moves -/

/-- The moves of which every step of the card is made. Each names the operation and what its caller has checked. -/
inductive Move : State → State → Prop
  /-- A harmless change. -/
  | same {s t : State} (h : Harmless s t) : Move s t
  /-- An upstream frame is admitted (R41, R42). -/
  | admitUp {s : State} {p : PortId} {payload : List Byte} (room : admission s p .up (cellsOf payload) = none)
      (length : payload.length ≤ 1536) : Move s (uscUpdate p (passingFrame p (enqueueData p .up payload s)))
  /-- A port changes its line state, but not to TESTING, nor from it. -/
  | line {s : State} {p : PortId} {ns : LineState} {w l : Bool}
      (old : (s.port p).lineState = .testing → s.stc.startState = .joining) (new : ns ≠ .testing)
      (started : (s.port p).lineState ≠ .disabled ∨ s.joined = true)
      (free : ns = .training → s.claimed (s.port p).binder = false) : Move s (changeState p ns w l s)
  /-- The running test takes its port (R119). -/
  | isolate {s : State} {r : Running} (running : s.tsq.running = some r) (claiming : r.st = .claiming) :
      Move s (enterIsolating s)
  /-- The running test leaves its port (R128). -/
  | testEnd {s : State} {r : Running} (o : TestOutcome) (running : s.tsq.running = some r)
      (stopped : r.st = .measuring → s.msu.run = .none) : Move s (setRunning none (portAfterTest r o s))
  /-- A claim table entry and the own claim are written (R99, R106). -/
  | claim {s : State} {b : BinderId} {e : ClaimEntry} {c : Option (BinderId × ClaimStep)}
      (lawful : ClaimLaw s → ClaimLaw { s with clt := { entries := tset s.clt.entries b e, own := c } })
      (held : e.phase ≠ .free →
        s.claimed b = true ∨ ∀ p, (s.port p).lineState = .training → (s.port p).binder ≠ b) :
      Move s { s with clt := { entries := tset s.clt.entries b e, own := c } }
  /-- The transmission of a DATA frame ends (R45, R81, R94). -/
  | dataEnd {s : State} {p : PortId} (ok : Bool) (hand : s.bau.tx.hand = some (.data p)) :
      Move s (dataEnd ok p (setTx Tx.initial s))
  /-- A DATA frame is chosen (R62, R93). -/
  | takeData {s : State} (out : s.stc.startState ≠ .reset) (credit : 0 < s.shu.credit) : Move s (takeData s)
  /-- The tokens are refilled (R88). -/
  | refill {s : State} : Move s (uscRefillAll s)
  /-- The credit is renewed by the grant (R80). -/
  | renew {s : State} (grant : s.shu.grant ≤ 65535) : Move s (expiryCredit s)
  /-- The peer table or the own supply state changes, and the cabinet supply state with it (R148). -/
  | supply {s : State} {m : Smn} {peers : Tbl Peer 8} (joined : s.joined = true ∨ peers = s.shu.peers)
      (worst : s.smn.cabinet = worstSupply s →
        m.cabinet = worstSupply { s with smn := m, shu := { s.shu with peers := peers } }) :
      Move s { s with smn := m, shu := { s.shu with peers := peers } }
  /-- Every block returns to its reset values, and at a RESTART LOADING is entered at once (R160, R165). -/
  | reset {s : State} {pins : Pins} {hold : RelayHold} {ports : Tbl Port 16} {tsq : Tsq} {mga : Mga} {c : Stc} {m : Smn}
      (start : c.startState = .reset ∨
        c.startState = .loading ∧ s.bau.tx.st ≠ .idle ∧ pins.resetAsserted = s.pins.resetAsserted)
      (own : m.own = m.cabinet) (disabled : ∀ p, (tget ports p).lineState = .disabled) (idle : tsq.queue = [] ∧ tsq.running = none)
      (counters : CounterLaw s → CounterLaw { s with mga := mga }) :
      Move s { blocksReset s with
        pins := pins, ports := ports, relayHold := hold, tsq := tsq, mga := mga, stc := c, smn := m }
  /-- LOADING is entered from RESET, as the reset input is released (R165). -/
  | load {s : State} {pins : Pins} {c : Stc} {m : Smn} (old : s.pins.resetAsserted = true)
      (released : pins.resetAsserted = false) (new : c.startState = .loading) (own : m.own = s.smn.own)
      (cabinet : m.cabinet = s.smn.cabinet) : Move s { s with pins := pins, stc := c, smn := m }
  /-- LOADING ends in JOINING, and JOINING in RUNNING (R169). -/
  | start {s : State} {c : Stc} (station : c.station = s.stc.station)
      (next : s.stc.startState = .loading ∧ c.startState = .joining ∨
        s.stc.startState = .joining ∧ c.startState = .running) : Move s { s with stc := c }
  /-- The configuration takes effect (R166). -/
  | configure {s : State} (c : Cfg) (loading : s.stc.startState = .loading) : Move s (takeCfg c s)

/-- A move that closes no relay and leaves the commands that wait as they stand. -/
def Link (s t : State) : Prop := Move s t ∧ Opens s t ∧ t.pending = s.pending

/-- What such moves, one after another, lead to. -/
def Leads : State → State → Prop := Relation.ReflTransGen Link

theorem Leads.refl (s : State) : Leads s s := Relation.ReflTransGen.refl

theorem Leads.trans {s t u : State} (h : Leads s t) (k : Leads t u) : Leads s u := Relation.ReflTransGen.trans h k

theorem Leads.of_move {s t : State} (h : Move s t) (ho : Opens s t) (hp : t.pending = s.pending) : Leads s t :=
  .single ⟨h, ho, hp⟩

/-- A harmless change of anything but the port records. -/
theorem Leads.of_harmless {s t : State} (h : Harmless s t) (hports : t.ports = s.ports) (hp : t.pending = s.pending) :
    Leads s t := .of_move (.same h) (.of_ports hports) hp

theorem Leads.opens {s t : State} (h : Leads s t) : Opens s t := by
  induction h with
  | refl => exact .refl _
  | tail _ hlink ih => exact ih.trans hlink.2.1

theorem Leads.pending {s t : State} (h : Leads s t) : t.pending = s.pending := by
  induction h with
  | refl => rfl
  | tail _ hlink ih => exact hlink.2.2.trans ih

/-- A law that every move keeps is kept by what moves lead to. -/
theorem Leads.keeps {P : State → Prop} (hmove : ∀ {s t}, Move s t → P s → P t) {s t : State} (h : Leads s t) (hs : P s) :
    P t := by
  induction h with
  | refl => exact hs
  | tail _ hlink ih => exact hmove hlink.1 ih

/-- A choice between two courses leads where either leads. -/
theorem Leads.ite {c : Prop} [Decidable c] {s t u : State} (ht : c → Leads s t) (hu : ¬c → Leads s u) :
    Leads s (if c then t else u) := by
  split
  · exact ht ‹_›
  · exact hu ‹_›

/-- A change made for every port of a list leads on where each single change does. -/
theorem Leads.forPorts {f : PortId → State → State} (h : ∀ p t, Leads t (f p t)) (ps : List PortId) (s : State) :
    Leads s (forPorts ps f s) := by
  induction ps generalizing s with
  | nil => exact .refl s
  | cons p ps ih => exact (h p s).trans (ih (f p s))

end Sys2Proof.Machine
end

section
/-! SUPPORT. The Frame Store under its operations: the cells and records of all queues together (R37, R38). -/

namespace Sys2Proof.Machine

/-! ## Every port -/

theorem allPorts_eq_finRange : allPorts = List.finRange 16 := by decide

theorem mem_allPorts (p : PortId) : p ∈ allPorts := by
  rw [allPorts_eq_finRange]
  exact List.mem_finRange p

/-- Two sums over the ports that differ at one port alone. -/
theorem sum_allPorts_update {f g : PortId → Nat} (p : PortId) (h : ∀ q, q ≠ p → f q = g q) :
    (allPorts.map f).sum + g p = (allPorts.map g).sum + f p := by
  have hf := Finset.add_sum_erase Finset.univ f (Finset.mem_univ p)
  have hg := Finset.add_sum_erase Finset.univ g (Finset.mem_univ p)
  have hrest := Finset.sum_congr (rfl : Finset.univ.erase p = _) fun q hq => h q (Finset.ne_of_mem_erase hq)
  simp only [allPorts_eq_finRange, ← Fin.sum_univ_def]
  linarith

/-! ## The queues together -/

theorem cellsQueued_eq (x : Fst) : x.cellsQueued =
    (allPorts.map (fun p => cellsIn (tget x.up p))).sum + (allPorts.map (fun p => cellsIn (tget x.down p))).sum
      + cellsIn x.requests + cellsIn x.responses := by
  simp only [Fst.cellsQueued, allPorts_eq_finRange, ← Fin.sum_univ_def, Finset.sum_add_distrib]

theorem recordsQueued_eq (x : Fst) : x.recordsQueued =
    (allPorts.map (fun p => (tget x.up p).length)).sum + (allPorts.map (fun p => (tget x.down p).length)).sum
      + x.requests.length + x.responses.length := by
  simp only [Fst.recordsQueued, allPorts_eq_finRange, ← Fin.sum_univ_def, Finset.sum_add_distrib]

/-- A sum over the ports' queues after one of them is replaced. -/
theorem sum_tset (v : Tbl (List Frame) 16) (p : PortId) (q : List Frame) (f : List Frame → Nat) :
    (allPorts.map (fun r => f (tget (tset v p q) r))).sum + f (tget v p) =
      (allPorts.map (fun r => f (tget v r))).sum + f q := by
  have h := sum_allPorts_update (f := fun r => f (tget (tset v p q) r)) (g := fun r => f (tget v r)) p
    fun r hr => by simp [tget_tset_ne _ _ hr.symm]
  simpa using h

/-- The Frame Store's part of the law: its pools with its queues, and the bounds of the management queues (R37, R38). -/
def Fst.lawful (x : Fst) : Prop :=
  x.freeCells + x.cellsQueued = 4096 ∧ x.freeRecords + x.recordsQueued = 1024 ∧
    x.requests.length ≤ 8 ∧ x.responses.length ≤ 8

theorem storeLaw_iff (s : State) : StoreLaw s ↔ s.fst.lawful := Iff.rfl

section
variable {x : Fst}

/-- A frame that the pools hold enough for is taken from them and joins a port's upstream queue (R42). -/
theorem Fst.lawful.enqueueUp (h : x.lawful) (p : PortId) (f : Frame) (hc : f.cells ≤ x.freeCells)
    (hr : 1 ≤ x.freeRecords) : ((x.takeOut f).setQueue p .up (tget x.up p ++ [f])).lawful := by
  obtain ⟨hcells, hrecords, hreq, hresp⟩ := h
  have hsum := sum_tset x.up p (tget x.up p ++ [f])
  have hcellsum := hsum cellsIn
  have hlensum := hsum List.length
  rw [cellsQueued_eq] at hcells
  rw [recordsQueued_eq] at hrecords
  refine ⟨?_, ?_, hreq, hresp⟩
  · simp only [cellsQueued_eq, Fst.setQueue, Fst.takeOut, cellsIn_append, cellsIn_cons, cellsIn_nil] at hcellsum ⊢
    omega
  · simp only [recordsQueued_eq, Fst.setQueue, Fst.takeOut, List.length_append, List.length_singleton] at hlensum ⊢
    omega

/-- As `enqueueUp`, for a downstream queue. -/
theorem Fst.lawful.enqueueDown (h : x.lawful) (p : PortId) (f : Frame) (hc : f.cells ≤ x.freeCells)
    (hr : 1 ≤ x.freeRecords) : ((x.takeOut f).setQueue p .down (tget x.down p ++ [f])).lawful := by
  obtain ⟨hcells, hrecords, hreq, hresp⟩ := h
  have hsum := sum_tset x.down p (tget x.down p ++ [f])
  have hcellsum := hsum cellsIn
  have hlensum := hsum List.length
  rw [cellsQueued_eq] at hcells
  rw [recordsQueued_eq] at hrecords
  refine ⟨?_, ?_, hreq, hresp⟩
  · simp only [cellsQueued_eq, Fst.setQueue, Fst.takeOut, cellsIn_append, cellsIn_cons, cellsIn_nil] at hcellsum ⊢
    omega
  · simp only [recordsQueued_eq, Fst.setQueue, Fst.takeOut, List.length_append, List.length_singleton] at hlensum ⊢
    omega

/-- The head of an upstream queue returns to the pools (R45). -/
theorem Fst.lawful.removeUp (h : x.lawful) {p : PortId} {f : Frame} {rest : List Frame}
    (hq : tget x.up p = f :: rest) : ((x.giveBack f).setQueue p .up rest).lawful := by
  obtain ⟨hcells, hrecords, hreq, hresp⟩ := h
  have hcellsum := sum_tset x.up p rest cellsIn
  have hlensum := sum_tset x.up p rest List.length
  rw [cellsQueued_eq] at hcells
  rw [recordsQueued_eq] at hrecords
  rw [hq] at hcellsum hlensum
  refine ⟨?_, ?_, hreq, hresp⟩
  · simp only [cellsQueued_eq, Fst.setQueue, Fst.giveBack, cellsIn_cons] at hcellsum ⊢
    omega
  · simp only [recordsQueued_eq, Fst.setQueue, Fst.giveBack, List.length_cons] at hlensum ⊢
    omega

/-- As `removeUp`, for a downstream queue (R43). -/
theorem Fst.lawful.removeDown (h : x.lawful) {p : PortId} {f : Frame} {rest : List Frame}
    (hq : tget x.down p = f :: rest) : ((x.giveBack f).setQueue p .down rest).lawful := by
  obtain ⟨hcells, hrecords, hreq, hresp⟩ := h
  have hcellsum := sum_tset x.down p rest cellsIn
  have hlensum := sum_tset x.down p rest List.length
  rw [cellsQueued_eq] at hcells
  rw [recordsQueued_eq] at hrecords
  rw [hq] at hcellsum hlensum
  refine ⟨?_, ?_, hreq, hresp⟩
  · simp only [cellsQueued_eq, Fst.setQueue, Fst.giveBack, cellsIn_cons] at hcellsum ⊢
    omega
  · simp only [recordsQueued_eq, Fst.setQueue, Fst.giveBack, List.length_cons] at hlensum ⊢
    omega

/-- A queue may be replaced by one of as many cells and records (R45). -/
theorem Fst.lawful.replaceUp (h : x.lawful) {p : PortId} {q : List Frame} (hc : cellsIn q = cellsIn (tget x.up p))
    (hl : q.length = (tget x.up p).length) : ({ x with up := tset x.up p q } : Fst).lawful := by
  obtain ⟨hcells, hrecords, hreq, hresp⟩ := h
  have hcellsum := sum_tset x.up p q cellsIn
  have hlensum := sum_tset x.up p q List.length
  rw [cellsQueued_eq] at hcells
  rw [recordsQueued_eq] at hrecords
  refine ⟨?_, ?_, hreq, hresp⟩
  · simp only [cellsQueued_eq] at hcellsum ⊢
    omega
  · simp only [recordsQueued_eq] at hlensum ⊢
    omega

/-- A response for which the placement test holds joins the response queue (R48). -/
theorem Fst.lawful.placeResponse (h : x.lawful) (kind : FrameKind) {payload : List Byte}
    (hp : x.placeable (cellsOf payload) 0 0 = true) : (x.placeResponse kind payload).lawful := by
  simp only [Fst.placeable, Bool.and_eq_true, decide_eq_true_eq, add_zero] at hp
  obtain ⟨⟨hroom, hc⟩, hr⟩ := hp
  obtain ⟨hcells, hrecords, hreq, -⟩ := h
  rw [cellsQueued_eq] at hcells
  rw [recordsQueued_eq] at hrecords
  refine ⟨?_, ?_, hreq, ?_⟩
  · simp only [cellsQueued_eq, Fst.placeResponse, Fst.takeOut, cellsIn_append, cellsIn_cons, cellsIn_nil, Frame.cells]
    omega
  · simp only [recordsQueued_eq, Fst.placeResponse, Fst.takeOut, List.length_append, List.length_singleton]
    omega
  · simp only [Fst.placeResponse, Fst.takeOut, List.length_append, List.length_singleton]
    omega

/-- A request that finds room joins the request queue (R47). -/
theorem Fst.lawful.admitRequest (h : x.lawful) {f : Frame} (hq : x.requests.length < 8) (hc : f.cells ≤ x.freeCells)
    (hr : 1 ≤ x.freeRecords) : ({ x.takeOut f with requests := x.requests ++ [f] } : Fst).lawful := by
  obtain ⟨hcells, hrecords, -, hresp⟩ := h
  rw [cellsQueued_eq] at hcells
  rw [recordsQueued_eq] at hrecords
  refine ⟨?_, ?_, ?_, hresp⟩
  · simp only [cellsQueued_eq, Fst.takeOut, cellsIn_append, cellsIn_cons, cellsIn_nil]
    omega
  · simp only [recordsQueued_eq, Fst.takeOut, List.length_append, List.length_singleton]
    omega
  · simp only [List.length_append, List.length_singleton]
    omega

/-- The head request returns to the pools (R48). -/
theorem Fst.lawful.removeRequest (h : x.lawful) {f : Frame} {rest : List Frame} (hq : x.requests = f :: rest) :
    ({ x.giveBack f with requests := rest } : Fst).lawful := by
  obtain ⟨hcells, hrecords, hreq, hresp⟩ := h
  rw [cellsQueued_eq, hq, cellsIn_cons] at hcells
  rw [recordsQueued_eq, hq, List.length_cons] at hrecords
  rw [hq, List.length_cons] at hreq
  refine ⟨?_, ?_, Nat.le_of_succ_le hreq, hresp⟩
  · simp only [cellsQueued_eq, Fst.giveBack]
    omega
  · simp only [recordsQueued_eq, Fst.giveBack]
    omega

/-- The head response returns to the pools (R49). -/
theorem Fst.lawful.removeResponse (h : x.lawful) {f : Frame} {rest : List Frame} (hq : x.responses = f :: rest) :
    ({ x.giveBack f with responses := rest } : Fst).lawful := by
  obtain ⟨hcells, hrecords, hreq, hresp⟩ := h
  rw [cellsQueued_eq, hq, cellsIn_cons] at hcells
  rw [recordsQueued_eq, hq, List.length_cons] at hrecords
  rw [hq, List.length_cons] at hresp
  refine ⟨?_, ?_, hreq, Nat.le_of_succ_le hresp⟩
  · simp only [cellsQueued_eq, Fst.giveBack]
    omega
  · simp only [recordsQueued_eq, Fst.giveBack]
    omega

/-- The mark of a head in flight moves no cell (R49). -/
theorem Fst.lawful.markResponse (h : x.lawful) : ({ x with responses := markHead x.responses } : Fst).lawful := by
  simpa only [Fst.lawful, cellsQueued_eq, recordsQueued_eq, cellsIn_markHead, length_markHead] using h

/-- A flush returns to the pools what it removes (R46). -/
theorem Fst.lawful.flush (h : x.lawful) (p : PortId) :
    ({ x.giveBackAll (flushedFrom (tget x.up p) ++ tget x.down p) with
      up := tset x.up p (keptByFlush (tget x.up p))
      down := tset x.down p [] } : Fst).lawful := by
  obtain ⟨hcells, hrecords, hreq, hresp⟩ := h
  have hparts := flush_parts (tget x.up p)
  have hcellparts := congrArg cellsIn hparts
  have hlenparts := congrArg List.length hparts
  have hupcells := sum_tset x.up p (keptByFlush (tget x.up p)) cellsIn
  have huplen := sum_tset x.up p (keptByFlush (tget x.up p)) List.length
  have hdowncells := sum_tset x.down p [] cellsIn
  have hdownlen := sum_tset x.down p [] List.length
  rw [cellsQueued_eq] at hcells
  rw [recordsQueued_eq] at hrecords
  rw [cellsIn_append] at hcellparts
  rw [List.length_append] at hlenparts
  refine ⟨?_, ?_, hreq, hresp⟩
  · simp only [cellsQueued_eq, Fst.giveBackAll, cellsIn_append, cellsIn_nil] at hdowncells ⊢
    omega
  · simp only [recordsQueued_eq, Fst.giveBackAll, List.length_append, List.length_nil] at hdownlen ⊢
    omega

end

end Sys2Proof.Machine
end

section
/-! SUPPORT. What the counters, the scheduler and a change of line state do to the parts of the state that the laws read. -/

namespace Sys2Proof.Machine

/-! ## Harmless changes of one block -/

/-- The Frame Store's pools and management queues change lawfully. -/
theorem Harmless.of_fst {s : State} {x : Fst} (hup : x.up = s.fst.up) (hdown : x.down = s.fst.down)
    (hlaw : s.fst.lawful → x.lawful) : Harmless s { s with fst := x } :=
  { Harmless.refl s with store := hlaw, up := hup, down := fun p => .inl (by rw [← hdown]) }

/-- The Management Agent changes, its counters lawfully. -/
theorem Harmless.of_mga {s : State} {m : Mga} (h : CounterLaw s → CounterLaw { s with mga := m }) :
    Harmless s { s with mga := m } := { Harmless.refl s with counters := h }

/-- The Management Agent changes but for its counters. -/
theorem Harmless.of_mga_counters {s : State} {m : Mga} (hp : m.portCounters = s.mga.portCounters)
    (hc : m.cardCounters = s.mga.cardCounters) : Harmless s { s with mga := m } :=
  .of_mga fun h => by simpa only [CounterLaw, State.portCounter, State.cardCounter, hp, hc] using h

/-! ## Notices and counters -/

theorem cellsOf_noticePayload (c : Cause) (flags : BitVec 10) : cellsOf (noticePayload c flags) = 1 := by
  simp [cellsOf, blocksOf, noticePayload]

/-- A NOTICE is placed where there is room (R161). -/
theorem Harmless.placeNotice {s : State} (c : Cause) (h : s.fst.placeable 1 0 0 = true) :
    Harmless s (placeNotice c s) :=
  .of_fst rfl rfl fun hs => hs.placeResponse .notice (by rwa [cellsOf_noticePayload])

theorem Harmless.joinWaiting (i : WaitItem) (s : State) : Harmless s (joinWaiting i s) :=
  .of_mga_counters rfl rfl

theorem Harmless.raiseNotice (c : Cause) (s : State) : Harmless s (raiseNotice c s) := by
  obtain h | ⟨t, rfl, -, h | ⟨h, -, hroom⟩ | h⟩ := raiseNotice_cases c s <;> rw [h]
  · exact .refl s
  · exact .of_mga_counters rfl rfl
  · refine Harmless.trans (.of_mga_counters ?_ ?_) (.placeNotice c hroom) <;> rfl
  · refine Harmless.trans (.of_mga_counters ?_ ?_) (.joinWaiting _ _) <;> rfl

/-- A rise leaves a counter in its range, its flag set at the maximum (R163). -/
theorem Counter.rise_lawful {c : Counter} (k : Nat) (h : c.lawful) : (c.rise k).lawful := by
  unfold Counter.rise
  split
  · exact h
  · exact ⟨Nat.min_le_left _ _, fun hmax => Bool.or_eq_true_iff.2 (.inr (beq_iff_eq.2 hmax))⟩

/-- The rise of a port counter alone (R163). -/
def risePort (p : PortId) (c : PortCounter) (k : Nat) (s : State) : State :=
  let row := tset (tget s.mga.portCounters p) c.idx ((s.portCounter p c).rise k)
  { s with mga := { s.mga with portCounters := tset s.mga.portCounters p row } }

theorem countPort_eq (p : PortId) (c : PortCounter) (k : Nat) (s : State) : countPort p c k s =
    if (s.portCounter p c).saturates k then raiseNotice .counterSaturated (risePort p c k s) else risePort p c k s := rfl

/-- The rise of a card counter alone (R163). -/
def riseCard (c : CardCounter) (s : State) : State :=
  { s with mga := { s.mga with cardCounters := tset s.mga.cardCounters c.idx ((s.cardCounter c).rise 1) } }

theorem countCard_eq (c : CardCounter) (s : State) : countCard c s =
    if (s.cardCounter c).saturates 1 then raiseNotice .counterSaturated (riseCard c s) else riseCard c s := rfl

theorem risePort_lawful (p : PortId) (c : PortCounter) (k : Nat) (s : State) (h : CounterLaw s) :
    CounterLaw (risePort p c k s) := by
  have hsame : ∀ q d, (risePort p c k s).portCounter q d = (countPort p c k s).portCounter q d := by
    intro q d
    rw [countPort_eq]
    split <;> simp [State.portCounter]
  refine ⟨fun q d => ?_, h.2⟩
  rw [hsame, countPort_portCounter]
  split
  · exact Counter.rise_lawful k (h.1 p c)
  · exact h.1 q d

theorem riseCard_lawful (c : CardCounter) (s : State) (h : CounterLaw s) : CounterLaw (riseCard c s) := by
  have hsame : ∀ d, (riseCard c s).cardCounter d = (countCard c s).cardCounter d := by
    intro d
    rw [countCard_eq]
    split <;> simp [State.cardCounter]
  refine ⟨h.1, fun d => ?_⟩
  rw [hsame, countCard_cardCounter]
  split
  · exact Counter.rise_lawful 1 (h.2 c)
  · exact h.2 d

/-- A counter's rise writes the agent, and places at most a NOTICE (R163). -/
theorem Harmless.countPort (p : PortId) (c : PortCounter) (k : Nat) (s : State) : Harmless s (countPort p c k s) := by
  have hrise : Harmless s (risePort p c k s) := .of_mga (risePort_lawful p c k s)
  rw [countPort_eq]
  split
  · exact hrise.trans (.raiseNotice _ _)
  · exact hrise

theorem Harmless.countCard (c : CardCounter) (s : State) : Harmless s (countCard c s) := by
  have hrise : Harmless s (riseCard c s) := .of_mga (riseCard_lawful c s)
  rw [countCard_eq]
  split
  · exact hrise.trans (.raiseNotice _ _)
  · exact hrise

@[simp] theorem raiseNotice_up (c : Cause) (s : State) : (raiseNotice c s).fst.up = s.fst.up :=
  (Harmless.raiseNotice c s).up
@[simp] theorem countPort_up (p : PortId) (c : PortCounter) (k : Nat) (s : State) :
    (countPort p c k s).fst.up = s.fst.up := (Harmless.countPort p c k s).up
@[simp] theorem countCard_up (c : CardCounter) (s : State) : (countCard c s).fst.up = s.fst.up :=
  (Harmless.countCard c s).up
@[simp] theorem raiseNotice_down (c : Cause) (s : State) : (raiseNotice c s).fst.down = s.fst.down := by
  obtain ⟨_, _, _, h⟩ := raiseNotice_fst c s
  rw [h]
@[simp] theorem countPort_down (p : PortId) (c : PortCounter) (k : Nat) (s : State) :
    (countPort p c k s).fst.down = s.fst.down := by
  obtain ⟨_, _, _, h⟩ := countPort_fst p c k s
  rw [h]
@[simp] theorem countCard_down (c : CardCounter) (s : State) : (countCard c s).fst.down = s.fst.down := by
  unfold countCard
  dsimp only
  split <;> simp

/-! ## The scheduler -/

@[simp] theorem closed_tokens (u : UscPort) : u.closed.tokens = u.tokens := rfl
@[simp] theorem closed_heldDepth (u : UscPort) : u.closed.heldDepth = u.heldDepth := rfl

theorem modUsc_uscPort (s : State) (p q : PortId) (f : UscPort → UscPort) :
    (s.modUsc p f).uscPort q = if p = q then f (s.uscPort p) else s.uscPort q := by
  split
  · next h =>
    subst h
    exact modUsc_uscPort_self s p f
  · next h => exact modUsc_uscPort_ne s f h

/-- A change of a port's scheduler state that keeps a figure of it keeps the figure of every port. -/
theorem modUsc_keeps {β : Type} (g : UscPort → β) {f : UscPort → UscPort} (h : ∀ u, g (f u) = g u) (s : State)
    (p q : PortId) : g ((s.modUsc p f).uscPort q) = g (s.uscPort q) := by
  rw [modUsc_uscPort]
  split
  · next hpq => rw [h, hpq]
  · rfl

@[simp] theorem uscLeave_active (p : PortId) (s : State) : (uscLeave p s).usc.active = s.usc.active.filter (· != p) := rfl

theorem uscLeave_uscPort (p q : PortId) (s : State) :
    (uscLeave p s).uscPort q = (s.modUsc p UscPort.closed).uscPort q := rfl

@[simp] theorem uscLeave_tokens (p q : PortId) (s : State) : ((uscLeave p s).uscPort q).tokens = (s.uscPort q).tokens :=
  modUsc_keeps UscPort.tokens closed_tokens s p q

@[simp] theorem uscLeave_heldDepth (p q : PortId) (s : State) :
    ((uscLeave p s).uscPort q).heldDepth = (s.uscPort q).heldDepth :=
  modUsc_keeps UscPort.heldDepth closed_heldDepth s p q

@[simp] theorem uscUpdate_tokens (p q : PortId) (s : State) :
    ((uscUpdate p s).uscPort q).tokens = (s.uscPort q).tokens := by
  unfold uscUpdate
  dsimp only
  repeat' split
  · rfl
  · exact modUsc_keeps UscPort.tokens closed_tokens s p q
  · exact uscLeave_tokens p q s
  · rfl

@[simp] theorem uscUpdate_heldDepth (p q : PortId) (s : State) :
    ((uscUpdate p s).uscPort q).heldDepth = (s.uscPort q).heldDepth := by
  unfold uscUpdate
  dsimp only
  repeat' split
  · rfl
  · exact modUsc_keeps UscPort.heldDepth closed_heldDepth s p q
  · exact uscLeave_heldDepth p q s
  · rfl

/-- What the laws read of a list update: the port stands in it exactly where it is eligible, and every other port as before
(R90). -/
theorem uscUpdate_active (p : PortId) (s : State) (h : s.usc.active.Nodup) :
    (uscUpdate p s).usc.active.Nodup ∧ ∀ q, q ∈ (uscUpdate p s).usc.active ↔
      if q = p then s.eligible p = true else q ∈ s.usc.active := by
  unfold uscUpdate
  by_cases he : s.eligible p = true <;> by_cases hc : s.usc.active.contains p = true <;>
    simp only [he, hc, Bool.false_eq_true, if_true, if_false]
  · refine ⟨h, fun q => ?_⟩
    split
    · next hq => simpa [hq] using hc
    · rfl
  · refine ⟨?_, fun q => ?_⟩
    · simpa [List.nodup_append, h] using fun a ha => fun hap => hc (by simpa [← hap] using ha)
    · by_cases hq : q = p <;> simp [hq]
  · refine ⟨h.filter _, fun q => ?_⟩
    by_cases hq : q = p <;> simp [hq]
  · refine ⟨h, fun q => ?_⟩
    by_cases hq : q = p
    · simpa [hq] using hc
    · simp [hq]

/-! ## A change of line state -/

@[simp] theorem flushPort_up (p : PortId) (s : State) :
    (flushPort p s).fst.up = tset s.fst.up p (keptByFlush (tget s.fst.up p)) := by
  simp [flushPort, Fst.giveBackAll]

@[simp] theorem flushPort_down (p : PortId) (s : State) : (flushPort p s).fst.down = tset s.fst.down p [] := by
  simp [flushPort, Fst.giveBackAll]

theorem flushPort_store (p : PortId) (s : State) (h : StoreLaw s) : StoreLaw (flushPort p s) :=
  (Harmless.countPort p .flushed _ _).store (Fst.lawful.flush h p)

theorem flushPort_counters (p : PortId) (s : State) (h : CounterLaw s) : CounterLaw (flushPort p s) :=
  (Harmless.countPort p .flushed _ _).counters h

section
variable (p q : PortId) (ns : LineState) (w l : Bool) (s : State)

theorem changeState_up : (changeState p ns w l s).fst.up =
    if ns.flushes then tset s.fst.up p (keptByFlush (tget s.fst.up p)) else s.fst.up := by
  unfold changeState
  by_cases hold : (s.port p).lineState = .inService <;> cases ns <;> simp [hold, LineState.flushes]

theorem changeState_down : (changeState p ns w l s).fst.down =
    if ns.flushes then tset s.fst.down p [] else s.fst.down := by
  unfold changeState
  by_cases hold : (s.port p).lineState = .inService <;> cases ns <;> simp [hold, LineState.flushes]

theorem changeState_active : (changeState p ns w l s).usc.active =
    if (s.port p).lineState = .inService then s.usc.active.filter (· != p) else s.usc.active := by
  unfold changeState
  by_cases hold : (s.port p).lineState = .inService <;> cases ns <;>
    simp [hold, LineState.flushes, uscEnterService]

theorem changeState_uscPort_ne (hq : p ≠ q) : (changeState p ns w l s).uscPort q = s.uscPort q := by
  unfold changeState
  by_cases hold : (s.port p).lineState = .inService <;> cases ns <;>
    simp [hold, LineState.flushes, uscEnterService, State.uscPort, uscLeave, State.modUsc, tget_tset_ne _ _ hq]

/-- Only the entry to service writes tokens and held depth (R87). -/
theorem changeState_tokens : ((changeState p ns w l s).uscPort p).tokens =
    if ns = .inService then min (s.uscPort p).tokens 0 else (s.uscPort p).tokens := by
  unfold changeState
  by_cases hold : (s.port p).lineState = .inService <;> cases ns <;>
    simp [hold, LineState.flushes, uscEnterService, State.uscPort, uscLeave, State.modUsc]

theorem changeState_heldDepth (h : ns ≠ .inService) :
    ((changeState p ns w l s).uscPort p).heldDepth = (s.uscPort p).heldDepth := by
  unfold changeState
  by_cases hold : (s.port p).lineState = .inService <;> cases ns <;>
    simp [hold, LineState.flushes, State.uscPort, uscLeave, State.modUsc] at h ⊢

theorem changeState_lineState_of (q : PortId) : ((changeState p ns w l s).port q).lineState =
    if q = p then ns else (s.port q).lineState := by
  split
  · next h => rw [h, changeState_lineState]
  · next h => rw [changeState_others _ _ _ _ _ _ (Ne.symm h)]

theorem Port.powerTo_binder_held (m : PowerMode) (r : Port) :
    (r.powerTo m).binder = r.binder ∧ (r.powerTo m).serviceHeld = r.serviceHeld := by
  unfold Port.powerTo
  dsimp only
  repeat' split
  all_goals exact ⟨rfl, rfl⟩

theorem Port.change_binder_held (r : Port) :
    ((r.leave ns l).enter ns w).binder = r.binder ∧ ((r.leave ns l).enter ns w).serviceHeld = r.serviceHeld := by
  have hl : (r.leave ns l).binder = r.binder ∧ (r.leave ns l).serviceHeld = r.serviceHeld := by
    unfold Port.leave
    dsimp only
    split <;> exact ⟨rfl, rfl⟩
  unfold Port.enter
  dsimp only
  rw [(Port.powerTo_binder_held _ _).1, (Port.powerTo_binder_held _ _).2]
  cases ns <;> exact hl

@[simp] theorem changeState_binder : ((changeState p ns w l s).port q).binder = (s.port q).binder := by
  by_cases h : p = q
  · rw [h, changeState_port_self, (Port.change_binder_held ns w l _).1]
  · rw [changeState_others _ _ _ _ _ _ h]

@[simp] theorem changeState_serviceHeld :
    ((changeState p ns w l s).port q).serviceHeld = (s.port q).serviceHeld := by
  by_cases h : p = q
  · rw [h, changeState_port_self, (Port.change_binder_held ns w l _).2]
  · rw [changeState_others _ _ _ _ _ _ h]

@[simp] theorem changeState_serviceClosed :
    ((changeState p ns w l s).port q).serviceClosed = (s.port q).serviceClosed := by
  by_cases h : p = q
  · rw [h, changeState_port_self, (Port.change_relays ns w l _).1]
  · rw [changeState_others _ _ _ _ _ _ h]

@[simp] theorem changeState_testClosed :
    ((changeState p ns w l s).port q).testClosed = (s.port q).testClosed := by
  by_cases h : p = q
  · rw [h, changeState_port_self, (Port.change_relays ns w l _).2]
  · rw [changeState_others _ _ _ _ _ _ h]

theorem ite_keeps {P : State → Prop} {f : State → State} (hf : ∀ t, P t → P (f t)) {c : Prop} [Decidable c] {t : State}
    (h : P t) : P (if c then f t else t) := by
  split
  · exact hf t h
  · exact h

/-- A property that each part of a change of line state keeps is kept by the whole change. -/
theorem changeState_keeps {P : State → Prop} (hport : ∀ t r, P t → P (t.setPort p r))
    (hleave : ∀ t, P t → P { uscLeave p t with
      fst := { (uscLeave p t).fst with pull := tset (uscLeave p t).fst.pull p false } })
    (hflush : ∀ t, P t → P (flushPort p t)) (hcount : ∀ t, P t → P (countPort p .sheds 1 t))
    (henter : ∀ t, P t → P (uscEnterService p t)) (h : P s) : P (changeState p ns w l s) := by
  unfold changeState
  exact ite_keeps henter (ite_keeps hcount (ite_keeps hflush (ite_keeps hleave (hport s _ h))))

theorem changeState_store (h : StoreLaw s) : StoreLaw (changeState p ns w l s) :=
  changeState_keeps p ns w l s (fun _ _ ht => ht) (fun _ ht => ht) (flushPort_store p)
    (fun t ht => (Harmless.countPort p .sheds 1 t).store ht) (fun _ ht => ht) h

theorem changeState_counters (h : CounterLaw s) : CounterLaw (changeState p ns w l s) :=
  changeState_keeps p ns w l s (fun _ _ ht => ht) (fun _ ht => ht) (flushPort_counters p)
    (fun t ht => (Harmless.countPort p .sheds 1 t).counters ht) (fun _ ht => ht) h

end

/-- No change of line state closes a relay, and none but to TESTING or FAULTED brings a port under the hold. -/
theorem Opens.changeState {p : PortId} {ns : LineState} {w l : Bool} {s : State}
    (h : (s.port p).serviceHeld = true → HeldLaw s → ns ≠ .testing ∧ ns ≠ .faulted) : Opens s (changeState p ns w l s) where
  service q hq := by simpa using hq
  test q hq := by simpa using hq
  held hs q hq := by
    rw [changeState_serviceHeld] at hq
    rw [changeState_lineState_of]
    split
    · next hqp => exact h (hqp ▸ hq) hs
    · exact hs q hq

end Sys2Proof.Machine
end

section
/-! SUPPORT. The laws of the Frame Store, the control list, the counters and the supply state under the moves of a step. -/

namespace Sys2Proof.Machine

/-! ## The composite moves -/

/-- The four conditions of admission (R41). -/
theorem admission_none_iff (s : State) (p : PortId) (d : Direction) (n : Nat) : admission s p d n = none ↔
    (s.port p).lineState = .inService ∧ cellsIn (s.fst.queue p d) + n ≤ queueLimit s.cfg d ∧
      n + 48 ≤ s.fst.freeCells ∧ 17 ≤ s.fst.freeRecords := by
  unfold admission
  split_ifs with hline hfull hpool hrecord
  · simp [hline]
  · simp only [false_iff]
    omega
  · simp only [false_iff]
    omega
  · simp only [false_iff]
    omega
  · exact ⟨fun _ => ⟨not_not.1 hline, by omega, by omega, by omega⟩, fun _ => rfl⟩

/-- Where a port goes at the end of its test: nowhere, or to a line state that has its queues flushed (R128). -/
theorem portAfterTest_cases (r : Running) (o : TestOutcome) (s : State) :
    ((s.port r.req.port).lineState ≠ .testing ∧ portAfterTest r o s = s) ∨
      (s.port r.req.port).lineState = .testing ∧ ∃ ns w, ns.flushes = true ∧ ns ≠ .testing ∧
        portAfterTest r o s = changeState r.req.port ns w false s := by
  unfold portAfterTest
  by_cases h : (s.port r.req.port).lineState = .testing
  · refine .inr ⟨h, ?_⟩
    simp only [h, if_true]
    split
    · exact ⟨_, _, rfl, by decide, rfl⟩
    · split
      · refine ⟨_, _, ?_, ?_, rfl⟩ <;> cases s.smn.cabinet <;> simp [waitTarget, LineState.flushes]
      · exact ⟨_, _, rfl, by decide, rfl⟩
  · exact .inl ⟨h, by simp [h]⟩

/-- The entry to ISOLATING moves the port, opens its service relay, and writes the context (R119). -/
theorem enterIsolating_eq {s : State} {r : Running} (h : s.tsq.running = some r) : enterIsolating s =
    setRunning
      (some { r with
        st := .isolating, fromFaulted := (s.port r.req.port).lineState == .faulted, deadTimer := true })
      (openService r.req.port (changeState r.req.port .testing false false s)) := by
  simp [enterIsolating, h]

/-- A property that each course of a DATA frame's end keeps is kept by it (R45, R94). -/
theorem dataEnd_keeps {P : State → Prop} (ok : Bool) (p : PortId) (s : State)
    (hcount : ∀ c k t, P t → P (countPort p c k t)) (hcharge : ∀ n t, P t → P (chargeBlocks p n t))
    (hremove : P (removeUpHead p s)) (hend : ∀ t, P t → P (uscAfterEnd p t)) (h : P s) : P (dataEnd ok p s) := by
  unfold dataEnd
  split
  · exact hend s h
  · dsimp only
    split
    · exact hend _ (hcharge _ _ (hcount _ _ _ (hcount _ _ _ hremove)))
    · exact hend _ (hcount _ _ _ hremove)

/-- The card with the head frame of a port chosen: its turn is open with a deficit, and the frame is marked in flight (R93). -/
def chooseHead (p : PortId) (deficit : Nat) (s : State) : State :=
  let t := s.modUsc p (fun v => { v with deficit := deficit, turnOpen := true })
  { t with
    usc := { t.usc with chosen := some p }
    fst := { t.fst with up := tset t.fst.up p (markHead (tget t.fst.up p)) } }

/-- All that the choice of a DATA frame does: nothing, or the frame at the head of the list's first port goes in hand (R62,
R93). -/
theorem takeData_cases (s : State) : takeData s = s ∨
    ∃ p rest f fs deficit, s.usc.active = p :: rest ∧ tget s.fst.up p = f :: fs ∧
      takeData s = takeInHand (.data p) (chooseHead p deficit s) := by
  unfold takeData uscChoose
  split
  · next h =>
    split at h
    · cases h
    · next p rest hactive =>
      dsimp only at h
      split at h
      · cases h
      · next f fs hup =>
        cases h
        exact .inr ⟨_, rest, f, fs, _, hactive, hup, rfl⟩
  · exact .inl rfl

/-! ## The Frame Store -/

theorem removeUpHead_store (p : PortId) (s : State) (h : StoreLaw s) : StoreLaw (removeUpHead p s) := by
  unfold removeUpHead
  split
  · exact h
  · next hq => exact Fst.lawful.removeUp h hq

theorem Fst.lawful_initial : Fst.initial.lawful := by
  unfold Fst.lawful
  decide

theorem Move.store {s t : State} (h : Move s t) (hs : StoreLaw s) : StoreLaw t := by
  cases h with
  | same h => exact h.store hs
  | @admitUp p payload room _ =>
    obtain ⟨-, -, hcells, hrecords⟩ := (admission_none_iff ..).1 room
    rw [storeLaw_iff, uscUpdate_fst, passingFrame_fst]
    exact Fst.lawful.enqueueUp hs p (dataFrame p payload) (Nat.le_of_add_right_le hcells) (by omega)
  | line => exact changeState_store _ _ _ _ _ hs
  | isolate hrun _ =>
    rw [enterIsolating_eq hrun, storeLaw_iff, setRunning_fst, openService_fst]
    exact changeState_store _ _ _ _ _ hs
  | @testEnd r o _ _ =>
    obtain ⟨-, h⟩ | ⟨-, _, _, -, -, h⟩ := portAfterTest_cases r o s <;> rw [h]
    · exact hs
    · exact changeState_store _ _ _ _ _ hs
  | @dataEnd p ok _ =>
    refine dataEnd_keeps ok p _ (fun c k t ht => (Harmless.countPort p c k t).store ht) (fun _ _ ht => ht)
      (removeUpHead_store p _ hs) (fun t ht => ?_) hs
    rwa [storeLaw_iff, uscAfterEnd_fst]
  | takeData _ _ =>
    obtain h | ⟨p, _, _, _, _, -, -, h⟩ := takeData_cases s <;> rw [h]
    · exact hs
    · exact Fst.lawful.replaceUp hs (cellsIn_markHead _) (length_markHead _)
  | refill => rwa [storeLaw_iff, uscRefillAll_fst]
  | reset => exact Fst.lawful_initial
  | claim | renew | supply | load | start | configure => exact hs

/-! ## The control list -/

theorem controlLaw_of_bau {s t : State} (h : t.bau.ctrl = s.bau.ctrl) (hs : ControlLaw s) : ControlLaw t := by
  simpa only [ControlLaw, h] using hs

@[simp] theorem takeInHand_ctrl (s : State) (x : InHand) : (takeInHand x s).bau.ctrl = s.bau.ctrl := rfl

theorem Move.control {s t : State} (h : Move s t) (hs : ControlLaw s) : ControlLaw t := by
  cases h with
  | same h => exact h.control hs
  | admitUp | line | refill => exact controlLaw_of_bau (by simp) hs
  | isolate hrun _ => exact controlLaw_of_bau (by simp) hs
  | @testEnd r o _ _ => exact controlLaw_of_bau (by simp) hs
  | @dataEnd p ok _ =>
    exact dataEnd_keeps ok p _ (fun c k t ht => (Harmless.countPort p c k t).control ht) (fun _ _ ht => ht)
      (controlLaw_of_bau (by simp) hs) (fun t ht => controlLaw_of_bau (by simp) ht) hs
  | takeData _ _ =>
    obtain h | ⟨p, _, _, _, _, -, -, h⟩ := takeData_cases s <;> rw [h] <;> exact hs
  | reset =>
    simp only [ControlLaw, blocksReset, Bau.initial]
    decide
  | claim | renew | supply | load | start | configure => exact hs

/-! ## The counters -/

theorem counterLaw_of_mga {s t : State} (h : t.mga = s.mga) (hs : CounterLaw s) : CounterLaw t := by
  simpa only [CounterLaw, State.portCounter, State.cardCounter, h] using hs

theorem Move.counters {s t : State} (h : Move s t) (hs : CounterLaw s) : CounterLaw t := by
  cases h with
  | same h => exact h.counters hs
  | admitUp | refill => exact counterLaw_of_mga (by simp) hs
  | line => exact changeState_counters _ _ _ _ _ hs
  | isolate hrun _ =>
    rw [enterIsolating_eq hrun]
    exact counterLaw_of_mga (by rw [setRunning_mga, openService_mga]) (changeState_counters _ _ _ _ _ hs)
  | @testEnd r o _ _ =>
    obtain ⟨-, h⟩ | ⟨-, _, _, -, -, h⟩ := portAfterTest_cases r o s <;> rw [h]
    · exact hs
    · exact changeState_counters _ _ _ _ _ hs
  | @dataEnd p ok _ =>
    exact dataEnd_keeps ok p _ (fun c k t ht => (Harmless.countPort p c k t).counters ht) (fun _ _ ht => ht)
      (counterLaw_of_mga (by simp) hs) (fun t ht => counterLaw_of_mga (by simp) ht) hs
  | takeData _ _ =>
    obtain h | ⟨p, _, _, _, _, -, -, h⟩ := takeData_cases s <;> rw [h] <;> exact hs
  | reset _ _ _ _ hcounters => exact hcounters hs
  | claim | renew | supply | load | start | configure => exact hs

/-! ## The reset input and the supply state -/

section
variable {β : Type} (g : State → β)

/-- A DATA frame's end leaves alone what each part of it does (R45, R94). -/
theorem dataEnd_frame (hcount : ∀ p c k t, g (countPort p c k t) = g t) (hcharge : ∀ p n t, g (chargeBlocks p n t) = g t)
    (hremove : ∀ p t, g (removeUpHead p t) = g t) (hend : ∀ p t, g (uscAfterEnd p t) = g t) (ok : Bool) (p : PortId)
    (s : State) : g (dataEnd ok p s) = g s :=
  dataEnd_keeps (P := fun t => g t = g s) ok p s (fun c k t ht => (hcount p c k t).trans ht)
    (fun n t ht => (hcharge p n t).trans ht) (hremove p s) (fun t ht => (hend p t).trans ht) rfl

end

section
variable (ok : Bool) (p : PortId) (s : State)

@[simp] theorem dataEnd_pins : (dataEnd ok p s).pins = s.pins :=
  dataEnd_frame State.pins (by simp) (fun _ _ _ => rfl) (by simp) (by simp) ok p s
@[simp] theorem dataEnd_stc : (dataEnd ok p s).stc = s.stc :=
  dataEnd_frame State.stc (by simp) (fun _ _ _ => rfl) (by simp) (by simp) ok p s
@[simp] theorem dataEnd_cfg : (dataEnd ok p s).cfg = s.cfg :=
  dataEnd_frame State.cfg (by simp) (fun _ _ _ => rfl) (by simp) (by simp) ok p s
@[simp] theorem dataEnd_ports : (dataEnd ok p s).ports = s.ports :=
  dataEnd_frame State.ports (by simp) (fun _ _ _ => rfl) (by simp) (by simp) ok p s
@[simp] theorem dataEnd_bau : (dataEnd ok p s).bau = s.bau :=
  dataEnd_frame State.bau (by simp) (fun _ _ _ => rfl) (by simp) (by simp) ok p s
@[simp] theorem dataEnd_clt : (dataEnd ok p s).clt = s.clt :=
  dataEnd_frame State.clt (by simp) (fun _ _ _ => rfl) (by simp) (by simp) ok p s
@[simp] theorem dataEnd_tsq : (dataEnd ok p s).tsq = s.tsq :=
  dataEnd_frame State.tsq (by simp) (fun _ _ _ => rfl) (by simp) (by simp) ok p s
@[simp] theorem dataEnd_msu : (dataEnd ok p s).msu = s.msu :=
  dataEnd_frame State.msu (by simp) (fun _ _ _ => rfl) (by simp) (by simp) ok p s
@[simp] theorem dataEnd_smn : (dataEnd ok p s).smn = s.smn :=
  dataEnd_frame State.smn (by simp) (fun _ _ _ => rfl) (by simp) (by simp) ok p s
@[simp] theorem dataEnd_peers : (dataEnd ok p s).shu.peers = s.shu.peers :=
  dataEnd_frame (fun t => t.shu.peers) (by simp) (fun _ _ _ => rfl) (by simp) (by simp) ok p s
@[simp] theorem dataEnd_pending : (dataEnd ok p s).pending = s.pending :=
  dataEnd_frame State.pending (by simp) (fun _ _ _ => rfl) (by simp) (by simp) ok p s

end

theorem resetHolds_of {s t : State} (hpins : t.pins = s.pins) (hstc : t.stc = s.stc)
    (htx : s.bau.tx.st = .idle → t.bau.tx.st = .idle) (hs : ResetHolds s) : ResetHolds t := by
  obtain ⟨hasserted, hidle⟩ := hs
  rw [ResetHolds, hpins, hstc]
  exact ⟨hasserted, fun h => htx (hidle h)⟩

/-- The asserted reset input and the transmitter in RESET under the moves (R52, R165). -/
theorem Move.resetHolds {s t : State} (h : Move s t) (hs : ResetHolds s) : ResetHolds t := by
  cases h with
  | same h => exact ⟨fun ht => h.start ▸ hs.1 (h.asserted ht), fun ht => h.idle (h.start ▸ ht) (hs.2 (h.start ▸ ht))⟩
  | admitUp | line | refill => exact resetHolds_of (by simp) (by simp) (by simp) hs
  | isolate hrun _ => exact resetHolds_of (by simp) (by simp) (by simp) hs
  | testEnd => exact resetHolds_of (by simp) (by simp) (by simp) hs
  | dataEnd => exact resetHolds_of (by simp) (by simp) (by simp [Tx.initial]) hs
  | takeData out _ =>
    obtain h | ⟨p, _, _, _, _, -, -, h⟩ := takeData_cases s <;> rw [h]
    · exact hs
    · exact ⟨hs.1, fun ht => absurd ht out⟩
  | reset start _ _ _ _ =>
    refine ⟨fun ht => ?_, fun _ => rfl⟩
    obtain hnew | ⟨-, hsends, hpins⟩ := start
    · exact hnew
    · exact absurd (hs.2 (hs.1 (hpins.symm.trans ht))) hsends
  | load _ released new => exact ⟨fun ht => absurd ht (by simp [released]), fun ht => by simp [new] at ht⟩
  | start _ next =>
    obtain ⟨hold, hnew⟩ | ⟨hold, hnew⟩ := next
    · exact ⟨fun ht => absurd (hs.1 ht) (by simp [hold]), fun ht => by simp [hnew] at ht⟩
    · exact ⟨fun ht => absurd (hs.1 ht) (by simp [hold]), fun ht => by simp [hnew] at ht⟩
  | claim | renew | supply | configure => exact hs

/-- The worst supply state is read from the peer table, the own station and the own state alone (R148). -/
theorem worstSupply_congr {s t : State} (hpeers : t.shu.peers = s.shu.peers) (hstation : t.stc.station = s.stc.station)
    (hown : t.smn.own = s.smn.own) : worstSupply t = worstSupply s := by
  simp only [worstSupply, hpeers, hstation, hown]

/-- Without a peer the worst supply state is the own one (R148). -/
theorem worstSupply_noPeers {s : State} (h : ∀ t, (s.peer t).present = false) : worstSupply s = s.smn.own := by
  simp only [State.peer] at h
  simp [worstSupply, allStations, h]

theorem supplyLaw_of {s t : State} (hpeers : t.shu.peers = s.shu.peers) (hstc : t.stc = s.stc) (hsmn : t.smn = s.smn)
    (hreset : ResetHolds t) (hs : SupplyLaw s) : SupplyLaw t := by
  obtain ⟨hworst, hpeer, -⟩ := hs
  refine ⟨?_, ?_, hreset⟩
  · rw [worstSupply_congr hpeers (by rw [hstc]) (by rw [hsmn]), hsmn]
    exact hworst
  · simpa only [State.peer, hstc, hpeers] using hpeer

theorem Move.supplyLaw {s t : State} (h : Move s t) (hs : SupplyLaw s) : SupplyLaw t := by
  have hreset : ResetHolds t := h.resetHolds hs.2.2
  obtain ⟨hworst, hpeer, -⟩ := id hs
  cases h with
  | same h =>
    refine ⟨?_, ?_, hreset⟩
    · rw [worstSupply_congr h.peers h.station h.own, h.cabinet, hworst]
    · simpa only [State.peer, h.start, h.peers] using hpeer
  | admitUp | line | refill => exact supplyLaw_of (by simp) (by simp) (by simp) hreset hs
  | isolate hrun _ => exact supplyLaw_of (by simp) (by simp) (by simp) hreset hs
  | testEnd => exact supplyLaw_of (by simp) (by simp) (by simp) hreset hs
  | dataEnd => exact supplyLaw_of (by simp) (by simp) (by simp) hreset hs
  | takeData out _ =>
    obtain h | ⟨p, _, _, _, _, -, -, h⟩ := takeData_cases s <;> rw [h] at hreset ⊢
    · exact hs
    · exact ⟨hworst, hpeer, hreset⟩
  | supply joined worst =>
    refine ⟨worst hworst, fun ht => ?_, hreset⟩
    obtain hjoined | rfl := joined
    · obtain ht | ht := ht <;> simp [State.joined, show s.stc.startState = _ from ht] at hjoined
    · exact hpeer ht
  | reset _ own _ _ _ =>
    have hnone : ∀ t, (tget Shu.initial.peers t).present = false := by simp [Shu.initial, Peer.absent]
    refine ⟨?_, fun _ => hnone, hreset⟩
    exact own.symm.trans (worstSupply_noPeers (s := { blocksReset s with stc := _, smn := _ }) hnone).symm
  | @load pins c m old released new own cabinet =>
    have hnone := hpeer (.inl (hs.2.2.1 old))
    refine ⟨?_, fun _ => hnone, hreset⟩
    refine Eq.trans ?_ (worstSupply_noPeers (s := { s with pins := pins, stc := c, smn := m }) hnone).symm
    exact cabinet.trans (hworst.trans ((worstSupply_noPeers hnone).trans own.symm))
  | start station next =>
    refine ⟨hworst.trans (Eq.symm ?_), fun ht => ?_, hreset⟩
    · exact worstSupply_congr rfl station rfl
    obtain ⟨-, hnew⟩ | ⟨-, hnew⟩ := next <;> simp [hnew] at ht
  | claim | renew | configure => exact ⟨hworst, hpeer, hreset⟩

end Sys2Proof.Machine
end

section
/-! SUPPORT. The laws of the queues, of training, of the claims and of the tests under the moves of a step. -/

namespace Sys2Proof.Machine

/-! ## Tables and records -/

@[simp] theorem tset_tget {α : Type} {n : Nat} (v : Tbl α n) (i : Fin n) : tset v i (tget v i) = v := by
  simp [tset, tget]

/-- A change of a record that keeps a field of it keeps the field of every port. -/
theorem modPort_keeps {β : Type} (g : Port → β) {f : Port → Port} (h : ∀ r, g (f r) = g r) (s : State) (p q : PortId) :
    g ((s.modPort p f).port q) = g (s.port q) := by
  rw [modPort_port]
  split
  · next hpq => rw [h, hpq]
  · rfl

@[simp] theorem setRunning_port (x : Option Running) (s : State) : (setRunning x s).port = s.port := rfl

@[simp] theorem openService_lineState (p q : PortId) (s : State) :
    ((openService p s).port q).lineState = (s.port q).lineState := by
  unfold openService
  refine modPort_keeps Port.lineState ?_ s p q
  exact fun _ => rfl

@[simp] theorem openService_binder (p q : PortId) (s : State) :
    ((openService p s).port q).binder = (s.port q).binder := by
  unfold openService
  refine modPort_keeps Port.binder ?_ s p q
  exact fun _ => rfl

/-! ## What the composite moves leave in the queues and the line states -/

@[simp] theorem passingFrame_lineState (p q : PortId) (s : State) :
    ((passingFrame p s).port q).lineState = (s.port q).lineState := by
  rw [passingFrame, modPort_port]
  split
  · next h =>
    subst h
    split <;> rfl
  · rfl

@[simp] theorem passingFrame_binder (p q : PortId) (s : State) :
    ((passingFrame p s).port q).binder = (s.port q).binder := by
  rw [passingFrame, modPort_port]
  split
  · next h =>
    subst h
    split <;> rfl
  · rfl

@[simp] theorem uscUpdate_port (p : PortId) (s : State) : (uscUpdate p s).port = s.port := by
  simp [State.port, funext_iff]

@[simp] theorem dataEnd_port (ok : Bool) (p : PortId) (s : State) : (dataEnd ok p s).port = s.port := by
  simp [State.port, funext_iff]

@[simp] theorem uscRefillAll_port (s : State) : (uscRefillAll s).port = s.port := by
  simp [State.port, funext_iff]

@[simp] theorem setTx_port (x : Tx) (s : State) : (setTx x s).port = s.port := rfl

@[simp] theorem enqueueData_port (p : PortId) (d : Direction) (payload : List Byte) (s : State) :
    (enqueueData p d payload s).port = s.port := rfl

theorem removeUpHead_up (p : PortId) (s : State) :
    (removeUpHead p s).fst.up = tset s.fst.up p (tget s.fst.up p).tail := by
  unfold removeUpHead
  split
  · next h => rw [h, List.tail_nil, ← h, tset_tget]
  · next h => rw [h]; rfl

@[simp] theorem removeUpHead_down (p : PortId) (s : State) : (removeUpHead p s).fst.down = s.fst.down := by
  unfold removeUpHead
  split <;> rfl

/-- A DATA frame's end takes the head off its queue (R45). -/
theorem dataEnd_up (ok : Bool) (p : PortId) (s : State) :
    (dataEnd ok p s).fst.up = tset s.fst.up p (tget s.fst.up p).tail := by
  have hremove := removeUpHead_up p s
  unfold dataEnd
  split
  · next h =>
    rw [← hremove]
    simp [removeUpHead, h]
  · dsimp only
    split <;> simpa [chargeBlocks] using hremove

@[simp] theorem dataEnd_down (ok : Bool) (p : PortId) (s : State) : (dataEnd ok p s).fst.down = s.fst.down :=
  dataEnd_frame (fun t => t.fst.down) (by simp) (fun _ _ _ => rfl) (by simp) (by simp) ok p s

@[simp] theorem tget_tableOfPorts {α : Type} (f : PortId → α) (p : PortId) : tget (tableOfPorts f) p = f p := by
  revert p
  simp [Fin.forall_fin_succ, tget, tableOfPorts]

@[simp] theorem takeCfg_lineState (c : Cfg) (s : State) (p : PortId) :
    ((takeCfg c s).port p).lineState = (s.port p).lineState := by
  rw [State.port, takeCfg, tget_tableOfPorts]
  rfl

/-! ## Until JOINING (R2, R39, R169) -/

theorem startLaw_of {s t : State} (hreset : ResetHolds t) (hstc : t.stc.startState = s.stc.startState)
    (hrun : s.tsq.running = none → t.tsq.running = none)
    (hport : ∀ p, (s.port p).lineState = .disabled → tget s.fst.up p = [] → tget s.fst.down p = [] →
      (t.port p).lineState = .disabled ∧ tget t.fst.up p = [] ∧ tget t.fst.down p = []) (hs : StartLaw s) :
    StartLaw t := by
  refine ⟨hreset, fun ht => ?_⟩
  obtain ⟨hnone, hports⟩ := hs.2 (hstc ▸ ht)
  refine ⟨hrun hnone, fun p => ?_⟩
  obtain ⟨hline, hup, hdown⟩ := hports p
  exact hport p hline hup hdown

/-- A state whose law until JOINING no longer speaks of its ports. -/
theorem startLaw_of_out {t : State} (hreset : ResetHolds t) (hr : t.stc.startState ≠ .reset)
    (hl : t.stc.startState ≠ .loading) : StartLaw t :=
  ⟨hreset, fun ht => (ht.elim hr hl).elim⟩

/-- Where something shows that JOINING has been entered, the law until JOINING does not speak of the ports. -/
theorem StartLaw.out {s : State} (hs : StartLaw s)
    (h : (∃ p, (s.port p).lineState ≠ .disabled) ∨ s.tsq.running ≠ none ∨ s.joined = true ∨
      ∃ p, tget s.fst.up p ≠ []) : s.stc.startState ≠ .reset ∧ s.stc.startState ≠ .loading := by
  have hno : ¬(s.stc.startState = .reset ∨ s.stc.startState = .loading) := by
    intro hstart
    obtain ⟨hnone, hports⟩ := hs.2 hstart
    obtain ⟨p, hp⟩ | hrun | hjoined | ⟨p, hp⟩ := h
    · exact hp (hports p).1
    · exact hrun hnone
    · obtain hstart | hstart := hstart <;> simp [State.joined, hstart] at hjoined
    · exact hp (hports p).2.1
  exact not_or.1 hno

theorem Move.startLaw {s t : State} (h : Move s t) (hs : StartLaw s) : StartLaw t := by
  have hreset : ResetHolds t := h.resetHolds hs.1
  cases h with
  | same h =>
    refine ⟨hreset, fun ht => ?_⟩
    obtain ⟨hnone, hports⟩ := hs.2 (h.start ▸ ht)
    refine ⟨by_contra fun hrun => ?_, fun p => ?_⟩
    · obtain hold | hold := h.origin hrun
      · exact hold hnone
      · rw [h.start, hold] at ht
        simp at ht
    · obtain ⟨hline, hup, hdown⟩ := hports p
      refine ⟨(h.line p).trans hline, by rw [h.up, hup], ?_⟩
      obtain hsame | ⟨hserv, -⟩ := h.down p
      · exact hsame.trans hdown
      · simp [hline] at hserv
  | @admitUp p payload room _ =>
    have hserv := ((admission_none_iff ..).1 room).1
    obtain ⟨hr, hl⟩ := hs.out (.inl ⟨p, by simp [hserv]⟩)
    exact startLaw_of_out hreset (by simpa using hr) (by simpa using hl)
  | @line p ns w l _ _ started _ =>
    obtain ⟨hr, hl⟩ := hs.out (started.elim (fun h => .inl ⟨p, h⟩) fun h => .inr (.inr (.inl h)))
    exact startLaw_of_out hreset (by simpa using hr) (by simpa using hl)
  | isolate hrun _ =>
    obtain ⟨hr, hl⟩ := hs.out (.inr (.inl (by simp [hrun])))
    exact startLaw_of_out hreset (by simpa using hr) (by simpa using hl)
  | testEnd o hrun _ =>
    obtain ⟨hr, hl⟩ := hs.out (.inr (.inl (by simp [hrun])))
    exact startLaw_of_out hreset (by simpa using hr) (by simpa using hl)
  | @dataEnd p ok _ =>
    refine startLaw_of hreset (by simp) (by simp) (fun q hline hup hdown => ⟨by simpa using hline, ?_, ?_⟩) hs
    · rw [dataEnd_up, tget_tset, setTx_fst]
      split
      · next hpq => rw [hpq, hup, List.tail_nil]
      · exact hup
    · simpa using hdown
  | takeData _ _ =>
    obtain h | ⟨p, _, f, fs, _, -, hup, h⟩ := takeData_cases s <;> rw [h] at hreset ⊢
    · exact hs
    · obtain ⟨hr, hl⟩ := hs.out (.inr (.inr (.inr ⟨p, by simp [hup]⟩)))
      exact startLaw_of_out hreset hr hl
  | refill =>
    exact startLaw_of hreset (by simp) (by simp)
      (fun q hline hup hdown => ⟨by simpa using hline, by simpa using hup, by simpa using hdown⟩) hs
  | reset _ _ disabled idle _ =>
    refine ⟨hreset, fun _ => ⟨idle.2, fun p => ⟨disabled p, ?_, ?_⟩⟩⟩ <;> simp [blocksReset, Fst.initial]
  | load old _ _ _ _ => exact ⟨hreset, fun _ => hs.2 (.inl (hs.1.1 old))⟩
  | start _ next =>
    refine startLaw_of_out hreset ?_ ?_ <;> obtain ⟨-, hnew⟩ | ⟨-, hnew⟩ := next <;> simp [hnew]
  | configure c _ =>
    exact startLaw_of (s := s) hreset rfl id (fun q hline hup hdown => ⟨by simpa using hline, hup, hdown⟩) hs
  | claim | renew | supply => exact ⟨hreset, hs.2⟩

/-! ## The queues (R8, R41) -/

/-- A port's queues are empty out of traffic, but for a frame in flight, and within their limits (R8, R41). -/
def QueuesHold (s : State) (p : PortId) : Prop :=
  ((s.port p).lineState.flushes = true →
    tget s.fst.down p = [] ∧ (tget s.fst.up p = [] ∨ ∃ f, tget s.fst.up p = [f] ∧ f.inFlight = true)) ∧
  cellsIn (tget s.fst.up p) ≤ s.cfg.uqMax ∧ cellsIn (tget s.fst.down p) ≤ s.cfg.dqMax

theorem queueLaw_iff (s : State) : QueueLaw s ↔ StartLaw s ∧ ∀ p, QueuesHold s p := by
  simp only [QueueLaw, QueuesHold, forall_and]

theorem queuesHold_congr {s t : State} {p : PortId} (hline : (t.port p).lineState = (s.port p).lineState)
    (hup : tget t.fst.up p = tget s.fst.up p) (hdown : tget t.fst.down p = tget s.fst.down p) (hcfg : t.cfg = s.cfg)
    (h : QueuesHold s p) : QueuesHold t p := by
  rwa [QueuesHold, hline, hup, hdown, hcfg]

theorem keptByFlush_cases (q : List Frame) :
    keptByFlush q = [] ∨ ∃ f, keptByFlush q = [f] ∧ f.inFlight = true := by
  cases q with
  | nil => exact .inl rfl
  | cons f fs => by_cases h : f.inFlight = true <;> simp [keptByFlush, h]

theorem cellsIn_keptByFlush_le (q : List Frame) : cellsIn (keptByFlush q) ≤ cellsIn q := by
  have h := congrArg cellsIn (flush_parts q)
  rw [cellsIn_append] at h
  omega

theorem cellsIn_tail_le (q : List Frame) : cellsIn q.tail ≤ cellsIn q := by
  cases q <;> simp

/-- A change of line state flushes where the new one is out of traffic, and leaves the other ports' queues alone (R8). -/
theorem queuesHold_changeState {p q : PortId} {ns : LineState} {w l : Bool} {s : State} (h : ∀ r, QueuesHold s r) :
    QueuesHold (changeState p ns w l s) q := by
  obtain ⟨hflush, hup, hdown⟩ := h q
  have hkept := cellsIn_keptByFlush_le (tget s.fst.up q)
  rw [QueuesHold, changeState_lineState_of, changeState_up, changeState_down, changeState_cfg]
  by_cases hns : ns.flushes = true
  · by_cases hq : q = p
    · subst hq
      simp only [hns, if_true, tget_tset_self, cellsIn_nil]
      exact ⟨fun _ => ⟨trivial, keptByFlush_cases _⟩, hkept.trans hup, Nat.zero_le _⟩
    · simp only [hns, if_true, hq, if_false, tget_tset_ne _ _ (Ne.symm hq)]
      exact ⟨hflush, hup, hdown⟩
  · by_cases hq : q = p
    · simp only [hns, hq, if_true]
      exact ⟨fun hf => absurd hf (by simp), hq ▸ hup, hq ▸ hdown⟩
    · simp only [hns, hq, if_false]
      exact ⟨hflush, hup, hdown⟩

theorem Move.queuesHold {s t : State} (h : Move s t) (hstart : StartLaw s) (hs : ∀ p, QueuesHold s p) (q : PortId) :
    QueuesHold t q := by
  cases h with
  | same h =>
    obtain hsame | ⟨hserv, hroom⟩ := h.down q
    · exact queuesHold_congr (h.line q) (by rw [h.up]) hsame h.cfg (hs q)
    · obtain ⟨-, hup, hdown⟩ := hs q
      rw [QueuesHold, h.line, hserv, h.up, h.cfg]
      exact ⟨fun hf => by simp [LineState.flushes] at hf, hup, by omega⟩
  | @admitUp p payload room _ =>
    obtain ⟨hserv, hlimit, -, -⟩ := (admission_none_iff ..).1 room
    by_cases hq : q = p
    · subst hq
      obtain ⟨-, -, hdown⟩ := hs q
      simp only [QueuesHold, uscUpdate_port, passingFrame_lineState, enqueueData_port, hserv, uscUpdate_fst,
        passingFrame_fst, uscUpdate_cfg, passingFrame_cfg, enqueueData_cfg]
      refine ⟨fun hf => by simp [LineState.flushes] at hf, ?_, hdown⟩
      simpa [enqueueData, Fst.setQueue, Frame.cells, dataFrame, Fst.queue, queueLimit] using hlimit
    · refine queuesHold_congr (by simp) ?_ ?_ (by simp) (hs q)
      · simp [enqueueData, Fst.setQueue, tget_tset_ne _ _ (Ne.symm hq), Fst.takeOut]
      · simp [enqueueData, Fst.setQueue, Fst.takeOut]
  | line => exact queuesHold_changeState hs
  | @isolate r hrun _ =>
    rw [enterIsolating_eq hrun]
    exact queuesHold_congr (s := changeState r.req.port .testing false false s) (by simp) (by simp) (by simp) (by simp)
      (queuesHold_changeState hs)
  | @testEnd r o _ _ =>
    obtain ⟨-, h⟩ | ⟨-, ns, w, -, -, h⟩ := portAfterTest_cases r o s <;> rw [h]
    · exact hs q
    · exact queuesHold_congr (s := changeState r.req.port ns w false s) (by simp) (by simp) (by simp) (by simp)
        (queuesHold_changeState hs)
  | @dataEnd p ok _ =>
    by_cases hq : q = p
    · subst hq
      obtain ⟨hflush, hup, hdown⟩ := hs q
      have htail := cellsIn_tail_le (tget s.fst.up q)
      simp only [QueuesHold, dataEnd_port, dataEnd_up, dataEnd_down, dataEnd_cfg, setTx_port, setTx_fst, setTx_cfg,
        tget_tset_self]
      refine ⟨fun hf => ⟨(hflush hf).1, .inl ?_⟩, htail.trans hup, hdown⟩
      obtain hnil | ⟨f, hone, -⟩ := (hflush hf).2
      · rw [hnil, List.tail_nil]
      · rw [hone, List.tail_cons]
    · refine queuesHold_congr (by simp) ?_ (by simp) (by simp) (hs q)
      rw [dataEnd_up, tget_tset_ne _ _ (Ne.symm hq), setTx_fst]
  | takeData _ _ =>
    obtain h | ⟨p, _, f, fs, _, -, hup, h⟩ := takeData_cases s <;> rw [h]
    · exact hs q
    · by_cases hq : q = p
      · subst hq
        obtain ⟨hflush, hupmax, hdown⟩ := hs q
        refine ⟨fun hf => ⟨(hflush hf).1, .inr ?_⟩, ?_, hdown⟩
        · obtain hnil | ⟨g, hone, -⟩ := (hflush hf).2
          · simp [hup] at hnil
          · exact ⟨{ g with inFlight := true }, by simp [chooseHead, hone, markHead], rfl⟩
        · simpa [chooseHead] using hupmax
      · exact queuesHold_congr (s := s) rfl (by simp [chooseHead, tget_tset_ne _ _ (Ne.symm hq)]) rfl rfl (hs q)
  | refill => exact queuesHold_congr (by simp) (by simp) (by simp) (by simp) (hs q)
  | reset => simp [QueuesHold, blocksReset, Fst.initial]
  | configure c loading =>
    obtain ⟨-, hports⟩ := hstart.2 (.inr loading)
    obtain ⟨-, hup, hdown⟩ := hports q
    refine ⟨fun _ => ⟨hdown, .inl hup⟩, ?_, ?_⟩
    · rw [show tget (takeCfg c s).fst.up q = [] from hup]
      exact Nat.zero_le _
    · rw [show tget (takeCfg c s).fst.down q = [] from hdown]
      exact Nat.zero_le _
  | claim | renew | supply | load | start => exact hs q

theorem Move.queueLaw {s t : State} (h : Move s t) (hs : QueueLaw s) : QueueLaw t := by
  rw [queueLaw_iff] at hs ⊢
  exact ⟨h.startLaw hs.1, h.queuesHold hs.1 hs.2⟩

end Sys2Proof.Machine
end

section
/-! SUPPORT. The laws of training, of the claims and of the tests under the moves of a step. -/

namespace Sys2Proof.Machine

/-! ## Training (R24, R32) -/

/-- A port is not TRAINING while its binder is claimed (R24). -/
def TrainsFree (s : State) (p : PortId) : Prop :=
  (s.port p).lineState = .training → s.claimed (s.port p).binder = false

theorem trainsFree_congr {s t : State} {p : PortId} (hline : (t.port p).lineState = (s.port p).lineState)
    (hbinder : (t.port p).binder = (s.port p).binder) (hclaimed : t.claimed = s.claimed) (h : TrainsFree s p) :
    TrainsFree t p := by
  rwa [TrainsFree, hline, hbinder, hclaimed]

theorem claimed_of_clt {s t : State} (h : t.clt = s.clt) : t.claimed = s.claimed := by
  simp [State.claimed, funext_iff, h]

@[simp] theorem changeState_claimed (p : PortId) (ns : LineState) (w l : Bool) (s : State) :
    (changeState p ns w l s).claimed = s.claimed := claimed_of_clt (by simp)

theorem trainsFree_changeState {p q : PortId} {ns : LineState} {w l : Bool} {s : State}
    (hfree : ns = .training → s.claimed (s.port p).binder = false) (h : TrainsFree s q) :
    TrainsFree (changeState p ns w l s) q := by
  rw [TrainsFree, changeState_lineState_of, changeState_binder, changeState_claimed]
  split
  · next hq => exact fun hns => hq ▸ hfree hns
  · exact h

/-- The phase that an entry shows after a write of the Claim Table. -/
theorem claimed_write (s : State) (b c : BinderId) (e : ClaimEntry) (o : Option (BinderId × ClaimStep)) :
    ({ s with clt := { entries := tset s.clt.entries b e, own := o } } : State).claimed c =
      if b = c then e.phase != .free else s.claimed c := by
  simp only [State.claimed, tget_tset]
  split <;> rfl

theorem Move.trainsFree {s t : State} (h : Move s t) (hstart : StartLaw s) (hs : ∀ p, TrainsFree s p) (q : PortId) :
    TrainsFree t q := by
  cases h with
  | same h =>
    have hclaimed : t.claimed = s.claimed := funext fun b => congrArg (· != ClaimPhase.free) (h.phase b)
    exact trainsFree_congr (h.line q) (h.binder q) hclaimed (hs q)
  | admitUp | refill => exact trainsFree_congr (by simp) (by simp) (claimed_of_clt (by simp)) (hs q)
  | line _ _ _ free => exact trainsFree_changeState free (hs q)
  | @isolate r hrun _ =>
    rw [enterIsolating_eq hrun]
    exact trainsFree_congr (s := changeState r.req.port .testing false false s) (by simp) (by simp)
      (claimed_of_clt (by simp)) (trainsFree_changeState (by simp) (hs q))
  | @testEnd r o _ _ =>
    obtain ⟨-, h⟩ | ⟨-, ns, w, hflush, -, h⟩ := portAfterTest_cases r o s <;> rw [h]
    · exact hs q
    · exact trainsFree_congr (s := changeState r.req.port ns w false s) (by simp) (by simp) (claimed_of_clt (by simp))
        (trainsFree_changeState (fun hns => by simp [hns, LineState.flushes] at hflush) (hs q))
  | claim _ held =>
    intro ht
    rw [claimed_write]
    split
    · next hb =>
      by_contra he
      obtain hclaimed | hnone := held (by simpa using he)
      · have hfree := hs q ht
        simp only [State.port] at hb hfree
        simp [← hb, hclaimed] at hfree
      · exact hnone q ht hb.symm
    · exact hs q ht
  | dataEnd => exact trainsFree_congr (s := s) (by simp) (by simp) (claimed_of_clt (by simp)) (hs q)
  | takeData _ _ =>
    obtain h | ⟨p, _, _, _, _, -, -, h⟩ := takeData_cases s <;> rw [h] <;> exact hs q
  | reset _ _ disabled _ _ => exact fun ht => by simp [State.port, disabled] at ht
  | configure c loading =>
    obtain ⟨-, hports⟩ := hstart.2 (.inr loading)
    exact fun ht => by simp [(hports q).1] at ht
  | renew | supply | load | start => exact hs q

theorem Move.trainingLaw {s t : State} (h : Move s t) (hs : TrainingLaw s) : TrainingLaw t :=
  ⟨h.startLaw hs.1, h.trainsFree hs.1 hs.2⟩

/-! ## The card's own claim (R99, R106) -/

theorem claimLaw_of_clt {s t : State} (h : t.clt = s.clt) (hs : ClaimLaw s) : ClaimLaw t := by
  simpa only [ClaimLaw, State.claim, h] using hs

theorem Move.claimLaw {s t : State} (h : Move s t) (hs : ClaimLaw s) : ClaimLaw t := by
  cases h with
  | same h => exact h.claims hs
  | admitUp | line | testEnd | refill => exact claimLaw_of_clt (by simp) hs
  | isolate hrun _ => exact claimLaw_of_clt (by simp) hs
  | claim lawful _ => exact lawful hs
  | dataEnd => exact claimLaw_of_clt (s := s) (by simp) hs
  | takeData _ _ =>
    obtain h | ⟨p, _, _, _, _, -, -, h⟩ := takeData_cases s <;> rw [h] <;> exact hs
  | reset => simp [ClaimLaw, State.claim, blocksReset, Clt.initial, ClaimEntry.vacant]
  | renew | supply | load | start | configure => exact hs

/-! ## The tests (R113, R121) -/

theorem taken_eq_some_iff (s : State) (p : PortId) :
    s.taken = some p ↔ ∃ run, s.tsq.running = some run ∧ run.req.port = p ∧ run.st ≠ .claiming := by
  unfold State.taken
  cases h : s.tsq.running with
  | none => simp
  | some r => by_cases hr : r.st = .claiming <;> simp [hr]

/-- A port is TESTING exactly while the running test has taken it (R121). -/
def TestsTaken (s : State) : Prop := ∀ p, (s.port p).lineState = .testing ↔ s.taken = some p

/-- Outside RUNNING no test runs (R116). -/
def RunsInRunning (s : State) : Prop := s.stc.startState ≠ .running → s.tsq.running = none

theorem testLaw_iff (s : State) :
    TestLaw s ↔ ResetHolds s ∧ RunsInRunning s ∧ TestsTaken s ∧ StageLaw s ∧ OnceLaw s := by
  simp only [TestLaw, RunsInRunning, TestsTaken, StageLaw, OnceLaw, taken_eq_some_iff]

theorem taken_of_tsq {s t : State} (h : t.tsq = s.tsq) : t.taken = s.taken := by
  simp only [State.taken, h]

/-- Without a running test no port is TESTING. -/
theorem TestsTaken.none {s : State} (h : TestsTaken s) (hrun : s.tsq.running = none) (p : PortId) :
    (s.port p).lineState ≠ .testing := by
  rw [Ne, h p, taken_eq_some_iff]
  simp [hrun]

/-- What leaves the line states, the test queue and the running test, and starts no stage, keeps the law of the tests. -/
theorem testLaw_of {s t : State} (hreset : ResetHolds t) (hstc : t.stc = s.stc) (htsq : t.tsq = s.tsq)
    (hmsu : t.msu.run = s.msu.run) (hline : ∀ p, (t.port p).lineState = .testing ↔ (s.port p).lineState = .testing)
    (hs : TestLaw s) : TestLaw t := by
  rw [testLaw_iff] at hs ⊢
  obtain ⟨-, hrunning, htaken, hstage, honce⟩ := hs
  refine ⟨hreset, ?_, fun p => ?_, ?_, ?_⟩
  · rwa [RunsInRunning, hstc, htsq]
  · rw [hline, taken_of_tsq htsq]
    exact htaken p
  · rwa [StageLaw, hmsu, htsq]
  · rwa [OnceLaw, htsq]

theorem Move.testLaw {s t : State} (h : Move s t) (hs : TestLaw s) : TestLaw t := by
  have hreset : ResetHolds t := h.resetHolds hs.1
  obtain ⟨-, hrunning, htaken, hstage, honce⟩ := (testLaw_iff s).1 hs
  cases h with
  | same h =>
    obtain ⟨htook, hstage'⟩ := h.stage hstage
    refine (testLaw_iff t).2 ⟨hreset, fun hout => by_contra fun hrun => ?_, fun p => ?_, hstage', h.once honce⟩
    · rw [h.start] at hout
      obtain hold | hold := h.origin hrun
      · exact hold (hrunning hout)
      · exact hout hold
    · rw [h.line, htook]
      exact htaken p
  | admitUp | refill => exact testLaw_of hreset (by simp) (by simp) (by simp) (by simp) hs
  | @line p ns w l old new _ _ =>
    refine testLaw_of hreset (by simp) (by simp) (by simp) (fun q => ?_) hs
    rw [changeState_lineState_of]
    split
    · next hq =>
      subst hq
      have hold : (s.port q).lineState ≠ .testing := fun ht => by
        have hjoining := old ht
        exact htaken.none (hrunning (by simp [hjoining])) q ht
      simp [new, hold]
    · rfl
  | @isolate r hrun hclaiming =>
    have hnone : ∀ p, (s.port p).lineState ≠ .testing := fun p => by
      rw [Ne, htaken p, taken_eq_some_iff]
      simp [hrun, hclaiming]
    have hstopped : s.msu.run = .none := by_contra fun hne => by
      obtain ⟨r', hr', hmeasuring⟩ := hstage hne
      simp_all
    rw [enterIsolating_eq hrun] at hreset ⊢
    refine (testLaw_iff _).2 ⟨hreset, fun hout => ?_, fun p => ?_, fun hne => ?_, ?_⟩
    · exact absurd (hrunning (by simpa using hout)) (by simp [hrun])
    · simp only [setRunning_port, openService_lineState, changeState_lineState_of, taken_eq_some_iff,
        setRunning_running]
      by_cases hp : p = r.req.port <;> simp [hp, hnone, eq_comm]
    · exact absurd (by simpa using hstopped) hne
    · simpa [OnceLaw, hrun] using honce
  | @testEnd r o hrun hstopped =>
    have hline : ∀ p, ((portAfterTest r o s).port p).lineState ≠ .testing := by
      intro p
      have hother : p ≠ r.req.port → (s.port p).lineState ≠ .testing := fun hp => by
        rw [Ne, htaken p, taken_eq_some_iff]
        simp [hrun, Ne.symm hp]
      obtain ⟨hout, h⟩ | ⟨-, ns, w, -, hns, h⟩ := portAfterTest_cases r o s <;> rw [h]
      · by_cases hp : p = r.req.port
        · rwa [hp]
        · exact hother hp
      · rw [changeState_lineState_of]
        split
        · exact hns
        · next hp => exact hother hp
    refine (testLaw_iff _).2 ⟨hreset, fun _ => rfl, fun p => ?_, fun hne => ?_, ?_⟩
    · simp only [setRunning_port, hline p, taken_eq_some_iff, setRunning_running]
      simp
    · have hne' : s.msu.run ≠ .none := by simpa using hne
      obtain ⟨r', hr', hmeasuring⟩ := hstage hne'
      cases hrun.symm.trans hr'
      exact absurd (hstopped hmeasuring) hne'
    · have hsub : (s.tsq.queue.map TestReq.port).Nodup := by
        rw [OnceLaw, List.map_append] at honce
        exact honce.of_append_left
      simpa [OnceLaw, portAfterTest_tsq] using hsub
  | dataEnd => exact testLaw_of (s := s) hreset (by simp) (by simp) (by simp) (by simp) hs
  | takeData _ _ =>
    obtain h | ⟨p, _, _, _, _, -, -, h⟩ := takeData_cases s <;> rw [h] at hreset ⊢
    · exact hs
    · exact testLaw_of (s := s) hreset rfl rfl rfl (fun _ => Iff.rfl) hs
  | reset _ _ disabled idle _ =>
    refine (testLaw_iff _).2 ⟨hreset, fun _ => idle.2, fun p => ?_, fun hne => absurd rfl hne, ?_⟩
    · simp [taken_eq_some_iff, idle.2, State.port, disabled]
    · simp [OnceLaw, idle.1, idle.2]
  | load old _ _ _ _ =>
    exact (testLaw_iff _).2 ⟨hreset, fun _ => hrunning (by simp [hs.1.1 old]), htaken, hstage, honce⟩
  | start _ next =>
    refine (testLaw_iff _).2 ⟨hreset, fun hout => ?_, htaken, hstage, honce⟩
    obtain ⟨hold, -⟩ | ⟨hold, -⟩ := next <;> exact hrunning (by simp [hold])
  | configure c _ => exact testLaw_of (s := s) hreset rfl rfl rfl (by simp) hs
  | claim | renew | supply => exact (testLaw_iff _).2 ⟨hreset, hrunning, htaken, hstage, honce⟩

end Sys2Proof.Machine
end

section
/-! SUPPORT. The scheduler's laws under the moves of a step: the active list, the credit and the tokens (R81, R90). -/

namespace Sys2Proof.Machine

/-! ## The active list (R90) -/

theorem eligible_congr {s t : State} {p : PortId} (hline : (t.port p).lineState = (s.port p).lineState)
    (hup : (tget t.fst.up p).isEmpty = (tget s.fst.up p).isEmpty)
    (htokens : (t.uscPort p).tokens = (s.uscPort p).tokens) : t.eligible p = s.eligible p := by
  simp only [State.eligible, hline, hup, htokens]

theorem activeLaw_congr {s t : State} (hactive : t.usc.active = s.usc.active)
    (hline : ∀ p, (t.port p).lineState = (s.port p).lineState)
    (hup : ∀ p, (tget t.fst.up p).isEmpty = (tget s.fst.up p).isEmpty)
    (htokens : ∀ p, (t.uscPort p).tokens = (s.uscPort p).tokens) (hs : ActiveLaw s) : ActiveLaw t := by
  refine ⟨hactive ▸ hs.1, fun p => ?_⟩
  rw [hactive, eligible_congr (hline p) (hup p) (htokens p)]
  exact hs.2 p

/-- The list is exact but perhaps at one port, which it holds once at most. -/
def ActiveBut (p : PortId) (s : State) : Prop :=
  s.usc.active.Nodup ∧ ∀ q, q ≠ p → (q ∈ s.usc.active ↔ s.eligible q = true)

theorem ActiveLaw.but {s : State} (h : ActiveLaw s) (p : PortId) : ActiveBut p s := ⟨h.1, fun q _ => h.2 q⟩

theorem activeBut_congr {s t : State} {p : PortId} (hactive : t.usc.active = s.usc.active)
    (hline : ∀ q, q ≠ p → (t.port q).lineState = (s.port q).lineState)
    (hup : ∀ q, q ≠ p → tget t.fst.up q = tget s.fst.up q)
    (htokens : ∀ q, q ≠ p → (t.uscPort q).tokens = (s.uscPort q).tokens) (hs : ActiveBut p s) : ActiveBut p t := by
  refine ⟨hactive ▸ hs.1, fun q hq => ?_⟩
  rw [hactive, eligible_congr (hline q hq) (by rw [hup q hq]) (htokens q hq)]
  exact hs.2 q hq

@[simp] theorem uscUpdate_eligible (p q : PortId) (s : State) : (uscUpdate p s).eligible q = s.eligible q :=
  eligible_congr (by simp) (by simp) (by simp)

/-- The update of the list at the port where it may be wrong makes it exact (R90). -/
theorem ActiveBut.update {p : PortId} {s : State} (h : ActiveBut p s) : ActiveLaw (uscUpdate p s) := by
  obtain ⟨hnodup, hmem⟩ := uscUpdate_active p s h.1
  refine ⟨hnodup, fun q => ?_⟩
  rw [hmem, uscUpdate_eligible]
  split
  · next hq => rw [hq]
  · next hq => exact h.2 q hq

/-- The updates of some ports leave another port's place in the list (R90). -/
theorem forPorts_uscUpdate_mem_other {q : PortId} (ps : List PortId) (s : State) (h : s.usc.active.Nodup) (hq : q ∉ ps) :
    q ∈ (forPorts ps uscUpdate s).usc.active ↔ q ∈ s.usc.active := by
  induction ps generalizing s with
  | nil => rfl
  | cons p ps ih =>
    obtain ⟨hnodup, hmem⟩ := uscUpdate_active p s h
    obtain ⟨hqp, hqps⟩ := not_or.1 (mt List.mem_cons.2 hq)
    rw [forPorts, List.foldl_cons, ← forPorts, ih _ hnodup hqps, hmem, if_neg hqp]

/-- The updates of a list's ports make it exact at each of them (R88). -/
theorem forPorts_uscUpdate_active (ps : List PortId) (s : State) (h : s.usc.active.Nodup) :
    (forPorts ps uscUpdate s).usc.active.Nodup ∧
      ∀ q, q ∈ ps → (q ∈ (forPorts ps uscUpdate s).usc.active ↔ s.eligible q = true) := by
  induction ps generalizing s with
  | nil => exact ⟨h, by simp⟩
  | cons p ps ih =>
    obtain ⟨hnodup, hmem⟩ := uscUpdate_active p s h
    obtain ⟨hnodup', hexact⟩ := ih (uscUpdate p s) hnodup
    refine ⟨hnodup', fun q hq => ?_⟩
    simp only [uscUpdate_eligible] at hexact
    by_cases hin : q ∈ ps
    · exact hexact q hin
    · have hqp : q = p := by simpa [hin] using hq
      rw [forPorts, List.foldl_cons, ← forPorts, forPorts_uscUpdate_mem_other ps _ hnodup hin, hmem, if_pos hqp, hqp]

/-! ## The refill (R88) -/

/-- The tokens of a port after the refill (R88). -/
def refilled (s : State) (p : PortId) : Int :=
  if (s.port p).lineState = .inService then min ((s.uscPort p).tokens + s.aUpOf p) (s.uscPort p).heldDepth else 0

/-- The refill of one port writes its tokens alone (R88). -/
theorem uscRefill_uscPort (p q : PortId) (s : State) : (uscRefill p s).uscPort q =
    if p = q then { s.uscPort p with tokens := refilled s p } else s.uscPort q := by
  unfold uscRefill refilled
  by_cases h : (s.port p).lineState = .inService <;> simp [h, modUsc_uscPort]

@[simp] theorem uscRefill_active (p : PortId) (s : State) : (uscRefill p s).usc.active = s.usc.active := by
  unfold uscRefill
  dsimp only
  split <;> rfl

@[simp] theorem forPorts_uscRefill_active (ps : List PortId) (s : State) :
    (forPorts ps uscRefill s).usc.active = s.usc.active :=
  forPorts_keeps (fun t => t.usc.active) uscRefill uscRefill_active ps s

theorem forPorts_uscRefill_ports (ps : List PortId) (s : State) : (forPorts ps uscRefill s).ports = s.ports :=
  forPorts_keeps State.ports uscRefill (by simp) ps s

theorem forPorts_uscRefill_fst (ps : List PortId) (s : State) : (forPorts ps uscRefill s).fst = s.fst :=
  forPorts_keeps State.fst uscRefill (by simp) ps s

theorem forPorts_uscRefill_cfg (ps : List PortId) (s : State) : (forPorts ps uscRefill s).cfg = s.cfg :=
  forPorts_keeps State.cfg uscRefill (by simp) ps s

theorem aUpOf_congr {s t : State} (hports : t.ports = s.ports) (hcfg : t.cfg = s.cfg) : t.aUpOf = s.aUpOf := by
  unfold State.aUpOf State.port
  rw [hports, hcfg]

/-- What the refill of some ports leaves in each: the new tokens in each of them (R88). -/
theorem forPorts_uscRefill_uscPort (ps : List PortId) (s : State) (hps : ps.Nodup) (q : PortId) :
    (forPorts ps uscRefill s).uscPort q =
      if q ∈ ps then { s.uscPort q with tokens := refilled s q } else s.uscPort q := by
  induction ps generalizing s with
  | nil => simp [forPorts]
  | cons p ps ih =>
    obtain ⟨hp, hnodup⟩ := List.nodup_cons.1 hps
    have hread : ∀ r, p ≠ r → refilled (uscRefill p s) r = refilled s r := fun r hr => by
      have hport : (uscRefill p s).port = s.port := by simp [State.port, funext_iff]
      simp only [refilled, hport, uscRefill_uscPort, if_neg hr, aUpOf_congr (uscRefill_ports s p) (uscRefill_cfg s p)]
    rw [forPorts, List.foldl_cons, ← forPorts, ih _ hnodup]
    by_cases hqp : p = q
    · subst hqp
      simp [hp, uscRefill_uscPort]
    · simp [uscRefill_uscPort, hread q hqp, hqp, Ne.symm hqp]

theorem allPorts_nodup : allPorts.Nodup := by decide

theorem forPorts_uscUpdate_uscPort {β : Type} (g : UscPort → β)
    (h : ∀ p q t, g ((uscUpdate p t).uscPort q) = g (t.uscPort q)) (ps : List PortId) (s : State) (q : PortId) :
    g ((forPorts ps uscUpdate s).uscPort q) = g (s.uscPort q) :=
  forPorts_keeps (fun t => g (t.uscPort q)) uscUpdate (fun p t => h p q t) ps s

/-- The tokens after the refill, and the held depth, which it leaves (R88). -/
theorem uscRefillAll_tokens (s : State) (p : PortId) :
    ((uscRefillAll s).uscPort p).tokens = refilled s p ∧
      ((uscRefillAll s).uscPort p).heldDepth = (s.uscPort p).heldDepth := by
  unfold uscRefillAll
  rw [forPorts_uscUpdate_uscPort UscPort.tokens uscUpdate_tokens,
    forPorts_uscUpdate_uscPort UscPort.heldDepth uscUpdate_heldDepth,
    forPorts_uscRefill_uscPort _ _ allPorts_nodup, if_pos (mem_allPorts p)]
  exact ⟨rfl, rfl⟩

theorem uscRefillAll_activeLaw {s : State} (h : s.usc.active.Nodup) : ActiveLaw (uscRefillAll s) := by
  have hnodup : (forPorts allPorts uscRefill s).usc.active.Nodup := by rwa [forPorts_uscRefill_active]
  obtain ⟨hnodup', hexact⟩ := forPorts_uscUpdate_active allPorts _ hnodup
  unfold uscRefillAll
  refine ⟨hnodup', fun p => ?_⟩
  rw [hexact p (mem_allPorts p), forPorts_keeps (fun t => t.eligible p) uscUpdate (fun q t => uscUpdate_eligible q p t)]

/-! ## The end of a DATA frame (R45, R94) -/

/-- The card with the list brought up to a port, none being chosen any more (R94). -/
def uscSettled (p : PortId) (s : State) : State := uscUpdate p { s with usc := { s.usc with chosen := none } }

/-- The card with the port at the head of the list moved to its tail, its turn closed (R95). -/
def toTail (p : PortId) (rest : List PortId) (s : State) : State :=
  let t := s.modUsc p (fun v => { v with turnOpen := false })
  { t with usc := { t.usc with active := rest ++ [p] } }

/-- At a frame's end the list is brought up to the port, and then the port at its head may move to its tail (R94, R95). -/
theorem uscAfterEnd_cases (p : PortId) (s : State) : uscAfterEnd p s = uscSettled p s ∨
    ∃ rest, (uscSettled p s).usc.active = p :: rest ∧ uscAfterEnd p s = toTail p rest (uscSettled p s) := by
  unfold uscAfterEnd
  dsimp only
  split
  · next q rest f fs hactive _ =>
    split
    · next hturn =>
      simp only [Bool.and_eq_true, beq_iff_eq] at hturn
      obtain ⟨⟨hqp, -⟩, -⟩ := hturn
      exact .inr ⟨rest, hqp ▸ hactive, rfl⟩
    · exact .inl rfl
  · exact .inl rfl

/-- The move to the tail keeps every figure of a port but its turn. -/
theorem toTail_uscPort {β : Type} (g : UscPort → β) (h : ∀ u, g { u with turnOpen := false } = g u) (p q : PortId)
    (rest : List PortId) (s : State) : g ((toTail p rest s).uscPort q) = g (s.uscPort q) :=
  modUsc_keeps g (f := fun v => { v with turnOpen := false }) h s p q

@[simp] theorem uscAfterEnd_tokens (p q : PortId) (s : State) :
    ((uscAfterEnd p s).uscPort q).tokens = (s.uscPort q).tokens := by
  obtain h | ⟨rest, -, h⟩ := uscAfterEnd_cases p s <;> rw [h]
  · exact uscUpdate_tokens _ _ _
  · rw [toTail_uscPort UscPort.tokens fun _ => rfl]
    exact uscUpdate_tokens _ _ _

@[simp] theorem uscAfterEnd_heldDepth (p q : PortId) (s : State) :
    ((uscAfterEnd p s).uscPort q).heldDepth = (s.uscPort q).heldDepth := by
  obtain h | ⟨rest, -, h⟩ := uscAfterEnd_cases p s <;> rw [h]
  · exact uscUpdate_heldDepth _ _ _
  · rw [toTail_uscPort UscPort.heldDepth fun _ => rfl]
    exact uscUpdate_heldDepth _ _ _

theorem ActiveLaw.toTail {p : PortId} {rest : List PortId} {s : State} (h : ActiveLaw s)
    (hactive : s.usc.active = p :: rest) : ActiveLaw (toTail p rest s) := by
  obtain ⟨hnodup, hexact⟩ := h
  rw [hactive] at hnodup hexact
  refine ⟨(List.perm_append_singleton p rest).nodup_iff.2 hnodup, fun r => ?_⟩
  have heligible : (Machine.toTail p rest s).eligible r = s.eligible r :=
    eligible_congr rfl rfl (toTail_uscPort UscPort.tokens (fun _ => rfl) p r rest s)
  rw [heligible, ← hexact r]
  simp [Machine.toTail, or_comm]

/-- The scheduler's step at a frame's end makes the list exact (R94, R95). -/
theorem ActiveBut.afterEnd {p : PortId} {s : State} (h : ActiveBut p s) : ActiveLaw (uscAfterEnd p s) := by
  have hupdate : ActiveLaw (uscSettled p s) := ActiveBut.update (s := { s with usc := { s.usc with chosen := none } }) h
  obtain hend | ⟨rest, hactive, hend⟩ := uscAfterEnd_cases p s <;> rw [hend]
  · exact hupdate
  · exact hupdate.toTail hactive

/-- The blocks that a DATA frame's end charges: the head frame's, where it was sent (R81, R89). -/
def chargedAt (ok : Bool) (q : List Frame) : Nat :=
  match q with
  | [] => 0
  | f :: _ => if ok then f.blocks else 0

/-- What a DATA frame's end charges (R81, R89). -/
theorem dataEnd_charge (ok : Bool) (p q : PortId) (s : State) :
    (dataEnd ok p s).shu.credit = s.shu.credit - (chargedAt ok (tget s.fst.up p) : Int) ∧
      ((dataEnd ok p s).uscPort q).tokens =
        (s.uscPort q).tokens - (if p = q then (chargedAt ok (tget s.fst.up p) : Int) else 0) ∧
      ((dataEnd ok p s).uscPort q).heldDepth = (s.uscPort q).heldDepth := by
  unfold dataEnd
  split
  · next h => simp [chargedAt, h]
  · next f fs h =>
    dsimp only
    cases ok
    · have hcounted : (countPort p .txAbort 1 (removeUpHead p s)).uscPort = s.uscPort := by
        simp [State.uscPort, funext_iff]
      simp [chargedAt, h, hcounted]
    · have hcounted : (countPort p .upBlocks f.blocks (countPort p .upFrames 1 (removeUpHead p s))).uscPort = s.uscPort := by
        simp [State.uscPort, funext_iff]
      have hcredit : (countPort p .upBlocks f.blocks (countPort p .upFrames 1 (removeUpHead p s))).shu = s.shu := by simp
      generalize countPort p .upBlocks f.blocks (countPort p .upFrames 1 (removeUpHead p s)) = u at hcounted hcredit
      rw [if_pos rfl, uscAfterEnd_tokens, uscAfterEnd_heldDepth, uscAfterEnd_shu, chargeBlocks, modUsc_shu,
        chargeCredit_credit, hcredit, modUsc_uscPort]
      have hread : (chargeCredit f.blocks u).uscPort = s.uscPort := hcounted
      rw [hread, h]
      by_cases hpq : p = q <;> simp [hpq, chargedAt]

theorem dataEnd_activeLaw {ok : Bool} {p : PortId} {s : State} (h : ActiveBut p s) : ActiveLaw (dataEnd ok p s) := by
  have hcount : ∀ c k t, ActiveBut p t → ActiveBut p (countPort p c k t) := fun c k t ht =>
    activeBut_congr (by simp) (by simp) (by simp) (by simp [State.uscPort]) ht
  have hcharge : ∀ n t, ActiveBut p t → ActiveBut p (chargeBlocks p n t) := fun n t ht =>
    activeBut_congr (s := t) rfl (fun _ _ => rfl) (fun _ _ => rfl)
      (fun q hq => by rw [chargeBlocks, modUsc_uscPort_ne _ _ (Ne.symm hq)]; rfl) ht
  have hremove : ActiveBut p (removeUpHead p s) :=
    activeBut_congr (by simp) (by simp [State.port])
      (fun q hq => by rw [removeUpHead_up, tget_tset_ne _ _ (Ne.symm hq)]) (by simp [State.uscPort]) h
  unfold dataEnd
  split
  · exact h.afterEnd
  · dsimp only
    split
    · exact (hcharge _ _ (hcount _ _ _ (hcount _ _ _ hremove))).afterEnd
    · exact (hcount _ _ _ hremove).afterEnd

end Sys2Proof.Machine
end

section
/-! SUPPORT. The scheduler's laws under the moves of a step, and the laws kept by all that moves lead to. -/

namespace Sys2Proof.Machine

/-! ## The active list -/

/-- A port is not eligible right after a change of its line state (R8, R87, R90). -/
theorem changeState_not_eligible (p : PortId) (ns : LineState) (w l : Bool) (s : State) :
    (changeState p ns w l s).eligible p = false := by
  have htokens := changeState_tokens p ns w l s
  by_cases hns : ns = .inService
  · rw [if_pos hns] at htokens
    simp [State.eligible, htokens]
  · simp [State.eligible, hns]

theorem changeState_activeLaw {p : PortId} {ns : LineState} {w l : Bool} {s : State} (h : ActiveLaw s) :
    ActiveLaw (changeState p ns w l s) := by
  obtain ⟨hnodup, hexact⟩ := h
  have hother : ∀ q, p ≠ q → (changeState p ns w l s).eligible q = s.eligible q := fun q hq => by
    refine eligible_congr (by rw [changeState_others _ _ _ _ _ _ hq]) ?_ (by rw [changeState_uscPort_ne _ _ _ _ _ _ hq])
    rw [changeState_up]
    split
    · rw [tget_tset_ne _ _ hq]
    · rfl
  have hmem : p ∈ s.usc.active → (s.port p).lineState = .inService := fun hp => by
    have he := (hexact p).1 hp
    simp only [State.eligible, Bool.and_eq_true, beq_iff_eq] at he
    exact he.1.1
  rw [ActiveLaw, changeState_active]
  refine ⟨?_, fun q => ?_⟩
  · split
    · exact hnodup.filter _
    · exact hnodup
  · by_cases hq : p = q
    · subst hq
      rw [changeState_not_eligible]
      split
      · simp
      · next hline => simpa using fun hp => hline (hmem hp)
    · rw [hother q hq, ← hexact q]
      split <;> simp [Ne.symm hq]

theorem Move.activeLaw {s t : State} (h : Move s t) (hs : ActiveLaw s) : ActiveLaw t := by
  cases h with
  | same h => exact activeLaw_congr h.active h.line (by simp [h.up]) h.tokens hs
  | @admitUp p payload _ _ =>
    refine ActiveBut.update (activeBut_congr (s := s) (by simp) (by simp) (fun q hq => ?_) ?_ (hs.but p))
    · simp [enqueueData, Fst.setQueue, Fst.takeOut, tget_tset_ne _ _ (Ne.symm hq)]
    · simp [State.uscPort]
  | line => exact changeState_activeLaw hs
  | @isolate r hrun _ =>
    rw [enterIsolating_eq hrun]
    exact activeLaw_congr (s := changeState r.req.port .testing false false s) (by simp) (by simp) (by simp)
      (by simp [State.uscPort]) (changeState_activeLaw hs)
  | @testEnd r o _ _ =>
    have hend : ActiveLaw (portAfterTest r o s) := by
      obtain ⟨-, h⟩ | ⟨-, ns, w, -, -, h⟩ := portAfterTest_cases r o s <;> rw [h]
      · exact hs
      · exact changeState_activeLaw hs
    exact hend
  | @dataEnd p ok _ => exact dataEnd_activeLaw (activeBut_congr (s := s) rfl (by simp) (by simp) (fun _ _ => rfl) (hs.but p))
  | takeData _ _ =>
    obtain h | ⟨p, _, f, fs, deficit, -, hup, h⟩ := takeData_cases s <;> rw [h]
    · exact hs
    · refine activeLaw_congr (s := s) rfl (fun _ => rfl) (fun q => ?_) (fun q => ?_) hs
      · by_cases hq : p = q
        · subst hq
          simp [chooseHead, hup, markHead]
        · simp [chooseHead, tget_tset_ne _ _ hq]
      · exact modUsc_keeps UscPort.tokens (f := fun v => { v with deficit := deficit, turnOpen := true }) (fun _ => rfl) s p q
  | refill => exact uscRefillAll_activeLaw hs.1
  | reset _ _ disabled _ _ =>
    refine ⟨List.nodup_nil, fun p => ?_⟩
    simp [State.eligible, State.port, disabled, blocksReset, Usc.initial]
  | configure c _ => exact activeLaw_congr (s := s) rfl (by simp) (fun _ => rfl) (fun _ => rfl) hs
  | claim | renew | supply | load | start => exact hs

/-! ## The credit and the tokens (R81) -/

/-- A port's tokens lie between −24 and its held depth (R81). -/
def TokensHold (s : State) (p : PortId) : Prop :=
  -24 ≤ (s.uscPort p).tokens ∧ (s.uscPort p).tokens ≤ ((s.uscPort p).heldDepth : Int)

theorem creditLaw_iff (s : State) : CreditLaw s ↔ -24 ≤ s.shu.credit ∧ s.shu.credit ≤ 65535 ∧ (∀ p, TokensHold s p) ∧
    (∀ p, s.bau.tx.hand = some (.data p) → 0 ≤ s.shu.credit ∧ 0 ≤ (s.uscPort p).tokens) ∧
    ∀ p f, f ∈ tget s.fst.up p → f.payload.length ≤ 1536 := Iff.rfl

/-- What leaves the credit and no more frames behind, writes the tokens within their bounds, and takes no DATA frame in hand,
keeps the law of the credit. -/
theorem creditLaw_of {s t : State} (hcredit : t.shu.credit = s.shu.credit) (htokens : ∀ p, TokensHold s p → TokensHold t p)
    (hhand : ∀ p, t.bau.tx.hand = some (.data p) → s.bau.tx.hand = some (.data p))
    (hpos : ∀ p, 0 ≤ (s.uscPort p).tokens → 0 ≤ (t.uscPort p).tokens)
    (hup : ∀ p f, f ∈ tget t.fst.up p → f ∈ tget s.fst.up p) (hs : CreditLaw s) : CreditLaw t := by
  obtain ⟨hlow, hhigh, htok, hcharged, hlength⟩ := hs
  refine ⟨hcredit ▸ hlow, hcredit ▸ hhigh, fun p => htokens p (htok p), fun p hp => ?_, fun p f hf => hlength p f (hup p f hf)⟩
  obtain ⟨hc, ht⟩ := hcharged p (hhand p hp)
  exact ⟨hcredit ▸ hc, hpos p ht⟩

theorem mem_of_mem_keptByFlush {f : Frame} {q : List Frame} (h : f ∈ keptByFlush q) : f ∈ q := by
  rw [← flush_parts q]
  exact List.mem_append_left _ h

theorem changeState_mem_up {p q : PortId} {ns : LineState} {w l : Bool} {s : State} {f : Frame}
    (h : f ∈ tget (changeState p ns w l s).fst.up q) : f ∈ tget s.fst.up q := by
  rw [changeState_up] at h
  split at h
  · rw [tget_tset] at h
    split at h
    · next hpq => exact hpq ▸ mem_of_mem_keptByFlush h
    · exact h
  · exact h

/-- What a change of line state leaves of a port's tokens (R87). -/
theorem changeState_tokensHold {p q : PortId} {ns : LineState} {w l : Bool} {s : State} (h : TokensHold s q) :
    TokensHold (changeState p ns w l s) q := by
  by_cases hpq : p = q
  · subst hpq
    obtain ⟨hlow, hhigh⟩ := h
    by_cases hns : ns = .inService
    · have htokens := changeState_tokens p ns w l s
      rw [if_pos hns] at htokens
      exact ⟨by omega, by omega⟩
    · have htokens := changeState_tokens p ns w l s
      rw [if_neg hns] at htokens
      rw [TokensHold, htokens, changeState_heldDepth _ _ _ _ _ hns]
      exact ⟨hlow, hhigh⟩
  · rwa [TokensHold, changeState_uscPort_ne _ _ _ _ _ _ hpq]

theorem changeState_tokens_nonneg {p q : PortId} {ns : LineState} {w l : Bool} {s : State}
    (h : 0 ≤ (s.uscPort q).tokens) : 0 ≤ ((changeState p ns w l s).uscPort q).tokens := by
  by_cases hpq : p = q
  · subst hpq
    have htokens := changeState_tokens p ns w l s
    split at htokens <;> omega
  · rwa [changeState_uscPort_ne _ _ _ _ _ _ hpq]

theorem changeState_creditLaw {p : PortId} {ns : LineState} {w l : Bool} {s : State} (h : CreditLaw s) :
    CreditLaw (changeState p ns w l s) :=
  creditLaw_of (by simp) (fun _ => changeState_tokensHold) (by simp) (fun _ => changeState_tokens_nonneg)
    (fun _ _ => changeState_mem_up) h

/-- A frame of the link is of 24 blocks at most (R20, R37). -/
theorem blocks_le_of_length {f : Frame} (h : f.payload.length ≤ 1536) : f.blocks ≤ 24 := by
  unfold Frame.blocks blocksOf
  omega

theorem chargedAt_le {ok : Bool} {q : List Frame} (h : ∀ f, f ∈ q → f.payload.length ≤ 1536) : chargedAt ok q ≤ 24 := by
  cases q with
  | nil => exact Nat.zero_le _
  | cons f fs =>
    have hf := blocks_le_of_length (h f List.mem_cons_self)
    cases ok <;> simp [chargedAt, hf]

theorem Move.creditLaw {s t : State} (h : Move s t) (hactive : ActiveLaw s) (hs : CreditLaw s) : CreditLaw t := by
  cases h with
  | same h =>
    refine creditLaw_of h.credit (fun p hp => ?_) h.hand (fun p hp => (h.tokens p).symm ▸ hp) (fun p f hf => h.up ▸ hf) hs
    rwa [TokensHold, h.tokens, h.depth]
  | @admitUp p payload _ hlength =>
    obtain ⟨hlow, hhigh, htok, hcharged, hlen⟩ := hs
    have husc : (passingFrame p (enqueueData p .up payload s)).uscPort = s.uscPort := by
      simp [State.uscPort, funext_iff]
    refine ⟨by simpa using hlow, by simpa using hhigh, fun q => ?_, fun q hq => ?_, fun q f hf => ?_⟩
    · rw [uscUpdate_tokens, uscUpdate_heldDepth, husc]
      exact htok q
    · rw [uscUpdate_tokens, husc]
      simpa using hcharged q (by simpa using hq)
    · simp only [uscUpdate_fst, passingFrame_fst, enqueueData, Fst.setQueue, tget_tset, Fst.takeOut, Fst.queue] at hf
      split at hf
      · next hpq =>
        obtain hf | hf := List.mem_append.1 hf
        · exact hlen q f (hpq ▸ hf)
        · rw [List.mem_singleton.1 hf]
          exact hlength
      · exact hlen q f hf
  | line => exact changeState_creditLaw hs
  | @isolate r hrun _ =>
    rw [enterIsolating_eq hrun]
    exact creditLaw_of (s := changeState r.req.port .testing false false s) (by simp)
      (fun q hq => by simpa [TokensHold, State.uscPort] using hq) (by simp)
      (fun q hq => by simpa [State.uscPort] using hq) (by simp) (changeState_creditLaw hs)
  | @testEnd r o _ _ =>
    have hend : CreditLaw (portAfterTest r o s) := by
      obtain ⟨-, h⟩ | ⟨-, ns, w, -, -, h⟩ := portAfterTest_cases r o s <;> rw [h]
      · exact hs
      · exact changeState_creditLaw hs
    exact hend
  | @dataEnd p ok hhand =>
    obtain ⟨hlow, hhigh, htok, hcharged, hlen⟩ := hs
    obtain ⟨hcredit, htokens⟩ := hcharged p hhand
    have hblocks := chargedAt_le (ok := ok) (hlen p)
    have hcharge := dataEnd_charge ok p p (setTx Tx.initial s)
    refine ⟨?_, ?_, fun q => ?_, fun q hq => ?_, fun q f hf => hlen q f ?_⟩
    · rw [hcharge.1]
      show -24 ≤ s.shu.credit - (chargedAt ok (tget s.fst.up p) : Int)
      omega
    · rw [hcharge.1]
      show s.shu.credit - (chargedAt ok (tget s.fst.up p) : Int) ≤ 65535
      omega
    · obtain ⟨-, htok', hdepth'⟩ := dataEnd_charge ok p q (setTx Tx.initial s)
      obtain ⟨htlow, hthigh⟩ := htok q
      rw [htok', hdepth']
      show -24 ≤ (s.uscPort q).tokens - _ ∧ (s.uscPort q).tokens - _ ≤ ((s.uscPort q).heldDepth : Int)
      rw [setTx_fst]
      split
      · next hpq =>
        subst hpq
        omega
      · omega
    · simp [Tx.initial] at hq
    · rw [dataEnd_up, setTx_fst, tget_tset] at hf
      split at hf
      · next hpq => exact hpq ▸ List.mem_of_mem_tail hf
      · exact hf
  | takeData _ credit =>
    obtain h | ⟨p, rest, g, fs, deficit, hlist, hup, h⟩ := takeData_cases s <;> rw [h]
    · exact hs
    · obtain ⟨hlow, hhigh, htok, -, hlen⟩ := hs
      have hread : ∀ q, ((chooseHead p deficit s).uscPort q).tokens = (s.uscPort q).tokens ∧
          ((chooseHead p deficit s).uscPort q).heldDepth = (s.uscPort q).heldDepth := fun q =>
        ⟨modUsc_keeps UscPort.tokens (f := fun v => { v with deficit := deficit, turnOpen := true }) (fun _ => rfl) s p q,
          modUsc_keeps UscPort.heldDepth (f := fun v => { v with deficit := deficit, turnOpen := true }) (fun _ => rfl) s p q⟩
      have heligible : s.eligible p = true := (hactive.2 p).1 (by simp [hlist])
      simp only [State.eligible, Bool.and_eq_true, decide_eq_true_eq] at heligible
      refine ⟨hlow, hhigh, fun q => ?_, fun q hq => ?_, fun q f hf => ?_⟩
      · show -24 ≤ ((chooseHead p deficit s).uscPort q).tokens ∧
          ((chooseHead p deficit s).uscPort q).tokens ≤ (((chooseHead p deficit s).uscPort q).heldDepth : Int)
        rw [(hread q).1, (hread q).2]
        exact htok q
      · have hqp : p = q := by simpa [takeInHand] using hq
        show 0 ≤ s.shu.credit ∧ 0 ≤ ((chooseHead p deficit s).uscPort q).tokens
        rw [(hread q).1, ← hqp]
        exact ⟨credit.le, heligible.2.le⟩
      · simp only [takeInHand_fst, chooseHead, modUsc_fst, tget_tset] at hf
        split at hf
        · next hpq =>
          rw [hup, markHead] at hf
          obtain hf | hf := List.mem_cons.1 hf
          · rw [hf]
            exact hlen p g (by simp [hup])
          · exact hlen q f (hpq ▸ by simp [hup, hf])
        · exact hlen q f hf
  | refill =>
    refine creditLaw_of (by simp) (fun p hp => ?_) (by simp) (fun p hp => ?_) (by simp) hs
    · obtain ⟨htokens, hdepth⟩ := uscRefillAll_tokens s p
      obtain ⟨hlow, hhigh⟩ := hp
      rw [TokensHold, htokens, hdepth, refilled]
      split <;> omega
    · rw [(uscRefillAll_tokens s p).1, refilled]
      split <;> omega
  | renew grant =>
    obtain ⟨hlow, hhigh, htok, hcharged, hlen⟩ := hs
    refine ⟨?_, ?_, htok, fun p hp => ⟨?_, (hcharged p hp).2⟩, hlen⟩
    · show -24 ≤ min s.shu.credit 0 + (s.shu.grant : Int)
      omega
    · show min s.shu.credit 0 + (s.shu.grant : Int) ≤ 65535
      omega
    · have hcredit := (hcharged p hp).1
      show 0 ≤ min s.shu.credit 0 + (s.shu.grant : Int)
      omega
  | reset =>
    simp only [creditLaw_iff, TokensHold, State.uscPort, blocksReset, Shu.initial, Usc.initial, Bau.initial, Tx.initial,
      Fst.initial, tget_tconst, UscPort.initial]
    simp
  | claim | supply | load | start | configure => exact hs

/-! ## The laws along a step -/

/-- The two laws together: the charge of a frame needs both. -/
theorem Move.schedulerLaws {s t : State} (h : Move s t) (hs : ActiveLaw s ∧ CreditLaw s) : ActiveLaw t ∧ CreditLaw t :=
  ⟨h.activeLaw hs.1, h.creditLaw hs.1 hs.2⟩

/-- What closes no relay keeps the relay law (R6). -/
theorem Opens.relayLaw {s t : State} (h : Opens s t) (hs : RelayLaw s) : RelayLaw t := by
  obtain ⟨hboth, hone, hheld⟩ := hs
  exact ⟨fun p hp => hboth p ⟨h.service p hp.1, h.test p hp.2⟩, fun p q hp hq => hone p q (h.test p hp) (h.test q hq),
    h.held hheld⟩

end Sys2Proof.Machine
end

section
/-! SUPPORT. The operations of the Frame Store, the Line Supervisor and the Claim Table are made of moves. -/

namespace Sys2Proof.Machine

/-! ## Small changes -/

/-- A record is written that keeps the line state and the binder and closes no relay. -/
theorem Leads.record {s : State} {p : PortId} {r : Port} (line : r.lineState = (s.port p).lineState)
    (binder : r.binder = (s.port p).binder) (service : r.serviceClosed = true → (s.port p).serviceClosed = true)
    (test : r.testClosed = true → (s.port p).testClosed = true)
    (held : r.serviceHeld = true → (s.port p).serviceHeld = true) : Leads s (s.setPort p r) := by
  have hline : ∀ q, ((s.setPort p r).port q).lineState = (s.port q).lineState := fun q => by
    rw [setPort_port]
    split
    · next h => rw [line, h]
    · rfl
  have hbinder : ∀ q, ((s.setPort p r).port q).binder = (s.port q).binder := fun q => by
    rw [setPort_port]
    split
    · next h => rw [binder, h]
    · rfl
  refine .of_move (.same { Harmless.refl s with line := hline, binder := hbinder }) ⟨fun q hq => ?_, fun q hq => ?_,
    fun hs q hq => ?_⟩ rfl
  · rw [setPort_port] at hq
    split at hq
    · next h => exact h ▸ service hq
    · exact hq
  · rw [setPort_port] at hq
    split at hq
    · next h => exact h ▸ test hq
    · exact hq
  · rw [hline]
    rw [setPort_port] at hq
    split at hq
    · next h => exact h ▸ hs p (held hq)
    · exact hs q hq

/-- A change of a record that keeps the line state, the binder and the relays. -/
theorem Leads.modPort {s : State} {p : PortId} {f : Port → Port} (line : ∀ r, (f r).lineState = r.lineState)
    (binder : ∀ r, (f r).binder = r.binder) (service : ∀ r, (f r).serviceClosed = r.serviceClosed)
    (test : ∀ r, (f r).testClosed = r.testClosed) (held : ∀ r, (f r).serviceHeld = r.serviceHeld) :
    Leads s (s.modPort p f) :=
  .record (line _) (binder _) (fun h => service _ ▸ h) (fun h => test _ ▸ h) fun h => held _ ▸ h

theorem Leads.openTest (p : PortId) (s : State) : Leads s (openTest p s) :=
  .record rfl rfl id (fun h => by simp at h) id

theorem Leads.raiseNotice (c : Cause) (s : State) : Leads s (raiseNotice c s) :=
  .of_harmless (.raiseNotice c s) (by simp) (by simp)

theorem Leads.countPort (p : PortId) (c : PortCounter) (k : Nat) (s : State) : Leads s (countPort p c k s) :=
  .of_harmless (.countPort p c k s) (by simp) (by simp)

theorem Leads.countCard (c : CardCounter) (s : State) : Leads s (countCard c s) :=
  .of_harmless (.countCard c s) (by simp) (by simp)

theorem Leads.noteClash (s : State) : Leads s (noteClash s) := (Leads.countCard _ _).trans (.raiseNotice _ _)

theorem Leads.ownSource (s : State) : Leads s (ownSource s) := (Leads.countCard _ _).trans (.raiseNotice _ _)

/-- The Frame Store's pools and management queues change lawfully. -/
theorem Leads.of_fst {s : State} {x : Fst} (hup : x.up = s.fst.up) (hdown : x.down = s.fst.down)
    (hlaw : s.fst.lawful → x.lawful) : Leads s { s with fst := x } :=
  .of_harmless (.of_fst hup hdown hlaw) rfl rfl

/-- The flags, the waiting list and the mask change. -/
theorem Leads.of_mga {s : State} {m : Mga} (hp : m.portCounters = s.mga.portCounters)
    (hc : m.cardCounters = s.mga.cardCounters) : Leads s { s with mga := m } :=
  .of_harmless (.of_mga_counters hp hc) rfl rfl

/-! ## Changes of line state -/

/-- A port leaves its line state for another, but for TESTING and FAULTED. -/
theorem Leads.line {s : State} {p : PortId} {ns : LineState} {w l : Bool}
    (old : (s.port p).lineState = .testing → s.stc.startState = .joining) (new : ns ≠ .testing ∧ ns ≠ .faulted)
    (started : (s.port p).lineState ≠ .disabled ∨ s.joined = true)
    (free : ns = .training → s.claimed (s.port p).binder = false) : Leads s (changeState p ns w l s) :=
  .of_move (.line old new.1 started free) (.changeState fun _ _ => new) (by simp)

/-- As `line`, for a port whose line state is neither DISABLED nor TESTING. -/
theorem Leads.lineFrom {s : State} {p : PortId} {ns : LineState} {w l : Bool} {ls : LineState}
    (hl : (s.port p).lineState = ls) (old : ls ≠ .testing ∧ ls ≠ .disabled) (new : ns ≠ .testing ∧ ns ≠ .faulted)
    (free : ns = .training → s.claimed (s.port p).binder = false) : Leads s (changeState p ns w l s) :=
  .line (fun h => absurd (hl.symm.trans h) old.1) new (.inl (hl ▸ old.2)) free

theorem waitTarget_cases (cabinet : Supply) (priority : Bool) :
    (waitTarget cabinet priority).1 = .waiting ∨ (waitTarget cabinet priority).1 = .shed := by
  cases cabinet <;> simp [waitTarget]

theorem Leads.toWaiting {s : State} {p : PortId} {l : Bool}
    (old : (s.port p).lineState = .testing → s.stc.startState = .joining)
    (started : (s.port p).lineState ≠ .disabled ∨ s.joined = true) : Leads s (toWaiting p l s) := by
  have hcases := waitTarget_cases s.smn.cabinet (s.port p).priority
  refine .line old ?_ started ?_ <;> obtain h | h := hcases <;> simp [h]

theorem Leads.toWaitingFrom {s : State} {p : PortId} {l : Bool} {ls : LineState} (hl : (s.port p).lineState = ls)
    (old : ls ≠ .testing ∧ ls ≠ .disabled) : Leads s (Machine.toWaiting p l s) :=
  .toWaiting (fun h => absurd (hl.symm.trans h) old.1) (.inl (hl ▸ old.2))

theorem Leads.startTraining (p : PortId) (s : State) : Leads s (s.modPort p Port.startTraining) :=
  .modPort (fun _ => rfl) (fun _ => rfl) (fun _ => rfl) (fun _ => rfl) (fun _ => rfl)

theorem Leads.beginAttempt {s : State} {p : PortId} {ls : LineState} (hl : (s.port p).lineState = ls)
    (old : ls ≠ .testing ∧ ls ≠ .disabled) : Leads s (beginAttempt p s) := by
  unfold Machine.beginAttempt
  dsimp only
  split
  · exact .lineFrom hl old (by decide) (by simp)
  · next hfree =>
    refine Leads.trans ?_ (.startTraining p _)
    split
    · exact .refl s
    · exact .lineFrom hl old (by decide) fun _ => by simpa using hfree

/-! ## The Frame Store -/

/-- A change of the Frame Store that leaves its pools, its queues and what they hold. -/
theorem Leads.of_fst_staging {s : State} {x : Fst} (hup : x.up = s.fst.up) (hdown : x.down = s.fst.down)
    (hreq : x.requests = s.fst.requests) (hresp : x.responses = s.fst.responses)
    (hcells : x.freeCells = s.fst.freeCells) (hrecords : x.freeRecords = s.fst.freeRecords) :
    Leads s { s with fst := x } :=
  .of_fst hup hdown fun h => by
    simpa only [Fst.lawful, Fst.cellsQueued, Fst.recordsQueued, hup, hdown, hreq, hresp, hcells, hrecords] using h

theorem Leads.stageUp (p : PortId) (bytes : List Byte) (s : State) : Leads s (stageUp p bytes s) :=
  .of_fst_staging rfl rfl rfl rfl rfl rfl

theorem Leads.stageBus (bytes : List Byte) (s : State) : Leads s (stageBus bytes s) :=
  .of_fst_staging rfl rfl rfl rfl rfl rfl

theorem Leads.passingFrame (p : PortId) (s : State) : Leads s (passingFrame p s) := by
  have h : ∀ {β : Type} (g : Port → β) (r : Port),
      g { r with idleFlag := false, idleTimer := true } = g r →
      g (if r.lineState == .inService then { r with idleFlag := false, idleTimer := true } else r) = g r := by
    intro β g r hg
    split
    · exact hg
    · rfl
  exact .modPort (fun r => h Port.lineState r rfl) (fun r => h Port.binder r rfl) (fun r => h Port.serviceClosed r rfl)
    (fun r => h Port.testClosed r rfl) (fun r => h Port.serviceHeld r rfl)

theorem Leads.sendFrame (p : PortId) (payload : List Byte) (s : State) :
    Leads s (s.modPort p (Port.send (.frame payload))) :=
  .modPort (fun _ => rfl) (fun _ => rfl) (fun _ => rfl) (fun _ => rfl) (fun _ => rfl)

theorem Leads.clearPull (p : PortId) (s : State) :
    Leads s { s with fst := { s.fst with pull := tset s.fst.pull p false } } :=
  .of_fst_staging rfl rfl rfl rfl rfl rfl

theorem Leads.handOver {s : State} {p : PortId} (hl : (s.port p).lineState = .inService) : Leads s (handOver p s) := by
  unfold Machine.handOver
  split
  · exact .refl s
  · next f rest hq =>
    have hdown : ∀ q, tget ((s.fst.giveBack f).setQueue p .down rest).down q = tget s.fst.down q ∨
        (s.port q).lineState = .inService ∧ cellsIn (tget ((s.fst.giveBack f).setQueue p .down rest).down q) ≤
          max (cellsIn (tget s.fst.down q)) s.cfg.dqMax := by
      intro q
      by_cases hqp : p = q
      · subst hqp
        refine .inr ⟨hl, ?_⟩
        simp only [Fst.setQueue, tget_tset_self, hq, cellsIn_cons]
        omega
      · exact .inl (tget_tset_ne _ _ hqp)
    have htake : Leads s { s with fst := (s.fst.giveBack f).setQueue p .down rest } :=
      .of_harmless { Harmless.refl s with store := fun h => Fst.lawful.removeDown h hq, down := hdown } rfl rfl
    refine htake.trans ?_
    generalize ({ s with fst := (s.fst.giveBack f).setQueue p .down rest } : State) = u
    refine (Leads.sendFrame p f.payload u).trans ((Leads.passingFrame p _).trans ((Leads.clearPull p _).trans ?_))
    exact (Leads.countPort p .dnFrames 1 _).trans (.countPort p .dnBlocks f.blocks _)

theorem Leads.completeUpstream {s : State} {p : PortId} {payload : List Byte} (h : payload.length ≤ 1536) :
    Leads s (Machine.completeUpstream p (Machine.stageUp p payload s)) := by
  have hstaged : tget (Machine.stageUp p payload s).fst.upStaging p = payload := by simp
  refine (Leads.stageUp p payload s).trans ?_
  unfold Machine.completeUpstream
  dsimp only
  rw [hstaged]
  refine (Leads.stageUp p [] _).trans ?_
  split
  · exact .countPort _ _ _ _
  · next hroom =>
    generalize Machine.stageUp p [] (Machine.stageUp p payload s) = u at hroom ⊢
    have hadmit : Opens u (enqueueData p .up payload u) := .of_ports (by simp)
    refine .of_move (.admitUp hroom h) ?_ (by simp)
    exact hadmit.trans ((Leads.passingFrame p _).opens.trans (.of_ports (by simp)))

theorem Leads.completeDownstream (p : PortId) (s : State) : Leads s (completeDownstream p s) := by
  unfold Machine.completeDownstream
  dsimp only
  refine (Leads.stageBus [] s).trans ?_
  generalize Machine.stageBus [] s = u
  split
  · exact .countPort _ _ _ _
  · next hroom =>
    obtain ⟨hserv, hlimit, hcells, hrecords⟩ := (admission_none_iff ..).1 hroom
    have hdown : ∀ q, tget (enqueueData p .down s.fst.busStaging u).fst.down q = tget u.fst.down q ∨
        (u.port q).lineState = .inService ∧ cellsIn (tget (enqueueData p .down s.fst.busStaging u).fst.down q) ≤
          max (cellsIn (tget u.fst.down q)) u.cfg.dqMax := by
      intro q
      by_cases hqp : p = q
      · subst hqp
        refine .inr ⟨hserv, ?_⟩
        simp only [enqueueData, Fst.setQueue, tget_tset_self, Fst.queue, cellsIn_append, cellsIn_cons, cellsIn_nil,
          queueLimit, dataFrame, Frame.cells] at hlimit ⊢
        omega
      · exact .inl (tget_tset_ne _ _ hqp)
    have hstore : StoreLaw u → StoreLaw (enqueueData p .down s.fst.busStaging u) := fun hu =>
      Fst.lawful.enqueueDown hu p (dataFrame p s.fst.busStaging) (Nat.le_of_add_right_le hcells) (by omega)
    have hadmit : Leads u (enqueueData p .down s.fst.busStaging u) :=
      .of_harmless { Harmless.refl u with store := hstore, down := hdown } rfl rfl
    exact .ite (fun _ => hadmit.trans (.handOver hserv)) fun _ => hadmit

theorem Leads.completeMreq (s : State) : Leads s (completeMreq s) := by
  unfold Machine.completeMreq
  dsimp only
  refine (Leads.stageBus [] s).trans ?_
  split
  · next h => exact .of_fst rfl rfl fun hs => hs.admitRequest h.1 h.2.1 h.2.2
  · exact (Leads.countCard _ _).trans (.raiseNotice _ _)

theorem Leads.removeResponseHead (s : State) : Leads s (removeResponseHead s) := by
  unfold Machine.removeResponseHead
  split
  · exact .refl s
  · next hq => exact .of_fst rfl rfl fun hs => hs.removeResponse hq

theorem Leads.removeRequestHead (s : State) : Leads s (removeRequestHead s) := by
  unfold Machine.removeRequestHead
  split
  · exact .refl s
  · next hq => exact .of_fst rfl rfl fun hs => hs.removeRequest hq

/-! ## Training (R23 to R36) -/

/-- A request that joins the test queue for a port that has none there and no test running. -/
theorem Leads.enqueueTest {s : State} (q : TestReq) (n : Nat) (hq : s.tsq.queued q.port = false)
    (hr : s.tsq.runs q.port = false) :
    Leads s { s with tsq := { s.tsq with queue := s.tsq.queue ++ [q], arrivals := n } } := by
  refine .of_harmless { Harmless.refl s with once := fun h => ?_ } rfl rfl
  have hqueue : q.port ∉ s.tsq.queue.map TestReq.port := by
    rintro hmem
    obtain ⟨x, hx, hxq⟩ := List.mem_map.1 hmem
    exact List.any_eq_false.1 hq x hx (beq_iff_eq.2 hxq)
  have hrun : q.port ∉ (s.tsq.running.map Running.req).toList.map TestReq.port := by
    cases hrunning : s.tsq.running with
    | none => simp
    | some r =>
      have hne : r.req.port ≠ q.port := by simpa [Tsq.runs, hrunning] using hr
      simpa using hne.symm
  have hperm : ((s.tsq.queue ++ [q] ++ (s.tsq.running.map Running.req).toList).map TestReq.port).Perm
      (q.port :: ((s.tsq.queue ++ (s.tsq.running.map Running.req).toList).map TestReq.port)) := by
    simp only [List.map_append, List.map_cons, List.map_nil, List.append_assoc]
    exact List.perm_middle
  refine hperm.nodup_iff.2 (List.nodup_cons.2 ⟨?_, h⟩)
  rw [List.map_append, List.mem_append]
  exact not_or.2 ⟨hqueue, hrun⟩

theorem Leads.placeAutoTest (p : PortId) (s : State) : Leads s (placeAutoTest p s) := by
  refine .ite (fun h => ?_) fun _ => .refl s
  simp only [Bool.and_eq_true, Bool.not_eq_true', Bool.or_eq_false_iff] at h
  exact .enqueueTest _ _ h.1.2.1 h.1.2.2

theorem Leads.failed (cause : FailCause) (p : PortId) (s : State) : Leads s (s.modPort p (Port.failed cause)) := by
  refine .modPort ?_ ?_ ?_ ?_ ?_ <;>
    · intro r
      unfold Port.failed
      dsimp only
      split <;> rfl

theorem Leads.clearFailures (p : PortId) (s : State) : Leads s (s.modPort p fun r => { r with failures := 0 }) :=
  .modPort (fun _ => rfl) (fun _ => rfl) (fun _ => rfl) (fun _ => rfl) (fun _ => rfl)

theorem Leads.trainingFailure {s : State} {p : PortId} {cause : FailCause} (hl : (s.port p).lineState = .training) :
    Leads s (trainingFailure p cause s) := by
  have hfailed : ((s.modPort p (Port.failed cause)).port p).lineState = .training := by
    rw [modPort_port_self, ← hl]
    unfold Port.failed
    dsimp only
    split <;> rfl
  unfold Machine.trainingFailure
  dsimp only
  refine (Leads.failed cause p s).trans ((Leads.countPort p .trainFails 1 _).trans ?_)
  have hcounted : ((Machine.countPort p .trainFails 1 (s.modPort p (Port.failed cause))).port p).lineState = .training := by
    simpa using hfailed
  generalize Machine.countPort p .trainFails 1 (s.modPort p (Port.failed cause)) = u at hcounted
  refine .ite (fun _ => .beginAttempt hcounted (by decide)) fun _ => (Leads.clearFailures p u).trans ?_
  have hcleared : ((u.modPort p fun r => { r with failures := 0 }).port p).lineState = .training := by
    simpa using hcounted
  exact (Leads.toWaitingFrom hcleared (by decide)).trans (.placeAutoTest p _)

theorem Leads.retrainPort {s : State} {p : PortId} (hl : (s.port p).lineState = .inService) :
    Leads s (retrainPort p s) :=
  (Leads.countPort p .retrains 1 s).trans (.beginAttempt (ls := .inService) (by simpa using hl) (by decide))

theorem Leads.activityOnPort (p : PortId) (s : State) : Leads s (activityOnPort p s) := by
  unfold Machine.activityOnPort
  dsimp only
  split
  · exact .record rfl rfl id id id
  · next hl =>
    refine .ite (fun _ => .refl s) fun _ => .ite (fun _ => .record rfl rfl id id id) fun _ => .ite (fun _ => ?_) fun _ => .refl s
    exact .beginAttempt hl (by decide)
  all_goals exact .refl s

theorem Leads.activityOffPort (p : PortId) (s : State) : Leads s (activityOffPort p s) := by
  unfold Machine.activityOffPort
  dsimp only
  split
  · exact .record rfl rfl id id id
  · next hl => exact .toWaitingFrom hl (by decide)
  · exact .ite (fun _ => .record rfl rfl id id id) fun _ => .refl s
  all_goals exact .refl s

theorem Leads.persistenceExpires (p : PortId) (s : State) : Leads s (persistenceExpires p s) :=
  .ite (fun h => .beginAttempt h.1 (by decide)) fun _ => .refl s

theorem Leads.takeReport (p : PortId) (attempt : Byte) (rep : Report) (s : State) : Leads s (takeReport p attempt rep s) := by
  unfold Machine.takeReport
  dsimp only
  split
  · next h =>
    have hstore : Leads s (s.setPort p { s.port p with trainTimer := false, lastReport := some rep }) :=
      .record rfl rfl id id id
    split
    · refine hstore.trans (.modPort ?_ ?_ ?_ ?_ ?_) <;> exact fun _ => rfl
    · exact hstore.trans (.trainingFailure (by simpa using h.1))
  · exact .refl s

theorem Leads.takeTrainFail (p : PortId) (attempt : Byte) (s : State) : Leads s (takeTrainFail p attempt s) :=
  .ite (fun h => .trainingFailure h.1) fun _ => .refl s

theorem Leads.trainTimerExpires (p : PortId) (s : State) : Leads s (trainTimerExpires p s) :=
  .ite (fun h => .trainingFailure h.1) fun _ => .refl s

theorem Leads.readyTimerExpires (p : PortId) (s : State) : Leads s (readyTimerExpires p s) :=
  .ite (fun h => .trainingFailure h.1) fun _ => .refl s

theorem Leads.takeReady (p : PortId) (attempt : Byte) (s : State) : Leads s (takeReady p attempt s) :=
  .ite (fun h => .lineFrom h.1 (by decide) (by decide) (by simp)) fun _ => .refl s

theorem Leads.takeMargin (p : PortId) (level : Nat) (s : State) : Leads s (takeMargin p level s) := by
  unfold Machine.takeMargin
  dsimp only
  refine .ite (fun h => .ite (fun _ => ?_) fun _ => .record rfl rfl id id id) fun _ => .refl s
  have hcount : Leads s (s.setPort p { s.port p with marginLow := (s.port p).marginLow + 1 }) := .record rfl rfl id id id
  exact .ite (fun _ => hcount) fun _ => hcount.trans (.retrainPort (by simpa using h.1))

theorem Leads.takeFarFault (p : PortId) (s : State) : Leads s (takeFarFault p s) := by
  unfold Machine.takeFarFault
  split
  all_goals first
    | exact (Leads.countPort _ _ _ _).trans (.raiseNotice _ _)
    | exact .refl s

theorem Leads.takeSignalLost (p : PortId) (attempt : Byte) (s : State) : Leads s (takeSignalLost p attempt s) :=
  .ite (fun h => h.1.elim (fun hl => .toWaitingFrom hl (by decide)) fun hl => .toWaitingFrom hl (by decide)) fun _ => .refl s

theorem Leads.takeFrameRequest (p : PortId) (s : State) : Leads s (takeFrameRequest p s) :=
  .ite (fun h => .ite (fun _ => .of_fst_staging rfl rfl rfl rfl rfl rfl) fun _ => .handOver h) fun _ => .refl s

theorem Leads.idleTimerExpires (p : PortId) (s : State) : Leads s (idleTimerExpires p s) := by
  unfold Machine.idleTimerExpires
  dsimp only
  refine .ite (fun h => ?_) fun _ => .refl s
  have hflag : Leads s (s.setPort p { s.port p with idleFlag := true, idleTimer := false }) := .record rfl rfl id id id
  exact .ite (fun _ => hflag.trans (.lineFrom (ls := .inService) (by simpa using h.1) (by decide) (by decide) (by simp)))
    fun _ => hflag

/-! ## The cabinet supply state (R150 to R152) -/

theorem Leads.setWakeWatch (wake : Bool) (p : PortId) (s : State) : Leads s (setWakeWatch wake p s) := by
  unfold Machine.setWakeWatch
  dsimp only
  refine .ite (fun _ => .refl s) fun _ => .record ?_ ?_ (fun h => ?_) (fun h => ?_) fun h => ?_
  · rw [Port.powerTo_lineState]
  · rw [(Port.powerTo_binder_held _ _).1]
  · rwa [(Port.powerTo_relays _ _).1] at h
  · rwa [(Port.powerTo_relays _ _).2] at h
  · rwa [(Port.powerTo_binder_held _ _).2] at h

theorem Leads.shedForLow (p : PortId) (s : State) : Leads s (shedForLow p s) := by
  unfold Machine.shedForLow
  dsimp only
  split
  · next hl => exact .lineFrom hl (by decide) (by decide) (by simp)
  · next hl => exact .ite (fun _ => .lineFrom hl (by decide) (by decide) (by simp)) fun _ => .refl s
  · exact .setWakeWatch true p s
  all_goals exact .refl s

theorem Leads.shedForCritical (p : PortId) (s : State) : Leads s (shedForCritical p s) := by
  unfold Machine.shedForCritical
  dsimp only
  refine .ite (fun _ => .shedForLow p s) fun _ => ?_
  split
  · next hl => exact .lineFrom hl (by decide) (by decide) (by simp)
  · next hl => exact .lineFrom hl (by decide) (by decide) (by simp)
  · next hl => exact .lineFrom hl (by decide) (by decide) (by simp)
  · next hl => exact .lineFrom hl (by decide) (by decide) (by simp)
  · exact .setWakeWatch false p s
  all_goals exact .refl s

theorem Leads.supplyReturns (p : PortId) (s : State) : Leads s (supplyReturns p s) :=
  .ite (fun h => .lineFrom h (by decide) (by decide) (by simp)) fun _ => .refl s

theorem Leads.lsvSupply (new : Supply) (s : State) : Leads s (lsvSupply new s) := by
  cases new
  · exact .forPorts supplyReturns allPorts s
  · exact .forPorts supplyReturns allPorts s
  · exact .forPorts shedForLow allPorts s
  · exact .forPorts shedForCritical allPorts s

end Sys2Proof.Machine
end

section
/-! SUPPORT. The Claim Table's operations are made of moves. -/

namespace Sys2Proof.Machine

/-! ## A change of line state reads neither the start state nor the Claim Table -/

/-- The state with the Start Controller and the Claim Table replaced. -/
def State.besides (c : Stc) (x : Clt) (s : State) : State := { s with stc := c, clt := x }

/-- A choice made alike on both sides. -/
theorem ite_besides {q : Prop} [Decidable q] (c : Stc) (x : Clt) {t u t' u' : State} (ht : t' = t.besides c x)
    (hu : u' = u.besides c x) : (if q then t' else u') = (if q then t else u).besides c x := by
  split
  · exact ht
  · exact hu

theorem raiseNotice_besides (c : Stc) (x : Clt) (k : Cause) (s : State) :
    raiseNotice k (s.besides c x) = (raiseNotice k s).besides c x := by
  unfold raiseNotice
  exact ite_besides c x rfl (ite_besides c x rfl (ite_besides c x rfl rfl))

theorem countPort_besides (c : Stc) (x : Clt) (p : PortId) (k : PortCounter) (n : Nat) (s : State) :
    countPort p k n (s.besides c x) = (countPort p k n s).besides c x := by
  rw [countPort_eq, countPort_eq]
  exact ite_besides c x (raiseNotice_besides c x _ (risePort p k n s)) rfl

theorem flushPort_besides (c : Stc) (x : Clt) (p : PortId) (s : State) :
    flushPort p (s.besides c x) = (flushPort p s).besides c x := by
  unfold flushPort
  dsimp only
  exact countPort_besides c x p _ _ { s with fst := _ }

theorem changeState_besides (c : Stc) (x : Clt) (p : PortId) (ns : LineState) (w l : Bool) (s : State) :
    changeState p ns w l (s.besides c x) = (changeState p ns w l s).besides c x := by
  have hleave : ∀ r : Port, (if (s.port p).lineState = .inService then
      { uscLeave p ((s.besides c x).setPort p r) with
        fst := { (uscLeave p ((s.besides c x).setPort p r)).fst with
          pull := tset (uscLeave p ((s.besides c x).setPort p r)).fst.pull p false } }
      else (s.besides c x).setPort p r) = (if (s.port p).lineState = .inService then
      { uscLeave p (s.setPort p r) with
        fst := { (uscLeave p (s.setPort p r)).fst with pull := tset (uscLeave p (s.setPort p r)).fst.pull p false } }
      else s.setPort p r).besides c x := fun r => ite_besides c x rfl rfl
  unfold changeState
  dsimp only
  have hport : (s.besides c x).port p = s.port p := rfl
  rw [hport, hleave]
  generalize (if (s.port p).lineState = .inService then _ else _ : State) = u
  have hflush : (if ns.flushes = true then flushPort p (u.besides c x) else u.besides c x) =
      (if ns.flushes = true then flushPort p u else u).besides c x := ite_besides c x (flushPort_besides c x p u) rfl
  rw [hflush]
  generalize (if ns.flushes = true then flushPort p u else u) = u
  have hshed : (if ns = .shed then countPort p .sheds 1 (u.besides c x) else u.besides c x) =
      (if ns = .shed then countPort p .sheds 1 u else u).besides c x := ite_besides c x (countPort_besides c x p _ _ u) rfl
  rw [hshed]
  exact ite_besides c x rfl rfl

/-- As many changes as a list of ports asks for. -/
theorem forPorts_besides (c : Stc) (x : Clt) {f : PortId → State → State}
    (h : ∀ p s, f p (s.besides c x) = (f p s).besides c x) (ps : List PortId) (s : State) :
    forPorts ps f (s.besides c x) = (forPorts ps f s).besides c x := by
  induction ps generalizing s with
  | nil => rfl
  | cons p ps ih => exact (congrArg (forPorts ps f) (h p s)).trans (ih (f p s))

theorem claimEntered_besides (c : Stc) (x : Clt) (b : BinderId) (s : State) :
    claimEntered b (s.besides c x) = (claimEntered b s).besides c x := by
  unfold claimEntered
  refine forPorts_besides c x (fun p u => ?_) _ _
  exact ite_besides c x (changeState_besides c x p _ _ _ u) rfl

/-! ## A claim enters the table, or leaves it (R32, R33) -/

theorem Leads.claimEntered (b : BinderId) (s : State) : Leads s (claimEntered b s) :=
  .forPorts (fun p t => .ite (fun h => .lineFrom h.2 (by decide) (by decide) (by simp)) fun _ => .refl t) allPorts s

theorem Leads.claimFreed (b : BinderId) (s : State) : Leads s (claimFreed b s) :=
  .forPorts (fun p t => .ite (fun h => .beginAttempt h.2 (by decide)) fun _ => .refl t) allPorts s


/-- What a change for a port establishes of it, and the changes for the others keep, holds after the changes for all. -/
theorem forPorts_establishes {Q : PortId → State → Prop} {f : PortId → State → State} (own : ∀ p t, Q p (f p t))
    (keeps : ∀ p q t, Q q t → Q q (f p t)) {ps : List PortId} {p : PortId} (h : p ∈ ps) (s : State) :
    Q p (forPorts ps f s) := by
  have hkeep : ∀ (qs : List PortId) (u : State), Q p u → Q p (forPorts qs f u) := by
    intro qs
    induction qs with
    | nil => exact fun _ => id
    | cons q qs ih => exact fun u hu => ih (f q u) (keeps q p u hu)
  induction ps generalizing s with
  | nil => simp at h
  | cons q qs ih =>
    obtain rfl | h := List.mem_cons.1 h
    · exact hkeep qs _ (own p s)
    · exact ih h (f q s)

/-- After its entry no port of the claimed binder is TRAINING (R32). -/
theorem claimEntered_training (b : BinderId) (s : State) (p : PortId) :
    ((claimEntered b s).port p).lineState = .training → ((claimEntered b s).port p).binder ≠ b := by
  unfold claimEntered
  refine forPorts_establishes (Q := fun p t => (t.port p).lineState = .training → (t.port p).binder ≠ b) (fun p t => ?_)
    (fun p q t => ?_) (mem_allPorts p) s
  · split
    · simp
    · next h => exact fun ht hb => h ⟨hb, ht⟩
  · intro hq
    split
    · rw [changeState_lineState_of, changeState_binder]
      split
      · exact fun h => absurd h (by decide)
      · exact hq
    · exact hq

/-- An entry and the own claim's context are written, and LSV is told where the binder becomes claimed or free. -/
theorem Leads.setClaim {s : State} (b : BinderId) (e : ClaimEntry) (c : Option (BinderId × ClaimStep))
    (lawful : ClaimLaw s → ClaimLaw { s with clt := { entries := tset s.clt.entries b e, own := c } }) :
    Leads s (setClaim b e (setOwnClaim c s)) := by
  have hwrite : (e.phase ≠ .free →
      s.claimed b = true ∨ ∀ p, (s.port p).lineState = .training → (s.port p).binder ≠ b) →
      Leads s { s with clt := { entries := tset s.clt.entries b e, own := c } } := fun held =>
    .of_move (.claim lawful held) (.of_ports rfl) rfl
  have hold : (setOwnClaim c s).claimed b = s.claimed b := rfl
  have hnew : ({ s with clt := { entries := tset s.clt.entries b e, own := c } } : State).claimed b =
      (e.phase != .free) := by simp [claimed_write]
  unfold Machine.setClaim
  dsimp only [Machine.setOwnClaim] at hold ⊢
  refine .ite (fun hclaimed => .ite (fun _ => hwrite fun _ => .inl hclaimed) fun hfree => ?_) fun _ =>
    .ite (fun _ => ?_) fun hfree => hwrite fun hphase => absurd (by simpa using hphase) (hnew ▸ hfree)
  · exact (hwrite fun hphase => absurd (by simpa using hphase) (hnew ▸ hfree)).trans (.claimFreed b _)
  · have hcommute := claimEntered_besides s.stc { entries := tset s.clt.entries b e, own := c } b s
    have hkeep : (Machine.claimEntered b s).besides s.stc { entries := tset s.clt.entries b e, own := c } =
      { Machine.claimEntered b s with clt := { entries := tset (Machine.claimEntered b s).clt.entries b e, own := c } } := by
      simp [State.besides]
    have hstate : Machine.claimEntered b { s with clt := { entries := tset s.clt.entries b e, own := c } } = _ :=
      hcommute.trans hkeep
    rw [hstate]
    have hclt : (Machine.claimEntered b s).clt = s.clt := by simp
    refine (Leads.claimEntered b s).trans ?_
    have htrain := claimEntered_training b s
    generalize Machine.claimEntered b s = u at hclt htrain ⊢
    refine .of_move (.claim (fun h => ?_) fun _ => .inr htrain) (.of_ports rfl) rfl
    rw [hclt]
    exact lawful (claimLaw_of_clt hclt.symm h)

end Sys2Proof.Machine
end

section
/-! SUPPORT. The placements on the control list and the rows of the Claim Table are made of moves. -/

namespace Sys2Proof.Machine

/-! ## The control list (R60, R61) -/

/-- The bounds of the control list (R60). -/
def CtrlBounds (l : List CtrlItem) : Prop :=
  l.countP CtrlItem.isAdvert ≤ 1 ∧ l.countP CtrlItem.isClaim ≤ 1 ∧ l.countP CtrlItem.isRelease ≤ 2

theorem controlLaw_iff (s : State) : ControlLaw s ↔ CtrlBounds s.bau.ctrl := Iff.rfl

theorem countP_any {q : CtrlItem → Bool} {l : List CtrlItem} (h : l.any q = false) : l.countP q = 0 :=
  List.countP_eq_zero.2 fun x hx => by simpa using List.any_eq_false.1 h x hx

theorem CtrlBounds.placeAdvert {l : List CtrlItem} (h : CtrlBounds l) (d w : Nat) (u : Supply) (j : Bool)
    (n : Byte) : CtrlBounds (ctrlPlaceAdvert (.advert d w u j n) l) := by
  obtain ⟨ha, hc, hr⟩ := h
  have hsort : ∀ q : CtrlItem → Bool, (∀ x, x.isAdvert = true → q x = q (.advert d w u j n)) → _ := fun q hq =>
    countP_replaceOrAppend CtrlItem.isAdvert q (.advert d w u j n) hq l
  unfold ctrlPlaceAdvert
  refine ⟨?_, ?_, ?_⟩ <;> rw [hsort _ (fun x hx => by cases x <;> simp_all [CtrlItem.isAdvert, CtrlItem.isClaim, CtrlItem.isRelease])] <;> split
  · exact ha
  · next hnone => simp [countP_any (by simpa using hnone), CtrlItem.isAdvert]
  all_goals simpa [CtrlItem.isClaim, CtrlItem.isRelease]

theorem CtrlBounds.placeClaim {l : List CtrlItem} (h : CtrlBounds l) (b : BinderId) (held : Bool) (d : Byte) :
    CtrlBounds (ctrlPlaceClaim (.claim b held d) l) := by
  obtain ⟨ha, hc, hr⟩ := h
  have hsort : ∀ q : CtrlItem → Bool, (∀ x, x.isClaim = true → q x = q (.claim b held d)) → _ := fun q hq =>
    countP_replaceOrAppend CtrlItem.isClaim q (.claim b held d) hq l
  unfold ctrlPlaceClaim
  refine ⟨?_, ?_, ?_⟩ <;> rw [hsort _ (fun x hx => by cases x <;> simp_all [CtrlItem.isAdvert, CtrlItem.isClaim, CtrlItem.isRelease])] <;> split
  case refine_2.isFalse hnone => simp [countP_any (by simpa using hnone), CtrlItem.isClaim]
  all_goals simpa [CtrlItem.isAdvert, CtrlItem.isRelease]

theorem CtrlBounds.removeClaim {l : List CtrlItem} (h : CtrlBounds l) (b : BinderId) : CtrlBounds (ctrlRemoveClaim b l) := by
  have hle : ∀ q, (ctrlRemoveClaim b l).countP q ≤ l.countP q := fun q => List.Sublist.countP_le List.filter_sublist
  obtain ⟨ha, hc, hr⟩ := h
  exact ⟨(hle _).trans ha, (hle _).trans hc, (hle _).trans hr⟩

theorem dropFirst_sublist (sort : CtrlItem → Bool) (l : List CtrlItem) : (dropFirst sort l).Sublist l := by
  induction l with
  | nil => exact List.Sublist.refl _
  | cons x xs ih =>
    unfold dropFirst
    split
    · exact List.sublist_cons_self x xs
    · exact ih.cons_cons x

theorem countP_dropFirst {sort : CtrlItem → Bool} {l : List CtrlItem} (h : 0 < l.countP sort) :
    (dropFirst sort l).countP sort + 1 = l.countP sort := by
  induction l with
  | nil => simp at h
  | cons x xs ih =>
    unfold dropFirst
    split
    · next hx => simp [hx]
    · next hx =>
      simp only [List.countP_cons, hx] at h ⊢
      exact ih h

theorem CtrlBounds.placeRelease {l : List CtrlItem} (h : CtrlBounds l) (b : BinderId) (retried : Bool) :
    CtrlBounds (ctrlPlaceRelease b retried l) := by
  obtain ⟨ha, hc, hr⟩ := h.removeClaim b
  unfold ctrlPlaceRelease
  dsimp only
  split
  · next hany =>
    have hsort : ∀ q : CtrlItem → Bool, (∀ x, CtrlItem.isReleaseFor b x = true → q x = q (.release b retried)) →
        (replaceOrAppend (CtrlItem.isReleaseFor b) (.release b retried) (ctrlRemoveClaim b l)).countP q =
          (ctrlRemoveClaim b l).countP q := fun q hq => by rw [countP_replaceOrAppend _ q _ hq, if_pos hany]
    refine ⟨?_, ?_, ?_⟩ <;> rw [hsort _ (fun x hx => by cases x <;> simp_all [CtrlItem.isAdvert, CtrlItem.isClaim, CtrlItem.isRelease, CtrlItem.isReleaseFor])] <;> assumption
  · split
    · next htwo =>
      have hle := fun q => (dropFirst_sublist CtrlItem.isRelease (ctrlRemoveClaim b l)).countP_le (p := q)
      have hdrop := countP_dropFirst (l := ctrlRemoveClaim b l) (sort := CtrlItem.isRelease) (by omega)
      refine ⟨?_, ?_, ?_⟩ <;> rw [List.countP_append] <;>
        simp only [List.countP_cons, List.countP_nil, CtrlItem.isAdvert, CtrlItem.isClaim, CtrlItem.isRelease]
      · exact (hle _).trans ha
      · exact (hle _).trans hc
      · simp
        omega
    · refine ⟨?_, ?_, ?_⟩ <;> rw [List.countP_append] <;>
        simp only [List.countP_cons, List.countP_nil, CtrlItem.isAdvert, CtrlItem.isClaim, CtrlItem.isRelease]
      · exact ha
      · exact hc
      · simp
        omega

theorem CtrlBounds.tail {x : CtrlItem} {l : List CtrlItem} (h : CtrlBounds (x :: l)) : CtrlBounds l := by
  have hle := fun q => (List.sublist_cons_self x l).countP_le (p := q)
  obtain ⟨ha, hc, hr⟩ := h
  exact ⟨(hle _).trans ha, (hle _).trans hc, (hle _).trans hr⟩

/-- A change of the control list within its bounds. -/
theorem Leads.modCtrl {f : List CtrlItem → List CtrlItem} (h : ∀ l, CtrlBounds l → CtrlBounds (f l)) (s : State) :
    Leads s (s.modCtrl f) :=
  .of_harmless { Harmless.refl s with control := h s.bau.ctrl } rfl rfl

theorem Leads.placeOwnClaim (b : BinderId) (held : Bool) (s : State) : Leads s (placeOwnClaim b held s) :=
  .modCtrl (fun _ h => h.placeClaim b held ownDuration) s

theorem Leads.placeRelease (b : BinderId) (retried : Bool) (s : State) : Leads s (placeRelease b retried s) :=
  .modCtrl (fun _ h => h.placeRelease b retried) s

/-! ## The own claim's context (R106 to R111) -/

/-- The own claim's context names an entry as its own (R99). -/
def OwnsEntry (c : Option (BinderId × ClaimStep)) (b : BinderId) : Prop := ∃ st, c = some (b, st) ∧ st ≠ .lost

theorem claimLaw_iff (s : State) :
    ClaimLaw s ↔ (∀ b, (s.claim b).own = true ↔ OwnsEntry s.clt.own b) ∧ ∀ b, (s.claim b).own = true → (s.claim b).phase ≠ .free :=
  Iff.rfl

/-- An entry and the context that are written in step keep the law of the claims. -/
theorem ClaimLaw.write {s : State} {b : BinderId} {e : ClaimEntry} {c : Option (BinderId × ClaimStep)} (h : ClaimLaw s)
    (hown : e.own = true ↔ OwnsEntry c b) (hphase : e.own = true → e.phase ≠ .free)
    (others : ∀ a, a ≠ b → (OwnsEntry c a ↔ OwnsEntry s.clt.own a)) :
    ClaimLaw { s with clt := { entries := tset s.clt.entries b e, own := c } } := by
  obtain ⟨hnames, hnotFree⟩ := h
  refine (claimLaw_iff _).2 ⟨fun a => ?_, fun a => ?_⟩ <;> simp only [State.claim, tget_tset] <;> split
  · next hab => exact hab ▸ hown
  · next hab => exact (hnames a).trans (others a (Ne.symm hab)).symm
  · exact hphase
  · exact hnotFree a

/-- The context is written alone. -/
theorem Leads.setOwnClaim {c : Option (BinderId × ClaimStep)} {s : State}
    (h : ∀ a, OwnsEntry c a ↔ OwnsEntry s.clt.own a) : Leads s (setOwnClaim c s) :=
  .of_harmless { Harmless.refl s with claims := fun hs => ⟨fun b => (hs.1 b).trans (h b).symm, hs.2⟩ } rfl rfl

/-! ## The rows of the Claim Table (R101 to R111) -/

theorem ownsEntry_none (b : BinderId) : ¬OwnsEntry none b := by simp [OwnsEntry]

theorem ownsEntry_some {b a : BinderId} {st : ClaimStep} : OwnsEntry (some (b, st)) a ↔ a = b ∧ st ≠ .lost := by
  simp only [OwnsEntry, Option.some.injEq, Prod.mk.injEq]
  constructor
  · rintro ⟨st', ⟨rfl, rfl⟩, h⟩
    exact ⟨rfl, h⟩
  · rintro ⟨rfl, h⟩
    exact ⟨st, ⟨rfl, rfl⟩, h⟩

/-- A peer's entry is written, or a vacant one, where the card has none of its own there. -/
theorem Leads.setOther {s : State} {b : BinderId} {e : ClaimEntry} (he : e.own = false)
    (hold : ClaimLaw s → ¬OwnsEntry s.clt.own b) : Leads s (Machine.setClaim b e s) :=
  .setClaim b e s.clt.own fun h => h.write (by simpa [he] using hold h) (by simp [he]) fun _ _ => Iff.rfl

/-- An entry that the law knows not to be the card's. -/
theorem not_ownsEntry {s : State} {b : BinderId} (h : (s.claim b).own = false) (hs : ClaimLaw s) :
    ¬OwnsEntry s.clt.own b := fun howns => by simp [(hs.1 b).2 howns] at h

theorem Leads.setPeerClaim {s : State} {b : BinderId} (h : (s.claim b).own = false) (y : StationId) (held : Bool)
    (duration : Byte) : Leads s (Machine.setClaim b (peerClaim y held duration) s) :=
  .setOther rfl (not_ownsEntry h)

/-- The card's own entry is written over by another one as its context ends or is lost. -/
theorem Leads.endOwnEntry {s : State} {b : BinderId} {e : ClaimEntry} {c : Option (BinderId × ClaimStep)}
    (he : e.own = false) (hc : ∀ a, ¬OwnsEntry c a) (hold : ClaimLaw s → ∀ a, OwnsEntry s.clt.own a → a = b) :
    Leads s (Machine.setClaim b e (Machine.setOwnClaim c s)) :=
  .setClaim b e c fun h => h.write (by simp [he, hc b]) (by simp [he])
    fun a hab => iff_of_false (hc a) fun ha => hab (hold h a ha)

theorem ownsEntry_unique {s : State} {b a : BinderId} (h : (s.claim b).own = true) (hs : ClaimLaw s)
    (ha : OwnsEntry s.clt.own a) : a = b := by
  obtain ⟨st, hst, -⟩ := (hs.1 b).1 h
  rw [hst, ownsEntry_some] at ha
  exact ha.1

theorem Leads.withdraw {s : State} {b : BinderId} {e : ClaimEntry} (he : e.own = false)
    (hold : ClaimLaw s → ∀ a, OwnsEntry s.clt.own a → a = b) : Leads s (Machine.setClaim b e (withdrawClaim b s)) :=
  (Leads.modCtrl (fun _ h => h.removeClaim b) s).trans (.endOwnEntry (s := s.modCtrl (ctrlRemoveClaim b)) he ownsEntry_none hold)

theorem Leads.meetPeerClaim {s : State} {b : BinderId} (h : (s.claim b).own = false) (x y : StationId) (held : Bool)
    (duration : Byte) : Leads s (meetPeerClaim b x y held duration s) := by
  unfold Machine.meetPeerClaim
  dsimp only
  have hclash : Leads s (if ((s.claim b).phase == .held && held) = true then Machine.noteClash s else s) :=
    .ite (fun _ => .noteClash s) fun _ => .refl s
  have hclt : (if ((s.claim b).phase == .held && held) = true then Machine.noteClash s else s).clt = s.clt := by
    split
    · simp
    · rfl
  generalize (if ((s.claim b).phase == .held && held) = true then Machine.noteClash s else s) = u at hclash hclt ⊢
  exact .ite (fun _ => hclash) fun _ => hclash.trans (.setPeerClaim (by simpa [State.claim, hclt] using h) y held duration)

theorem Leads.meetOwnClaim {s : State} {b : BinderId} (h : (s.claim b).own = true) (y : StationId) (held : Bool)
    (duration : Byte) : Leads s (meetOwnClaim b y held duration s).1 := by
  unfold Machine.meetOwnClaim
  dsimp only
  split
  · split
    · exact .refl s
    · exact .withdraw rfl fun hs a => ownsEntry_unique h hs
  · split
    · exact .placeOwnClaim b true s
    · have hclt : (Machine.noteClash s).clt = s.clt := by simp
      have hclash := Leads.noteClash s
      generalize Machine.noteClash s = u at hclash hclt ⊢
      split
      · exact hclash.trans (.placeOwnClaim b true u)
      · have hu : (u.claim b).own = true := by simpa [State.claim, hclt] using h
        exact hclash.trans (.endOwnEntry rfl (by simp [ownsEntry_some]) fun hs a => ownsEntry_unique hu hs)

theorem Leads.takeClaim (y : StationId) (b : BinderId) (held : Bool) (duration : Byte) (s : State) :
    Leads s (takeClaim y b held duration s).1 := by
  unfold Machine.takeClaim
  dsimp only
  split
  · next hfree => exact .setOther rfl fun hs howns => hs.2 b ((hs.1 b).2 howns) hfree
  · split
    · next hown => exact .meetOwnClaim hown y held duration
    · next hown =>
      have hpeer : (s.claim b).own = false := by simpa using hown
      split
      · split
        · exact .setPeerClaim hpeer y held duration
        · exact .meetPeerClaim hpeer _ y held duration
      · exact .setPeerClaim hpeer y held duration

theorem Leads.takeRelease (y : StationId) (b : BinderId) (s : State) : Leads s (takeRelease y b s) :=
  .ite (fun h => .setOther rfl (not_ownsEntry h.2.1)) fun _ => .refl s

theorem Leads.expireClaim (b : BinderId) (s : State) : Leads s (expireClaim b s) := by
  refine .ite (fun h => .setOther rfl (not_ownsEntry ?_)) fun _ => .refl s
  simp only [ClaimEntry.runsOut, Bool.and_eq_true, Bool.not_eq_true'] at h
  exact h.1.2

theorem Leads.fold {α : Type} {f : State → α → State} (h : ∀ x t, Leads t (f t x)) (xs : List α) (s : State) :
    Leads s (xs.foldl f s) := by
  induction xs generalizing s with
  | nil => exact .refl s
  | cons x xs ih => exact (h x s).trans (ih (f s x))

/-- The remaining times of the peers' claims fall (R104). -/
theorem Leads.tick (s : State) :
    Leads s { s with clt := { s.clt with entries := s.clt.entries.map ClaimEntry.tick } } := by
  have hentry : ∀ b, tget (s.clt.entries.map ClaimEntry.tick) b = (s.claim b).tick := fun b => by simp [tget, State.claim]
  have hkeep : ∀ e : ClaimEntry, e.tick.phase = e.phase ∧ e.tick.own = e.own := fun e => by
    unfold ClaimEntry.tick
    split <;> exact ⟨rfl, rfl⟩
  refine .of_harmless { Harmless.refl s with phase := fun b => ?_, claims := fun hs => ?_ } rfl rfl
  · simp [State.claim, hentry, hkeep]
  · refine ⟨fun b => ?_, fun b => ?_⟩ <;> simp only [State.claim, hentry, hkeep]
    · exact hs.1 b
    · exact hs.2 b

theorem Leads.idleTick (s : State) : Leads s (idleTick s) :=
  (Leads.fold (fun b t => .expireClaim b t) allBinders s).trans (.tick _)

theorem Leads.requestClaim {s t : State} {b : BinderId} (h : requestClaim b s = some t) : Leads s t := by
  unfold Machine.requestClaim at h
  split at h
  · next hnone =>
    cases h
    refine (Leads.placeOwnClaim b false s).trans (.setClaim (s := Machine.placeOwnClaim b false s) b _ (some (b, .sending))
      fun hs => hs.write ?_ ?_ fun a hab => ?_)
    · simp [ownClaim, ownsEntry_some]
    · simp [ownClaim]
    · rw [ownsEntry_some]
      exact iff_of_false (fun h => hab h.1) (hnone.1 ▸ ownsEntry_none a)
  · cases h

theorem Leads.claimSent (ok : Bool) (b : BinderId) (held : Bool) (s : State) : Leads s (claimSent ok b held s).1 := by
  unfold Machine.claimSent
  split
  · next h =>
    split
    · exact .setOwnClaim fun a => by simp [h.2, ownsEntry_some]
    · refine .withdraw rfl fun _ a ha => ?_
      rw [h.2, ownsEntry_some] at ha
      exact ha.1
  · exact .refl s

theorem Leads.settleExpires (s : State) : Leads s (settleExpires s).1 := by
  unfold Machine.settleExpires
  split
  · next b hown =>
    refine (Leads.placeOwnClaim b true s).trans (.setClaim (s := Machine.placeOwnClaim b true s) b _ (some (b, .held))
      fun hs => hs.write ?_ ?_ fun a hab => ?_)
    · simp [ownClaim, ownsEntry_some]
    · simp [ownClaim]
    · have hctx : (Machine.placeOwnClaim b true s).clt.own = some (b, .settling) := hown
      rw [hctx]
      simp [ownsEntry_some]
  · exact .refl s

theorem Leads.renewalExpires (s : State) : Leads s (renewalExpires s) := by
  unfold Machine.renewalExpires
  split
  · exact .placeOwnClaim _ true s
  · exact .refl s

theorem Leads.giveUpClaim (s : State) : Leads s (giveUpClaim s) := by
  have hrelease : ∀ b st, s.clt.own = some (b, st) →
      Leads s (Machine.setClaim b ClaimEntry.vacant (Machine.placeRelease b false (Machine.setOwnClaim none s))) := by
    intro b st hown
    refine (Leads.placeRelease b false s).trans (.endOwnEntry (s := Machine.placeRelease b false s) rfl ownsEntry_none
      fun _ a ha => ?_)
    have hctx : (Machine.placeRelease b false s).clt.own = some (b, st) := hown
    rw [hctx, ownsEntry_some] at ha
    exact ha.1
  unfold Machine.giveUpClaim
  split
  · exact .refl s
  · next b hown =>
    refine .ite (fun _ => .withdraw rfl fun _ a ha => ?_) fun _ => hrelease b _ hown
    rw [hown, ownsEntry_some] at ha
    exact ha.1
  · next b hown => exact hrelease b _ hown
  · next b hown => exact hrelease b _ hown
  · next b hown =>
    refine (Leads.setOwnClaim fun a => ?_).trans (.placeRelease b false _)
    simp [hown, ownsEntry_some, ownsEntry_none]

end Sys2Proof.Machine
end

section
/-! SUPPORT. The operations of the Test Sequencer and of the Measurement Unit are made of moves. -/

namespace Sys2Proof.Machine

/-! ## Changes of the sequencer and of the Measurement Unit alone -/

/-- Two states that differ in the sequencer and the Measurement Unit alone. -/
def OnlyTests (s t : State) : Prop := ∃ x m, t = { s with tsq := x, msu := m }

theorem OnlyTests.refl (s : State) : OnlyTests s s := ⟨_, _, rfl⟩

theorem OnlyTests.trans {s t u : State} (h : OnlyTests s t) (k : OnlyTests t u) : OnlyTests s u := by
  obtain ⟨x, m, rfl⟩ := h
  obtain ⟨y, n, rfl⟩ := k
  exact ⟨y, n, rfl⟩

theorem OnlyTests.ite {c : Prop} [Decidable c] {s t u : State} (ht : OnlyTests s t) (hu : OnlyTests s u) :
    OnlyTests s (if c then t else u) := by
  split
  · exact ht
  · exact hu

theorem OnlyTests.setRunning (r : Option Running) (s : State) : OnlyTests s (setRunning r s) := ⟨_, _, rfl⟩

theorem OnlyTests.msu (m : Msu) (s : State) : OnlyTests s { s with msu := m } := ⟨_, _, rfl⟩

theorem OnlyTests.grantConverter (s : State) : OnlyTests s (grantConverter s) := by
  unfold Machine.grantConverter
  refine .ite (.refl s) (.ite (.msu _ s) (.ite ?_ (.refl s)))
  unfold atGrant
  split <;> exact .msu _ s

theorem OnlyTests.releaseStage (s : State) : OnlyTests s (releaseStage s) := .msu _ s

theorem OnlyTests.stopStage (s : State) : OnlyTests s (stopStage s) :=
  (OnlyTests.releaseStage s).trans (.grantConverter _)

theorem OnlyTests.startStage (st : Stage) (tone : Option ToneSpec) (s : State) : OnlyTests s (startStage st tone s) := by
  unfold Machine.startStage
  split
  case h_6 =>
    split
    · exact .msu _ s
    · exact .refl s
  all_goals exact .msu _ s

@[simp] theorem grantConverter_run (s : State) : (grantConverter s).msu.run = s.msu.run := by
  unfold grantConverter
  split
  · rfl
  · split
    · rfl
    · split
      · unfold atGrant
        split <;> rfl
      · rfl

@[simp] theorem stopStage_run (s : State) : (stopStage s).msu.run = .none := by simp [stopStage, releaseStage]

/-- Such a change, where it keeps the law of the stages and the port that is taken, adds no running test, and keeps the ports
of the queue and of the running test apart. -/
theorem Leads.tests {s t : State} (h : OnlyTests s t) (stage : StageLaw s → t.taken = s.taken ∧ StageLaw t)
    (origin : t.tsq.running ≠ none → s.tsq.running ≠ none ∨ s.stc.startState = .running) (once : OnceLaw s → OnceLaw t) :
    Leads s t := by
  obtain ⟨x, m, rfl⟩ := h
  exact .of_harmless { Harmless.refl s with stage := stage, origin := origin, once := once } rfl rfl

/-- The request and the sequencer's state of the running test. -/
def State.underTest (s : State) : Option (TestReq × SeqState) := s.tsq.running.map fun r => (r.req, r.st)

theorem taken_of_underTest {s t : State} (h : t.underTest = s.underTest) : t.taken = s.taken := by
  have htaken : ∀ u : State, u.taken = u.underTest.bind fun x => if x.2 = .claiming then none else some x.1.port := by
    intro u
    unfold State.taken State.underTest
    cases u.tsq.running <;> rfl
  rw [htaken, htaken, h]

theorem measuring_of_underTest {s : State} :
    (∃ run, s.tsq.running = some run ∧ run.st = .measuring) ↔ ∃ q, s.underTest = some (q, .measuring) := by
  unfold State.underTest
  cases h : s.tsq.running with
  | none => simp
  | some r => simp [eq_comm]

/-- A change that leaves the queue, the request and the state of the running test, and starts no stage where none ran. -/
theorem Leads.sameTest {s t : State} (h : OnlyTests s t) (queue : t.tsq.queue = s.tsq.queue)
    (test : t.underTest = s.underTest) (run : t.msu.run ≠ .none → s.msu.run ≠ .none) : Leads s t := by
  refine .tests h (fun hs => ⟨taken_of_underTest test, fun ht => ?_⟩) (fun ht => .inl fun hs => ht ?_) fun hs => ?_
  · have hmeasuring := hs (run ht)
    rwa [measuring_of_underTest, test, ← measuring_of_underTest]
  · simpa [State.underTest, hs] using test
  · have hreq : t.tsq.running.map Running.req = s.tsq.running.map Running.req := by
      have hfst := congrArg (Option.map Prod.fst) test
      simpa [State.underTest, Function.comp_def] using hfst
    rwa [OnceLaw, queue, hreq]

/-- A change of the Measurement Unit alone that starts no stage where none ran. -/
theorem Leads.msu {s : State} {m : Msu} (run : m.run ≠ .none → s.msu.run ≠ .none) : Leads s { s with msu := m } :=
  .sameTest (.msu m s) rfl rfl run

theorem Leads.grantConverter (s : State) : Leads s (grantConverter s) :=
  .sameTest (.grantConverter s) (by simp) (by simp [State.underTest]) (by simp)

theorem Leads.stopStage (s : State) : Leads s (stopStage s) :=
  .sameTest (.stopStage s) (by simp) (by simp [State.underTest]) (by simp)

/-- The context is written with the request and the state that it had. -/
theorem Leads.setRunning {s : State} {r r' : Running} (h : s.tsq.running = some r) (req : r'.req = r.req)
    (st : r'.st = r.st) : Leads s (setRunning (some r') s) :=
  .sameTest (.setRunning _ s) rfl (by simp [State.underTest, h, req, st]) id

/-! ## The ends of a test (R121 to R128) -/

/-- RESTORING is entered from a state that the stop of a stage and the writes of the context have made. -/
theorem Leads.enterRestoring {s u : State} {r r' : Running} (h : OnlyTests s u) (hs : s.tsq.running = some r)
    (hu : u.tsq.running = some r') (queue : u.tsq.queue = s.tsq.queue) (req : r'.req = r.req)
    (taken : StageLaw s → r.st ≠ .claiming) (stopped : StageLaw s → u.msu.run = .none) :
    Leads s (enterRestoring u) := by
  have hrestoring : Machine.enterRestoring u = Machine.openTest r'.req.port
      (Machine.setRunning (some { r' with
        st := .restoring, stage := none, deadTimer := true, outcome := some (decideOutcome r') }) u) := by
    simp only [Machine.enterRestoring, hu]
    rfl
  rw [hrestoring]
  refine Leads.trans (.tests (h.trans (.setRunning _ u)) (fun hlaw => ⟨?_, fun hne => ?_⟩) (fun _ => .inl ?_) fun honce => ?_)
    (.openTest _ _)
  · simp [State.taken, hs, req, taken hlaw]
  · exact absurd (stopped hlaw) hne
  · simp [hs]
  · simpa [OnceLaw, queue, hs, req] using honce

/-- The port learns from its test (R15). -/
theorem Leads.learn (parts : Parts) (p : PortId) (s : State) : Leads s (s.modPort p (Port.learn parts)) := by
  have hlearn : ∀ r : Port, Port.learn parts r =
      { r with loopEst := (Port.learn parts r).loopEst, testCeiling := (Port.learn parts r).testCeiling } := by
    intro r
    unfold Port.learn
    dsimp only
    split <;> split <;> rfl
  refine .modPort ?_ ?_ ?_ ?_ ?_ <;>
    · intro r
      rw [hlearn]

theorem Leads.noticesOfEnd (o : TestOutcome) (s : State) : Leads s (noticesOfEnd o s) := by
  unfold Machine.noticesOfEnd
  dsimp only
  split
  · exact (Leads.raiseNotice _ s).trans (.raiseNotice _ _)
  · exact (Leads.raiseNotice _ s).trans (.raiseNotice _ _)
  all_goals exact .raiseNotice _ s

/-- The port of the running test leaves TESTING as the test ends (R128). -/
theorem Opens.portAfterTest (r : Running) (o : TestOutcome) (s : State) : Opens s (portAfterTest r o s) := by
  obtain ⟨-, h⟩ | ⟨htesting, ns, w, -, -, h⟩ := portAfterTest_cases r o s <;> rw [h]
  · exact .refl s
  · exact .changeState fun hheld hlaw => absurd htesting (hlaw _ hheld).1

theorem Leads.testEnd {s : State} {r : Running} (o : TestOutcome) (h : s.tsq.running = some r)
    (stopped : r.st = .measuring → s.msu.run = .none) :
    Leads s (Machine.setRunning none (portAfterTest r o s)) :=
  .of_move (.testEnd o h stopped) ((Opens.portAfterTest r o s).trans (.of_ports rfl)) (by simp)

/-- The record of the ended test is stored (R127). -/
theorem Leads.storeResult (p : PortId) (rec : Option TestRecord) (s : State) :
    Leads s { s with tsq := { s.tsq with results := tset s.tsq.results p rec } } :=
  .sameTest ⟨_, _, rfl⟩ rfl rfl id

/-- The end of a test after its claim was given up (R128). -/
theorem Leads.afterClaim {s : State} {r : Running} (o : TestOutcome) (h : s.tsq.running = some r)
    (stopped : r.st = .measuring → s.msu.run = .none) :
    Leads s (Machine.setRunning none
      { portAfterTest r o (Machine.noticesOfEnd o (({ s with tsq := { s.tsq with
          results := tset s.tsq.results r.req.port (some (recordOf r o)) } } : State).modPort r.req.port (Port.learn r.parts)))
        with msu := { (portAfterTest r o (Machine.noticesOfEnd o (({ s with tsq := { s.tsq with
          results := tset s.tsq.results r.req.port (some (recordOf r o)) } } : State).modPort r.req.port
          (Port.learn r.parts)))).msu with hazardArmed := false } }) := by
  refine (Leads.storeResult r.req.port (some (recordOf r o)) s).trans ?_
  have hrun : ({ s with tsq := { s.tsq with
      results := tset s.tsq.results r.req.port (some (recordOf r o)) } } : State).tsq.running = some r := h
  have hmsu : ({ s with tsq := { s.tsq with
      results := tset s.tsq.results r.req.port (some (recordOf r o)) } } : State).msu = s.msu := rfl
  generalize ({ s with tsq := { s.tsq with
      results := tset s.tsq.results r.req.port (some (recordOf r o)) } } : State) = u at hrun hmsu ⊢
  refine (Leads.learn r.parts r.req.port u).trans ((Leads.noticesOfEnd o _).trans ?_)
  have hrun' : (Machine.noticesOfEnd o (u.modPort r.req.port (Port.learn r.parts))).tsq.running = some r := by simpa
  have hmsu' : (Machine.noticesOfEnd o (u.modPort r.req.port (Port.learn r.parts))).msu = s.msu := by simpa
  generalize Machine.noticesOfEnd o (u.modPort r.req.port (Port.learn r.parts)) = v at hrun' hmsu' ⊢
  exact (Leads.testEnd o hrun' (hmsu'.symm ▸ stopped)).trans (.msu (s := Machine.setRunning none (portAfterTest r o v)) id)

theorem Leads.endTest {s : State} (stopped : ∀ r, s.tsq.running = some r → r.st = .measuring → s.msu.run = .none) :
    Leads s (endTest s) := by
  unfold Machine.endTest
  split
  · exact .refl s
  · next r hr =>
    dsimp only
    split
    · refine (Leads.giveUpClaim s).trans (.afterClaim _ ?_ ?_)
      · simpa using hr
      · simpa using stopped r hr
    · exact .afterClaim _ hr (stopped r hr)

/-- The running context after the stage was stopped and its tone minutes stored (R122, R123). -/
theorem withToneMinutes_req_st (run : StageRun) (r : Running) :
    (withToneMinutes run r).req = r.req ∧ (withToneMinutes run r).st = r.st := by
  unfold withToneMinutes
  split <;> exact ⟨rfl, rfl⟩

theorem Leads.hazardShutdown (s : State) : Leads s (hazardShutdown s) := by
  unfold Machine.hazardShutdown
  split
  · exact .refl s
  · next r hr =>
    obtain ⟨hreq, hst⟩ := withToneMinutes_req_st s.msu.run r
    have hstopped : (Machine.stopStage s).tsq.running = some r := by simpa using hr
    refine (Leads.stopStage s).trans ((Leads.setRunning hstopped (by exact hreq) (by exact hst)).trans
      ((Leads.openTest _ _).trans (.endTest fun r' _ _ => ?_)))
    simp

theorem Leads.abortTest (cause : AbortCause) (s : State) : Leads s (abortTest cause s) := by
  unfold Machine.abortTest
  split
  · exact .refl s
  · next r hr =>
    have hnotMeasuring : r.st ≠ .measuring → StageLaw s → s.msu.run = .none := fun hst hlaw => by_contra fun hne => by
      obtain ⟨r', hr', hmeasuring⟩ := hlaw hne
      cases hr.symm.trans hr'
      exact hst hmeasuring
    split
    · next hst =>
      refine (Leads.setRunning (r' := { r with abort := some cause }) hr rfl rfl).trans (.endTest fun r' hr' hmeasuring => ?_)
      cases hr'
      exact absurd (hst.symm.trans hmeasuring) (by decide)
    · next hst =>
      exact .enterRestoring (r' := { r with abort := some cause }) (.setRunning _ s) hr rfl rfl rfl (fun _ => by simp [hst])
        (hnotMeasuring (by simp [hst]))
    · next hst =>
      obtain ⟨hreq, -⟩ := withToneMinutes_req_st s.msu.run r
      exact .enterRestoring (r' := { withToneMinutes s.msu.run r with abort := some cause })
        ((OnlyTests.stopStage s).trans (.setRunning _ _)) hr rfl (by simp) hreq (fun _ => by simp [hst]) (fun _ => by simp)
    · exact .refl s

/-! ## The claim's words to the sequencer (R118, R125) -/

/-- The running test takes its port, whose service relay opens (R119). -/
theorem Opens.enterIsolating {s : State} {r : Running} (h : s.tsq.running = some r) : Opens s (Machine.enterIsolating s) := by
  rw [enterIsolating_eq h]
  have hport : ∀ q, (openService r.req.port (Machine.changeState r.req.port .testing false false s)).port q =
      if r.req.port = q then
        { (Machine.changeState r.req.port .testing false false s).port q with serviceClosed := false, serviceHeld := false }
      else (Machine.changeState r.req.port .testing false false s).port q := by
    intro q
    simp only [openService, State.modPort, setPort_port]
    split
    · next hq => rw [hq]
    · rfl
  refine ⟨fun q hq => ?_, fun q hq => ?_, fun hlaw q hq => ?_⟩ <;> rw [setRunning_port, hport] at hq
  · split at hq
    · simp at hq
    · simpa using hq
  · split at hq <;> simpa using hq
  · rw [setRunning_port, hport]
    split at hq
    · simp at hq
    · next hne =>
      rw [if_neg hne, changeState_lineState_of, if_neg (Ne.symm hne)]
      exact hlaw q (by simpa using hq)

theorem Leads.enterIsolating {s : State} {r : Running} (h : s.tsq.running = some r) (claiming : r.st = .claiming) :
    Leads s (enterIsolating s) :=
  .of_move (.isolate h claiming) (.enterIsolating h) (by simp)

theorem insertByArrival_perm (q : TestReq) (l : List TestReq) : (insertByArrival q l).Perm (q :: l) := by
  induction l with
  | nil => exact List.Perm.refl _
  | cons x xs ih =>
    unfold insertByArrival
    split
    · exact List.Perm.refl _
    · exact (ih.cons x).trans (List.Perm.swap q x xs)

theorem Leads.claimLost (s : State) : Leads s (claimLost s) := by
  unfold Machine.claimLost
  split
  · exact .refl s
  · next r hr =>
    refine .ite (fun hst => .tests ⟨_, _, rfl⟩ (fun hlaw => ⟨?_, fun hne => ?_⟩) (by simp) fun honce => ?_) fun _ => .refl s
    · simp [State.taken, hr, hst]
    · obtain ⟨r', hr', hmeasuring⟩ := hlaw hne
      cases hr.symm.trans hr'
      exact absurd (hst.symm.trans hmeasuring) (by decide)
    · have hperm : ((insertByArrival r.req s.tsq.queue).map TestReq.port).Perm
          ((s.tsq.queue ++ [r.req]).map TestReq.port) :=
        ((insertByArrival_perm r.req s.tsq.queue).trans (List.perm_append_singleton _ _).symm).map _
      have hqueue : ((s.tsq.queue ++ [r.req]).map TestReq.port).Nodup := by simpa [OnceLaw, hr] using honce
      simpa [OnceLaw] using hperm.nodup_iff.2 hqueue

theorem Leads.claimHeld (s : State) : Leads s (claimHeld s) := by
  unfold Machine.claimHeld
  split
  · exact .refl s
  · next r hr => exact .ite (fun hst => .enterIsolating hr hst) fun _ => .refl s

theorem Leads.claimClashed (s : State) : Leads s (claimClashed s) := by
  unfold Machine.claimClashed
  split
  · exact .refl s
  · next r hr =>
    dsimp only
    have hclash : Leads s (Machine.setRunning (some { r with clash := true }) s) := .setRunning hr rfl rfl
    split
    · next hst _ =>
      refine .ite (fun _ => ?_) fun _ => hclash
      exact .enterRestoring (r' := { r with clash := true }) ((OnlyTests.setRunning _ s).trans (.stopStage _)) hr (by simp)
        (by simp) rfl (fun _ => by simp [hst]) (fun _ => by simp)
    · exact hclash

theorem Leads.tellSequencer {s : State} {w : State × ClaimWord} (h : Leads s w.1) : Leads s (tellSequencer w) := by
  unfold Machine.tellSequencer
  split
  · exact h
  · exact h.trans (.claimHeld _)
  · exact h.trans (.claimLost _)
  · exact h.trans (.claimClashed _)

/-! ## The start choice and the requests (R113 to R117) -/

/-- A request that the start choice takes becomes the running test, in CLAIMING (R117). -/
theorem Leads.takeTest {s : State} {q : TestReq} {n : Nat} (hq : q ∈ s.tsq.queue) (idle : s.tsq.running = none)
    (running : s.stc.startState = .running) :
    Leads s { s with tsq := { s.tsq with queue := s.tsq.queue.erase q, seq := n, running := some (newRunning q n) } } := by
  refine .tests ⟨_, _, rfl⟩ (fun hlaw => ⟨?_, fun hne => ?_⟩) (fun _ => .inr running) fun honce => ?_
  · simp [State.taken, idle, newRunning]
  · obtain ⟨r', hr', -⟩ := hlaw hne
    simp [idle] at hr'
  · have hperm : ((s.tsq.queue.erase q ++ [q]).map TestReq.port).Perm (s.tsq.queue.map TestReq.port) :=
      ((List.perm_append_singleton _ _).trans (List.perm_cons_erase hq).symm).map _
    have hqueue : (s.tsq.queue.map TestReq.port).Nodup := by simpa [OnceLaw, idle] using honce
    simpa [OnceLaw, newRunning] using hperm.nodup_iff.2 hqueue

theorem Leads.startTest {s : State} {q : TestReq} (hq : q ∈ s.tsq.queue) (idle : s.tsq.running = none)
    (running : s.stc.startState = .running) : Leads s (startTest q s) := by
  unfold Machine.startTest
  dsimp only
  refine (Leads.takeTest hq idle running).trans (.ite (fun _ => ?_) fun _ => .enterIsolating rfl rfl)
  split
  · next h => exact .requestClaim h
  · exact .claimLost _

theorem Leads.startChoice (s : State) : Leads s (startChoice s) := by
  refine .ite (fun h => ?_) fun _ => .refl s
  split
  · next q hq => exact .startTest (List.mem_of_find?_eq_some hq) h.1 h.2
  · exact .refl s

theorem Leads.dequeuePort (p : PortId) (s : State) : Leads s (dequeuePort p s) := by
  refine .tests ⟨_, _, rfl⟩ (fun h => ⟨rfl, h⟩) .inl fun honce => ?_
  exact honce.sublist ((List.filter_sublist.append_right _).map _)

end Sys2Proof.Machine
end

section
/-! SUPPORT. The events of the stages, of the dead times and of the Supply Monitor are made of moves. -/

namespace Sys2Proof.Machine

/-! ## A stage's end (R120, R136 to R142) -/

/-- While a stage runs its test is lawfully in MEASURING (R120). -/
theorem StageLaw.not_claiming {s : State} {r : Running} (hlaw : StageLaw s) (hrun : s.msu.run ≠ .none)
    (hr : s.tsq.running = some r) : r.st ≠ .claiming := by
  obtain ⟨r', hr', hmeasuring⟩ := hlaw hrun
  cases hr.symm.trans hr'
  simp [hmeasuring]

/-- The running stage ends with its part stored, and the next one starts or RESTORING follows (R120). -/
theorem Leads.stageDone {s : State} {store : Running → Running} (hrun : s.msu.run ≠ .none)
    (hstore : ∀ r, (store r).req = r.req ∧ (store r).st = r.st) : Leads s (stageDone store s) := by
  unfold Machine.stageDone
  split
  · exact .refl s
  · next r hr =>
    obtain ⟨hreq, hst⟩ := hstore r
    have hreleased : OnlyTests s (Machine.setRunning (some (store r)) (releaseStage s)) :=
      (OnlyTests.releaseStage s).trans (.setRunning _ _)
    simp only [Machine.advance, setRunning_running]
    split
    · next n _ =>
      refine Leads.trans (.sameTest ((hreleased.trans (.setRunning _ _)).trans (.startStage n _ _)) ?_ ?_ fun _ => hrun)
        (.grantConverter _)
      · simp
      · simp [State.underTest, hr, hreq, hst]
    · refine Leads.trans (.enterRestoring hreleased hr rfl (by simp) hreq (fun hlaw => hlaw.not_claiming hrun hr) fun _ => ?_)
        (.grantConverter _)
      rfl

theorem Leads.fvDone {s : State} (v : Three VoltFigure) (hrun : s.msu.run ≠ .none) : Leads s (fvDone v s) := by
  unfold Machine.fvDone
  dsimp only
  refine .ite (fun _ => ?_) fun _ => .stageDone hrun fun _ => ⟨rfl, rfl⟩
  split
  · exact .refl s
  · next r hr =>
    refine Leads.trans (.setRunning hr ?_ ?_) (.hazardShutdown _) <;> rfl

theorem Leads.reflDone {s : State} (shots : List (Option Echo)) (hrun : s.msu.run ≠ .none) :
    Leads s (reflDone shots s) := by
  unfold Machine.reflDone
  split
  · exact .refl s
  · exact .stageDone hrun fun _ => ⟨rfl, rfl⟩

/-! ## The events of a stage (R133, R136 to R142) -/

theorem Leads.setRun {s : State} (x : StageRun) (hrun : s.msu.run ≠ .none) : Leads s (setRun x s) := .msu fun _ => hrun

theorem Leads.fvSample {s : State} (x : Int) (samples : List Int) (done : List VoltFigure) (hrun : s.msu.run ≠ .none) :
    Leads s (fvSample x samples done s) := by
  unfold Machine.fvSample
  dsimp only
  refine .ite (fun _ => .setRun _ hrun) fun _ => ?_
  split
  · exact .fvDone _ hrun
  · exact .msu fun _ => hrun

theorem Leads.insSample {s : State} (x : Int) (samples : List Int) (done : List InsFigure) (hrun : s.msu.run ≠ .none) :
    Leads s (insSample x samples done s) := by
  unfold Machine.insSample
  dsimp only
  refine .ite (fun _ => .setRun _ hrun) fun _ => ?_
  split
  · exact .stageDone hrun fun _ => ⟨rfl, rfl⟩
  · exact .msu fun _ => hrun

theorem Leads.noiseSample {s : State} (x : Int) (samples : List Int) (hrun : s.msu.run ≠ .none) :
    Leads s (noiseSample x samples s) :=
  .ite (fun _ => .setRun _ hrun) fun _ => .stageDone hrun fun _ => ⟨rfl, rfl⟩

theorem Leads.stageSampled (x : Int) (s : State) : Leads s (stageSampled x s) := by
  refine .ite (fun _ => ?_) fun _ => .refl s
  split
  · next h => exact .fvSample x _ _ (by simp [h])
  · next h => exact .insSample x _ _ (by simp [h])
  · next h => exact .noiseSample x _ (by simp [h])
  all_goals exact .refl s

theorem Leads.insulationSettled (s : State) : Leads s (insulationSettled s) := by
  unfold Machine.insulationSettled
  split
  · next h => exact .setRun _ (by simp [h])
  · exact .refl s

theorem Leads.dischargeEnds (s : State) : Leads s (dischargeEnds s) := by
  unfold Machine.dischargeEnds
  split
  · next h => exact .msu fun _ => by simp [h]
  · next h => exact .stageDone (by simp [h]) fun _ => ⟨rfl, rfl⟩
  · exact .refl s

theorem Leads.comparatorChanges (above : Bool) (tick : Nat) (s : State) : Leads s (comparatorChanges above tick s) :=
  .msu id

theorem Leads.capRunEnds {s : State} (v : CapPart) (hrun : s.msu.run ≠ .none) : Leads s (capRunEnds v s) :=
  .msu fun _ => hrun

theorem Leads.shotEnds {s : State} (n : Nat) (es : List (Option Echo)) (hrun : s.msu.run ≠ .none) :
    Leads s (shotEnds n es s) := by
  unfold Machine.shotEnds
  dsimp only
  have hend : Leads s { s with msu := { s.msu with
      run := .refl n es, drive := .off, capRunning := false, candidate := none } } := .msu fun _ => hrun
  exact .ite (fun _ => hend) fun _ => hend.trans (.reflDone es (by simp))

theorem Leads.crossingCounts (code : Int) (s : State) : Leads s (crossingCounts code s) := by
  unfold Machine.crossingCounts
  split
  · next h => exact .capRunEnds _ (by simp [h])
  · next h => exact .shotEnds _ _ (by simp [h])
  · exact .refl s

theorem Leads.captureLimitReached (s : State) : Leads s (captureLimitReached s) := by
  refine .ite (fun _ => ?_) fun _ => .refl s
  split
  · next h => exact .capRunEnds _ (by simp [h])
  · next h => exact .shotEnds _ _ (by simp [h])
  · exact .refl s

theorem Leads.blankingEnds (above : Bool) (s : State) : Leads s (blankingEnds above s) := by
  unfold Machine.blankingEnds
  split
  · exact .ite (fun _ => .msu id) fun _ => .refl s
  · exact .refl s

theorem Leads.launchShot (s : State) : Leads s (launchShot s) := by
  unfold Machine.launchShot
  split
  · next h => exact .ite (fun _ => .msu fun _ => by simp [h]) fun _ => .refl s
  · exact .refl s

theorem Leads.toneSteps (s : State) : Leads s (toneSteps s) := by
  unfold Machine.toneSteps
  split
  · next h => exact .msu fun _ => by simp [h]
  · exact .refl s

theorem Leads.toneExpires (s : State) : Leads s (toneExpires s) := by
  unfold Machine.toneExpires
  split
  · next h => exact .stageDone (by simp [h]) fun _ => ⟨rfl, rfl⟩
  · exact .refl s

theorem Leads.hazardReported (s : State) : Leads s (hazardReported s) := .ite (fun _ => .hazardShutdown s) fun _ => .refl s

theorem Leads.reportIfAbove (above : Bool) (s : State) : Leads s (reportIfAbove above s) :=
  .ite (fun _ => .hazardReported s) fun _ => .refl s

/-! ## The Supply Monitor (R143 to R148) -/

/-- A change of the Measurement Unit before which no stage is started, and the grant that follows it. -/
theorem Leads.msuGrant {s : State} {m : Msu} (run : m.run ≠ .none → s.msu.run ≠ .none) :
    Leads s (Machine.grantConverter { s with msu := m }) := (Leads.msu run).trans (.grantConverter _)

theorem Leads.requestSupply (s : State) : Leads s (requestSupply s) :=
  .ite (fun _ => .refl s) fun _ => .msuGrant id

/-- A change of the Supply Monitor but for the two supply states. -/
theorem Leads.smn {s : State} {m : Smn} (own : m.own = s.smn.own) (cabinet : m.cabinet = s.smn.cabinet) :
    Leads s { s with smn := m } := .of_harmless { Harmless.refl s with own := own, cabinet := cabinet } rfl rfl

theorem Leads.requestSample (s : State) : Leads s (requestSample s) :=
  (Leads.smn (m := { s.smn with sampleTimer := none }) rfl rfl).trans (.requestSupply _)

theorem Leads.mainsInputChanges (present : Bool) (s : State) : Leads s (mainsInputChanges present s) := by
  have hpins : Leads s { s with pins := { s.pins with mains := present } } :=
    .of_harmless { Harmless.refl s with } rfl rfl
  exact .ite (fun _ => hpins) fun _ => hpins.trans (.smn rfl rfl)

theorem Leads.debounceExpires (s : State) : Leads s (debounceExpires s) := by
  refine .ite (fun _ => ?_) fun _ => .refl s
  have hseen : Leads s { s with smn := { s.smn with mainsSeen := s.pins.mains, debounce := false } } := .smn rfl rfl
  exact .ite (fun _ => hseen.trans (.requestSample _)) fun _ => hseen

theorem Leads.sampleTimerExpires (s : State) : Leads s (sampleTimerExpires s) :=
  .ite (fun _ => .requestSample s) fun _ => .refl s

theorem Leads.releaseSupply (s : State) : Leads s (releaseSupply s) :=
  .ite (fun _ => .msuGrant id) fun _ => .grantConverter s

theorem Leads.supplyAborts (new : Supply) (s : State) : Leads s (supplyAborts new s) := by
  unfold Machine.supplyAborts
  split
  · exact .refl s
  · split
    · exact .abortTest .supply s
    · exact .ite (fun _ => .refl s) fun _ => .abortTest .supply s
    all_goals exact .refl s

end Sys2Proof.Machine
end

section
/-! SUPPORT. The share computation (R76 to R78). -/

namespace Sys2Proof.Machine

/-! ## The passes (R77) -/

theorem sumDemand_append (a b : List Sharer) : sumDemand (a ++ b) = sumDemand a + sumDemand b := by
  simp [sumDemand]

/-- The satisfied stations of one pass ask for no more than what remains. -/
theorem sumDemand_satisfied_le {r : Nat} {ss : List Sharer} (hw : ∀ j, j ∈ ss → 0 < j.weight) :
    sumDemand (ss.filter (satisfiedBy r (sumWeight ss))) ≤ r := by
  set wt := sumWeight ss with hwt
  set ok := ss.filter (satisfiedBy r wt) with hok
  have hprod : ∀ l : List Sharer, (∀ j, j ∈ l → satisfiedBy r wt j = true) → sumDemand l * wt ≤ r * sumWeight l := by
    intro l
    induction l with
    | nil => simp [sumDemand, sumWeight]
    | cons x xs ih =>
      intro h
      have hx : x.demand * wt ≤ r * x.weight := by simpa [satisfiedBy] using h x (by simp)
      have hxs := ih fun j hj => h j (by simp [hj])
      simp only [sumDemand, sumWeight, List.map_cons, List.sum_cons] at hxs ⊢
      rw [Nat.add_mul, Nat.mul_add]
      omega
  have hsub : sumWeight ok ≤ wt := ((List.filter_sublist (l := ss)).map Sharer.weight).sum_le_sum (by simp)
  obtain hnil | ⟨j, hj⟩ := List.eq_nil_or_concat ok |>.imp_right fun ⟨l, b, h⟩ => (⟨b, by simp [h]⟩ : ∃ j, j ∈ ok)
  · simp [hnil, sumDemand]
  · have hpos : 0 < wt := by
      have hmem : j ∈ ss := List.mem_of_mem_filter hj
      have hle : j.weight ≤ wt := List.single_le_sum (by simp) _ (List.mem_map_of_mem hmem)
      exact (hw j hmem).trans_le hle
    have hle : sumDemand ok * wt ≤ r * wt :=
      (hprod ok fun x hx => (List.mem_filter.1 hx).2).trans (Nat.mul_le_mul_left r hsub)
    exact Nat.le_of_mul_le_mul_right hle hpos

/-- Each pass that goes on leaves fewer stations. -/
theorem length_unsatisfied_lt {f : Sharer → Bool} {ss : List Sharer} (h : (ss.filter f).isEmpty ≠ true) :
    (ss.filter (fun x => !f x)).length < ss.length := by
  have hsplit := List.length_eq_length_filter_add (l := ss) f
  have hpos : 0 < (ss.filter f).length := List.length_pos_iff.2 fun hnil => h (by simp [hnil])
  omega

/-- What the passes end with: the stations are shared out between the two lists, and whoever is left failed the last test. -/
theorem passes_left (fuel : Nat) (done ss : List Sharer) (r : Nat) (hfuel : ss.length ≤ fuel) :
    ((passes fuel done ss r).satisfied ++ (passes fuel done ss r).left).Perm (done ++ ss) ∧
      ∀ j, j ∈ (passes fuel done ss r).left →
        (passes fuel done ss r).remainder * j.weight < j.demand * sumWeight (passes fuel done ss r).left := by
  induction fuel generalizing done ss r with
  | zero =>
    obtain rfl : ss = [] := List.eq_nil_of_length_eq_zero (by omega)
    exact ⟨List.Perm.refl _, by simp [passes]⟩
  | succ fuel ih =>
    unfold passes
    dsimp only
    split
    · next hnone =>
      refine ⟨List.Perm.refl _, fun j hj => ?_⟩
      have hfails : satisfiedBy r (sumWeight ss) j ≠ true := List.filter_eq_nil_iff.1 (List.isEmpty_iff.1 hnone) j hj
      simpa [satisfiedBy] using hfails
    · next hsome =>
      have hlen := length_unsatisfied_lt hsome
      obtain ⟨hperm, hleft⟩ := ih (done ++ ss.filter (satisfiedBy r (sumWeight ss)))
        (ss.filter fun x => !satisfiedBy r (sumWeight ss) x) (r - sumDemand (ss.filter (satisfiedBy r (sumWeight ss))))
        (by omega)
      refine ⟨hperm.trans ?_, hleft⟩
      rw [List.append_assoc]
      exact (List.filter_append_perm _ ss).append_left done

/-- The satisfied demands are taken from the remainder. -/
theorem passes_remainder (fuel : Nat) (done ss : List Sharer) (r : Nat) (hw : ∀ j, j ∈ ss → 0 < j.weight) :
    sumDemand (passes fuel done ss r).satisfied + (passes fuel done ss r).remainder = sumDemand done + r := by
  induction fuel generalizing done ss r with
  | zero => rfl
  | succ fuel ih =>
    unfold passes
    dsimp only
    split
    · rfl
    · have hle := sumDemand_satisfied_le (r := r) hw
      refine (ih _ _ _ fun j hj => hw j (List.mem_of_mem_filter hj)).trans ?_
      rw [sumDemand_append]
      omega

theorem computeShares_left (cWork : Nat) (ss : List Sharer) :
    ((computeShares cWork ss).satisfied ++ (computeShares cWork ss).left).Perm ss ∧
      ∀ j, j ∈ (computeShares cWork ss).left →
        (computeShares cWork ss).remainder * j.weight < j.demand * sumWeight (computeShares cWork ss).left := by
  unfold computeShares
  split
  · simp
  · exact passes_left ss.length [] ss cWork le_rfl

theorem computeShares_remainder {cWork : Nat} {ss : List Sharer} (hw : ∀ j, j ∈ ss → 0 < j.weight) :
    sumDemand (computeShares cWork ss).satisfied + (computeShares cWork ss).remainder = cWork := by
  unfold computeShares
  split
  · dsimp only
    omega
  · simpa [sumDemand] using passes_remainder ss.length [] ss cWork hw

/-! ## The allotments (R78) -/

/-- The remainder is handed out but for less than one block for each station left. -/
theorem allotments_bounds {r : Nat} {l : List Sharer} (h : l ≠ []) (hw : ∀ j, j ∈ l → 0 < j.weight) :
    (l.map fun j => r * j.weight / sumWeight l).sum ≤ r ∧
      r < (l.map fun j => r * j.weight / sumWeight l).sum + l.length := by
  have hpos : 0 < sumWeight l := by
    obtain ⟨j, hj⟩ := List.exists_mem_of_ne_nil l h
    exact (hw j hj).trans_le (List.single_le_sum (by simp) _ (List.mem_map_of_mem hj))
  generalize hwt : sumWeight l = wt at hpos
  have hsum : ∀ xs : List Sharer, (xs.map fun j => r * j.weight / wt).sum * wt ≤ r * sumWeight xs ∧
      r * sumWeight xs + xs.length ≤ ((xs.map fun j => r * j.weight / wt).sum + xs.length) * wt := by
    intro xs
    induction xs with
    | nil => simp [sumWeight]
    | cons x xs ih =>
      obtain ⟨hlow, hhigh⟩ := ih
      have hdiv := Nat.div_mul_le_self (r * x.weight) wt
      have hmod := Nat.lt_div_mul_add (a := r * x.weight) hpos
      simp only [sumWeight, List.map_cons, List.sum_cons, List.length_cons] at hlow hhigh ⊢
      constructor <;> nlinarith
  obtain ⟨hlow, hhigh⟩ := hsum l
  have hlen : 0 < l.length := List.length_pos_iff.2 h
  rw [hwt] at hlow hhigh
  refine ⟨Nat.le_of_mul_le_mul_right hlow hpos, Nat.lt_of_mul_lt_mul_right (a := wt) ?_⟩
  omega

/-- In a list of stations each once, the search for a station finds its entry. -/
theorem find_station {l : List Sharer} (h : (l.map Sharer.station).Nodup) {j : Sharer} (hj : j ∈ l) :
    l.find? (fun x => x.station == j.station) = some j := by
  induction l with
  | nil => simp at hj
  | cons x xs ih =>
    rw [List.map_cons, List.nodup_cons] at h
    obtain rfl | hj := List.mem_cons.1 hj
    · simp
    · have hne : x.station ≠ j.station := fun heq => h.1 (heq ▸ List.mem_map_of_mem hj)
      rw [List.find?_cons_of_neg (by simpa using hne)]
      exact ih h.2 hj

theorem find_no_station {l : List Sharer} {y : StationId} (h : ∀ j, j ∈ l → j.station ≠ y) :
    l.find? (fun x => x.station == y) = none :=
  List.find?_eq_none.2 fun x hx => by simpa using h x hx

/-- No station is granted more than the most that a station asks for under its number. -/
theorem grantOf_le {cWork n : Nat} {ss : List Sharer} {t : StationId} (h : ∀ j, j ∈ ss → j.station = t → j.demand ≤ n) :
    (computeShares cWork ss).grantOf t ≤ n := by
  obtain ⟨hperm, hleft⟩ := computeShares_left cWork ss
  have hdemand : ∀ j, j ∈ (computeShares cWork ss).satisfied ++ (computeShares cWork ss).left → (j.station == t) = true →
      j.demand ≤ n := fun j hj ht => h j (hperm.mem_iff.1 hj) (by simpa using ht)
  unfold Shares.grantOf
  split
  · next j hj =>
    have ht := List.find?_some hj
    exact hdemand j (List.mem_append_left _ (List.mem_of_find?_eq_some hj)) ht
  · split
    · next j hj =>
      have hmem := List.mem_of_find?_eq_some hj
      have ht := List.find?_some hj
      refine (Nat.le_of_lt (Nat.div_lt_of_lt_mul ?_)).trans (hdemand j (List.mem_append_right _ hmem) ht)
      rw [Nat.mul_comm (sumWeight _)]
      exact hleft j hmem
    · exact Nat.zero_le n

end Sys2Proof.Machine
end

section
/-! SUPPORT. The share computation's own statement. -/

namespace Sys2Proof.Machine

/-- Settles O33, by induction on the passes. -/
theorem sharesStayWithinCapacity : Obligations.SharesStayWithinCapacity := by
  unfold Obligations.SharesStayWithinCapacity
  intro cWork ss hw hnodup x
  obtain ⟨hperm, hleft⟩ := computeShares_left cWork ss
  have hsum := computeShares_remainder (cWork := cWork) hw
  have hx : computeShares cWork ss = x := rfl
  rw [hx] at hperm hsum hleft
  have hstations : ((x.satisfied ++ x.left).map Sharer.station).Nodup := (hperm.map _).nodup_iff.2 hnodup
  rw [List.map_append, List.nodup_append] at hstations
  obtain ⟨hsatisfied, hleftOnce, hapart⟩ := hstations
  have hwleft : ∀ j, j ∈ x.left → 0 < j.weight := fun j hj => hw j (hperm.mem_iff.1 (by simp [hj]))
  have hgrantLeft : ∀ j, j ∈ x.left → x.grantOf j.station = x.remainder * j.weight / sumWeight x.left := by
    intro j hj
    have hnone : x.satisfied.find? (fun i => i.station == j.station) = none :=
      find_no_station fun i hi heq => hapart _ (List.mem_map_of_mem hi) _ (List.mem_map_of_mem hj) heq
    simp only [Shares.grantOf, hnone, find_station hleftOnce hj, Shares.allotment]
  have hhanded : x.left ≠ [] → x.handedOut ≤ cWork ∧ cWork < x.handedOut + x.left.length := fun hne => by
    obtain ⟨hlow, hhigh⟩ := allotments_bounds (r := x.remainder) hne hwleft
    have hhanded : x.handedOut = sumDemand x.satisfied + (x.left.map fun j => x.remainder * j.weight / sumWeight x.left).sum :=
      rfl
    omega
  refine ⟨hperm, hsum, ?_, fun j hj => ?_, fun j hj => ⟨hleft j hj, hgrantLeft j hj, ?_⟩, fun hne => (hhanded hne).2,
    fun y hy => ?_⟩
  · by_cases hne : x.left = []
    · simp only [Shares.handedOut, hne, List.map_nil, List.sum_nil]
      omega
    · exact (hhanded hne).1
  · simp only [Shares.grantOf, find_station hsatisfied hj]
  · rw [hgrantLeft j hj]
    refine Nat.div_lt_of_lt_mul ?_
    rw [Nat.mul_comm (sumWeight x.left)]
    exact hleft j hj
  · have hnotSatisfied : x.satisfied.find? (fun j => j.station == y) = none :=
      find_no_station fun j hj => hy j (hperm.mem_iff.1 (List.mem_append_left _ hj))
    have hnotLeft : x.left.find? (fun j => j.station == y) = none :=
      find_no_station fun j hj => hy j (hperm.mem_iff.1 (List.mem_append_right _ hj))
    simp only [Shares.grantOf, hnotSatisfied, hnotLeft]

end Sys2Proof.Machine
end

section
/-! SUPPORT. The cabinet supply state, the Share Unit and the start are made of moves. -/

namespace Sys2Proof.Machine

/-! ## The cabinet supply state (R148) -/

/-- The peer table is written, and the Supply Monitor with it; the cabinet supply state follows (R148). -/
theorem Leads.recompute {s : State} {m : Smn} {peers : Tbl Peer 8} (joined : s.joined = true ∨ peers = s.shu.peers) :
    Leads s (recomputeCabinet { s with smn := m, shu := { s.shu with peers := peers } }) := by
  set u : State := { s with smn := m, shu := { s.shu with peers := peers } } with hu
  unfold recomputeCabinet
  dsimp only
  split
  · next hsame => exact .of_move (.supply joined fun _ => hsame.symm) (.of_ports rfl) rfl
  · have hwrite : Leads s { u with smn := { m with cabinet := worstSupply u } } :=
      .of_move (.supply joined fun _ => rfl) (.of_ports rfl) rfl
    exact hwrite.trans ((Leads.raiseNotice _ _).trans ((Leads.lsvSupply _ _).trans (.supplyAborts _ _)))

theorem Leads.recomputeOwn {s : State} (m : Smn) : Leads s (recomputeCabinet { s with smn := m }) :=
  .recompute (m := m) (peers := s.shu.peers) (.inr rfl)

theorem Leads.recomputePeer {s : State} (t : StationId) (e : Peer) (joined : s.joined = true) :
    Leads s (recomputeCabinet (setPeer t e s)) := .recompute (m := s.smn) (.inl joined)

theorem Leads.supplySampled (code : Nat) (s : State) : Leads s (supplySampled code s) := by
  refine .ite (fun _ => ?_) fun _ => .refl s
  set r := twoSample s.smn.own s.smn.differing (candidateOf s.cfg s.smn.own s.smn.mainsSeen (decivolts code))
  have hown : Leads s (if r.1 = s.smn.own then { s with smn := { s.smn with own := r.1, differing := r.2 } }
      else recomputeCabinet { s with smn := { s.smn with own := r.1, differing := r.2 } }) :=
    .ite (fun h => .smn h rfl) fun _ => .recomputeOwn _
  dsimp only
  generalize (if r.1 = s.smn.own then { s with smn := { s.smn with own := r.1, differing := r.2 } }
      else recomputeCabinet { s with smn := { s.smn with own := r.1, differing := r.2 } }) = u at hown ⊢
  exact hown.trans ((Leads.smn (m := { u.smn with sampleTimer := some (sampleInterval u.smn.own) }) rfl rfl).trans (.releaseSupply _))

/-! ## The peer table and the capacity notice (R71 to R73) -/

/-- A card counter's rise and a write of the peer table may change places. -/
theorem countCard_setPeer (c : CardCounter) (t : StationId) (e : Peer) (s : State) :
    countCard c (setPeer t e s) = setPeer t e (countCard c s) := by
  have hnotice : ∀ u : State, raiseNotice .counterSaturated (setPeer t e u) = setPeer t e (raiseNotice .counterSaturated u) := by
    intro u
    simp only [raiseNotice, apply_ite (setPeer t e)]
    rfl
  rw [countCard_eq, countCard_eq, apply_ite (setPeer t e), ← hnotice]
  rfl

theorem Leads.takeAdvert (t : StationId) (e : Peer) (s : State) : Leads s (takeAdvert t e s) := by
  refine .ite (fun hjoined => ?_) fun _ => .refl s
  dsimp only
  have hlast : ∀ u : State, u.joined = true → Leads u (recomputeCabinet (Machine.countCard .advertsHeard (setPeer t e u))) := by
    intro u hu
    rw [countCard_setPeer]
    exact (Leads.countCard .advertsHeard u).trans (.recomputePeer t e (by simpa [State.joined] using hu))
  split
  · exact (Leads.countCard .advertGaps s).trans (hlast _ (by simpa [State.joined] using hjoined))
  · exact hlast s hjoined

/-- A change of the Share Unit but for the peer table and the credit. -/
theorem Leads.shu {s : State} {x : Shu} (peers : x.peers = s.shu.peers) (credit : x.credit = s.shu.credit) :
    Leads s { s with shu := x } := .of_harmless { Harmless.refl s with peers := peers, credit := credit } rfl rfl

theorem Leads.takeCapacity (capacity : Nat) (s : State) : Leads s (takeCapacity capacity s) :=
  .ite (fun _ => .shu rfl rfl) fun _ => .refl s

theorem Leads.ageNotice (s : State) : Leads s (ageNotice s) := by
  unfold Machine.ageNotice
  split
  · exact .refl s
  · exact .ite (fun _ => .shu rfl rfl) fun _ => .shu rfl rfl

/-- The worst supply state is read from the other stations' entries alone (R148). -/
theorem worstSupply_setPeer {s : State} {t : StationId} {e : Peer}
    (h : t ≠ s.stc.station → e.present = (s.peer t).present ∧ e.supply = (s.peer t).supply) :
    worstSupply (setPeer t e s) = worstSupply s := by
  unfold worstSupply
  congr 1
  funext w q
  simp only [setPeer, tget_tset]
  by_cases hq : t = q
  · subst hq
    by_cases hown : t = s.stc.station
    · simp [hown]
    · obtain ⟨hpresent, hsupply⟩ := h hown
      simp [hpresent, hsupply, State.peer]
  · simp [hq]

/-- An entry is written that the worst supply state does not see, or sees as it was. -/
theorem Leads.setPeer {s : State} {t : StationId} {e : Peer} (joined : s.joined = true)
    (h : t ≠ s.stc.station → e.present = (s.peer t).present ∧ e.supply = (s.peer t).supply) : Leads s (setPeer t e s) :=
  .of_move (.supply (m := s.smn) (.inl joined) fun hworst => hworst.trans (worstSupply_setPeer h).symm) (.of_ports rfl) rfl

theorem Leads.agePeer {s : State} (t : StationId) (joined : s.joined = true) : Leads s (agePeer t s) := by
  unfold Machine.agePeer
  dsimp only
  exact .ite (fun _ => .refl s) fun _ => .ite (fun _ => .setPeer joined fun _ => ⟨rfl, rfl⟩) fun _ => .recomputePeer t _ joined

theorem Leads.agePeers {s : State} (joined : s.joined = true) : Leads s (agePeers s) := by
  unfold Machine.agePeers
  generalize allStations = ts
  induction ts generalizing s with
  | nil => exact .refl s
  | cons t ts ih => exact (Leads.agePeer t joined).trans (ih (by simpa [State.joined] using joined))

/-! ## The share-period expiry (R69, R80, R83) -/

theorem ownDemand_le (s : State) : ownDemand s ≤ 65535 := by
  unfold ownDemand
  split
  · exact Nat.zero_le _
  · exact Nat.min_le_left _ _

/-- The grant is no larger than what the own entry asks for (R78). -/
theorem expiryGrant_le {s : State} {n : Nat} (h : (s.peer s.stc.station).demand ≤ n) : (expiryGrant s).shu.grant ≤ n := by
  refine grantOf_le fun j hj hstation => ?_
  obtain ⟨t, -, ht⟩ := List.mem_filterMap.1 hj
  obtain ⟨-, ht⟩ := Option.ite_none_right_eq_some.1 ht
  cases ht
  have hown : t = s.stc.station := hstation
  subst hown
  exact h

theorem Leads.expiryTables {s : State} (joined : s.joined = true) : Leads s (expiryTables s) := by
  unfold Machine.expiryTables
  dsimp only
  exact (Leads.agePeers joined).trans ((Leads.ageNotice _).trans
    (.setPeer (by simpa [State.joined] using joined) fun h => absurd rfl h))

theorem Leads.expiryAdvert (s : State) : Leads s (expiryAdvert s) :=
  (Leads.modCtrl (fun _ h => h.placeAdvert _ _ _ _ _) s).trans (.shu rfl rfl)

theorem Leads.shareExpiry {s : State} (joined : s.joined = true) : Leads s (shareExpiry s) := by
  have hdemand : ((Machine.expiryTables s).peer (Machine.expiryTables s).stc.station).demand ≤ 65535 := by
    simp [Machine.expiryTables, ownEntry, ownDemand_le]
  unfold Machine.shareExpiry
  refine (Leads.expiryTables joined).trans ?_
  generalize Machine.expiryTables s = u at hdemand ⊢
  have hgrant : Leads u (expiryGrant u) := .shu rfl rfl
  exact hgrant.trans (Leads.trans (.of_move (.renew (expiryGrant_le hdemand)) (.of_ports rfl) rfl) (.expiryAdvert _))

/-! ## The start (R165 to R169) -/

theorem Leads.uscRefillAll (s : State) : Leads s (uscRefillAll s) := .of_move .refill (.of_ports (by simp)) (by simp)

/-- The configuration takes effect: the port map changes no relay (R166). -/
theorem Opens.takeCfg (c : Cfg) (s : State) : Opens s (takeCfg c s) := by
  have hport : ∀ p, (Machine.takeCfg c s).port p = Port.mapped (tget c.portMap p) (s.port p) := fun p => by
    simp [Machine.takeCfg, State.port, tget_tableOfPorts]
  refine ⟨fun p hp => ?_, fun p hp => ?_, fun hs p hp => ?_⟩ <;> rw [hport] at hp
  · exact hp
  · exact hp
  · rw [hport]
    exact hs p hp

theorem Leads.endOfLoading {s : State} (c : Cfg) (loading : s.stc.startState = .loading) : Leads s (endOfLoading c s) := by
  refine Leads.trans (.of_move (.configure c loading) (.takeCfg c s) rfl) ?_
  refine Leads.trans (.of_move (.start (c := { s.stc with startState := .joining, joinCount := 0 }) rfl (.inl ⟨loading, rfl⟩))
    (.of_ports rfl) rfl) (.requestSample _)

/-- What follows the sampling of the straps (R165, R166). -/
theorem Leads.afterStraps {s : State} (loading : s.stc.startState = .loading) :
    Leads s (match startModeOf s.stc.startMode with
      | .defaults => Machine.endOfLoading defaultCfg s
      | .stored => s
      | .remote => s) := by
  split
  · exact .endOfLoading _ loading
  all_goals exact .refl s

/-- The reset input is released, with the straps sampled and the mains input read (R144, R165). -/
theorem Leads.boot {s : State} {pins : Pins} (old : s.pins.resetAsserted = true) (released : pins.resetAsserted = false) :
    Leads s (boot { s with pins := pins }) :=
  Leads.trans (.of_move (.load (pins := pins) (c := { s.stc with
      startState := .loading, station := pins.station.toFin, startMode := pins.startMode })
    (m := { s.smn with mainsSeen := pins.mains, debounce := false }) old released rfl rfl rfl) (.of_ports rfl) rfl)
    (.afterStraps rfl)

theorem Leads.configLoaded (words : List Word16) (s : State) : Leads s (configLoaded words s) := by
  refine .ite (fun h => ?_) fun _ => .refl s
  split
  · exact .endOfLoading _ h.1
  · exact (Leads.raiseNotice .configDefaulted s).trans (.endOfLoading _ (by simpa using h.1))

theorem toWaiting_besides (c : Stc) (x : Clt) (p : PortId) (l : Bool) (s : State) :
    toWaiting p l (s.besides c x) = (toWaiting p l s).besides c x := changeState_besides c x p _ _ l s

/-- The moves of the ports as RUNNING is entered (R169). -/
def enterPorts (s : State) : State := forPorts allPorts (fun p t => if (t.port p).admin then toWaiting p false t else t) s

theorem enterRunning_eq (s : State) :
    enterRunning s = (enterPorts s).besides { s.stc with startState := .running } s.clt := by
  have hstart : ({ s with stc := { s.stc with startState := .running } } : State) =
      s.besides { s.stc with startState := .running } s.clt := rfl
  unfold enterRunning enterPorts
  rw [hstart]
  refine forPorts_besides _ _ (fun p u => ?_) _ _
  exact ite_besides _ _ (toWaiting_besides _ _ p false u) rfl

theorem enterPorts_stc_clt (s : State) : (enterPorts s).stc = s.stc ∧ (enterPorts s).clt = s.clt := by
  unfold enterPorts
  refine ⟨forPorts_keeps State.stc _ (fun p t => ?_) _ s, forPorts_keeps State.clt _ (fun p t => ?_) _ s⟩ <;> split <;> simp

theorem Leads.enterPorts {s : State} (joining : s.stc.startState = .joining) : Leads s (enterPorts s) := by
  unfold Machine.enterPorts
  generalize allPorts = ps
  induction ps generalizing s with
  | nil => exact .refl s
  | cons p ps ih =>
    refine Leads.trans (t := if (s.port p).admin then Machine.toWaiting p false s else s)
      (.ite (fun _ => .toWaiting (fun _ => joining) (.inr (by simp [State.joined, joining]))) fun _ => .refl s) (ih ?_)
    split
    · simpa using joining
    · exact joining

theorem Leads.enterRunning {s : State} (joining : s.stc.startState = .joining) : Leads s (enterRunning s) := by
  rw [enterRunning_eq]
  refine (Leads.enterPorts joining).trans ?_
  obtain ⟨hstc, hclt⟩ := enterPorts_stc_clt s
  generalize Machine.enterPorts s = u at hstc hclt ⊢
  rw [← hclt]
  exact .of_move (.start (c := { s.stc with startState := .running }) (by rw [hstc]) (.inr ⟨by rw [hstc]; exact joining, rfl⟩))
    (.of_ports rfl) rfl

theorem Leads.countJoining (s : State) : Leads s (countJoining s) := by
  refine .ite (fun h => ?_) fun _ => .refl s
  have hcount : Leads s { s with stc := { s.stc with joinCount := s.stc.joinCount + 1 } } :=
    .of_harmless { Harmless.refl s with } rfl rfl
  exact .ite (fun _ => hcount) fun _ => hcount.trans (.enterRunning h)

theorem Leads.sharePeriodExpires (s : State) : Leads s (sharePeriodExpires s) :=
  .ite (fun h => (Leads.shareExpiry h).trans ((Leads.uscRefillAll _).trans (.countJoining _))) fun _ => .refl s

/-- Both resets: every block at its reset values, and no relay closed (R7, R160, R165). -/
theorem Opens.reset {s t : State} (hports : t.ports = s.ports.map Port.afterReset) : Opens s t := by
  have hport : ∀ p, t.port p = Port.afterReset (s.port p) := fun p => by simp [State.port, hports, tget]
  refine ⟨fun p hp => ?_, fun p hp => ?_, fun _ p _ => ?_⟩
  · rw [hport] at hp
    exact hp
  · rw [hport] at hp
    simp [Port.afterReset, Port.initial] at hp
  · rw [hport]
    simp [Port.afterReset, Port.initial]

theorem tget_afterReset_lineState (s : State) (p : PortId) :
    (tget (s.ports.map Port.afterReset) p).lineState = .disabled := by
  simp [tget, Port.afterReset, Port.initial]

theorem Leads.restartCard {s : State} (straps : Straps) (sends : s.bau.tx.st ≠ .idle) : Leads s (restartCard straps s) := by
  have hreset : Leads s { blocksReset s with
      pins := s.pins.withStraps straps
      ports := s.ports.map Port.afterReset
      relayHold := holdAfter (s.ports.map Port.afterReset)
      tsq := { Tsq.initial with results := s.tsq.results, seq := s.tsq.seq }
      mga := { Mga.initial with portCounters := s.mga.portCounters, cardCounters := s.mga.cardCounters }
      stc := { Stc.initial with
        startState := .loading, station := straps.station.toFin, startMode := straps.startMode }
      smn := { Smn.initial with mainsSeen := s.pins.mains, debounce := false } } :=
    .of_move (.reset (.inr ⟨rfl, sends, rfl⟩) rfl (tget_afterReset_lineState s) ⟨rfl, rfl⟩ id) (.reset rfl) rfl
  exact hreset.trans (.afterStraps rfl)

end Sys2Proof.Machine
end

section
/-! SUPPORT. The Management Agent and the Bus Access Unit, and the work that ends every step, are made of moves. -/

namespace Sys2Proof.Machine

/-! ## The requests (R158 to R160, R167) -/

theorem Leads.clearCounters (scope : Option PortId) (s : State) : Leads s (clearCounters scope s) := by
  have hzero : Counter.zero.lawful := ⟨by decide, by decide⟩
  unfold Machine.clearCounters
  split
  · next p =>
    refine .of_harmless (.of_mga fun h => ⟨fun q c => ?_, h.2⟩) rfl rfl
    simp only [State.portCounter, tget_tset]
    split
    · simpa using hzero
    · exact h.1 q c
  · refine .of_harmless (.of_mga fun h => ⟨h.1, fun c => ?_⟩) rfl rfl
    simpa [State.cardCounter] using hzero

theorem Leads.enablePort (p : PortId) (s : State) : Leads s (enablePort p s).card := by
  unfold Machine.enablePort
  dsimp only
  have hadmin : Leads s (s.setPort p { s.port p with admin := true }) := .record rfl rfl id id id
  split
  · exact .refl s
  · split
    · next h =>
      refine hadmin.trans (.toWaiting (fun ht => ?_) (.inr ?_))
      · simp [h.1] at ht
      · simp [State.joined, h.2]
    · exact hadmin

theorem Leads.disablePort (p : PortId) (s : State) : Leads s (disablePort p s).card := by
  unfold Machine.disablePort
  dsimp only [Answer.plain]
  have hadmin : Leads s (s.setPort p { s.port p with admin := false }) := .record rfl rfl id id id
  have hdequeued := hadmin.trans (.dequeuePort p _)
  generalize Machine.dequeuePort p (s.setPort p { s.port p with admin := false }) = u at hdequeued ⊢
  have hmove : Leads u (if (u.port p).lineState.leavesAtDisable then changeState p .disabled false false u else u) :=
    .ite (fun h => .lineFrom rfl (by cases hl : (u.port p).lineState <;> simp_all [LineState.leavesAtDisable]) (by decide)
      (by simp)) fun _ => .refl u
  refine hdequeued.trans (hmove.trans (.ite (fun _ => .abortTest .admin _) fun _ => .refl _))

theorem Leads.askTest (p : PortId) (k : TestKind) (i : Bool) (tone : Option ToneSpec) (s : State) :
    Leads s (askTest p k i tone s).card := by
  unfold Machine.askTest
  dsimp only [Answer.plain]
  split
  · exact .refl s
  · next hfree =>
    obtain ⟨hqueued, hruns⟩ : s.tsq.queued p = false ∧ s.tsq.runs p = false := by simpa using hfree
    repeat' split
    all_goals first
      | exact .refl s
      | exact .enqueueTest _ _ hqueued hruns

theorem Leads.cancelTest (p : PortId) (s : State) : Leads s (cancelTest p s).card := by
  unfold Machine.cancelTest
  split
  · exact .dequeuePort p s
  · split
    · exact .abortTest .request s
    · exact .refl s

theorem Leads.writeConfig (off : Nat) (ws : List Word16) (s : State) : Leads s (writeConfig off ws s).card := by
  unfold Machine.writeConfig
  split
  · exact .of_harmless { Harmless.refl s with } rfl rfl
  · exact .refl s

theorem Leads.applyConfig (s : State) : Leads s (applyConfig s).card := by
  unfold Machine.applyConfig
  split
  · next h =>
    simp only [State.loadsRemotely, Bool.and_eq_true, beq_iff_eq] at h
    split
    · exact .endOfLoading _ h.1
    · exact .refl s
  · exact .refl s

theorem Leads.answerRequest (r : Request) (s : State) : Leads s (answerRequest r s).card := by
  cases r with
  | portStatus | cardStatus => exact .refl s
  | portAdmin p enable =>
    cases enable
    · exact .disablePort p s
    · exact .enablePort p s
  | retrain p =>
    simp only [Machine.answerRequest, askRetrain]
    split
    · next h => exact .retrainPort h
    · exact .refl s
  | weight p v =>
    exact .modPort (f := fun r => { r with weightOverride := v }) (fun _ => rfl) (fun _ => rfl) (fun _ => rfl)
      (fun _ => rfl) (fun _ => rfl)
  | testRequest p k i t => exact .askTest p k i t s
  | testCancel p => exact .cancelTest p s
  | testResult p =>
    simp only [Machine.answerRequest, askTestResult]
    split <;> exact .refl s
  | readCounters scope c => exact .ite (fun _ => .clearCounters scope s) fun _ => .refl s
  | noticeAck m => exact .of_mga rfl rfl
  | restart => exact .of_mga rfl rfl
  | configWrite off ws => exact .writeConfig off ws s
  | configApply => exact .applyConfig s

/-! ## The Management Agent (R48, R156, R157) -/

theorem Leads.checkRequest (payload : List Byte) (s : State) : Leads s (checkRequest payload s).card := by
  unfold Machine.checkRequest
  split
  · split
    · exact .refl s
    · split
      · exact .refl s
      · split
        · exact .answerRequest _ s
        · exact .refl s
  · exact .refl s

theorem Leads.joinWaiting (i : WaitItem) (s : State) : Leads s (joinWaiting i s) := .of_mga rfl rfl

theorem Leads.placeNotice {s : State} (c : Cause) (h : s.fst.placeable 1 0 0 = true) : Leads s (placeNotice c s) :=
  .of_harmless (.placeNotice c h) rfl rfl

theorem Leads.placeAnswer {s : State} {payload : List Byte} (h : answerFits payload s = true) :
    Leads s (placeAnswer payload s) := by
  unfold answerFits returning at h
  unfold Machine.placeAnswer Machine.removeRequestHead
  dsimp only
  split
  · next hnone =>
    rw [hnone] at h
    exact .of_fst rfl rfl fun hs => hs.placeResponse .mrsp h
  · next f rest hq =>
    rw [hq] at h
    exact .of_fst rfl rfl fun hs => (hs.removeRequest hq).placeResponse .mrsp h

theorem Leads.offerAnswer (payload : List Byte) (s : State) : Leads s (offerAnswer payload s) :=
  .ite (fun h => .placeAnswer h) fun _ => .joinWaiting _ s

theorem Leads.takeRequest (s : State) : Leads s (takeRequest s) := by
  unfold Machine.takeRequest
  split
  · exact .refl s
  · exact (Leads.checkRequest _ s).trans (.offerAnswer _ _)

theorem Leads.offerWaiting (n : Nat) (s : State) : Leads s (offerWaiting n s) := by
  induction n generalizing s with
  | zero => exact .refl s
  | succ n ih =>
    unfold Machine.offerWaiting
    split
    · exact .refl s
    · next i rest _ =>
      refine .ite (fun h => ?_) fun _ => .refl s
      have hdrop : Leads s { s with mga := { s.mga with waiting := rest } } := .of_mga rfl rfl
      refine hdrop.trans (Leads.trans ?_ (ih _))
      cases i with
      | notice c => exact .placeNotice c h
      | answer a => exact .placeAnswer h

theorem Leads.mgaRun (n : Nat) (s : State) : Leads s (mgaRun n s) := by
  induction n generalizing s with
  | zero => exact .offerWaiting _ s
  | succ n ih =>
    unfold Machine.mgaRun
    dsimp only
    exact .ite (fun _ => (Leads.offerWaiting _ s).trans ((Leads.takeRequest _).trans ((Leads.startChoice _).trans (ih _))))
      fun _ => .offerWaiting _ s

/-! ## The card stays out of RESET through the agent's work -/

/-- The card is out of RESET (R165). -/
def State.out (s : State) : Prop := s.stc.startState ≠ .reset

theorem out_of_stc {s t : State} (h : t.stc = s.stc) (hs : s.out) : t.out := by rwa [State.out, h]

theorem startChoice_stc (s : State) : (startChoice s).stc = s.stc := by
  unfold startChoice
  split
  · split
    · unfold startTest
      dsimp only
      split
      · split
        · next h =>
          unfold requestClaim at h
          split at h
          · cases h
            simp
          · cases h
        · simp
      · simp
    · rfl
  · rfl

theorem endOfLoading_out (c : Cfg) (s : State) : (endOfLoading c s).out := by
  simp [State.out, endOfLoading, enterJoining]

theorem answerRequest_out (r : Request) {s : State} (h : s.out) : (answerRequest r s).card.out := by
  cases r with
  | portAdmin p enable =>
    cases enable
    · refine out_of_stc ?_ h
      simp only [answerRequest, disablePort, Answer.plain]
      repeat' split
      all_goals simp
    · refine out_of_stc ?_ h
      simp only [answerRequest, enablePort, Answer.plain]
      repeat' split
      all_goals simp
  | retrain p =>
    refine out_of_stc ?_ h
    simp only [answerRequest, askRetrain, Answer.plain]
    split <;> simp
  | testRequest p k i t =>
    refine out_of_stc ?_ h
    simp only [answerRequest, askTest, Answer.plain]
    repeat' split
    all_goals simp
  | testCancel p =>
    refine out_of_stc ?_ h
    simp only [answerRequest, cancelTest, Answer.plain]
    repeat' split
    all_goals simp
  | testResult p =>
    simp only [answerRequest, askTestResult]
    split <;> exact h
  | readCounters scope c =>
    refine out_of_stc ?_ h
    simp only [answerRequest, askCounters, clearCounters]
    repeat' split
    all_goals rfl
  | configWrite off ws =>
    simp only [answerRequest, writeConfig]
    split <;> exact h
  | configApply =>
    simp only [answerRequest, applyConfig]
    split
    · split
      · exact endOfLoading_out _ s
      · exact h
    · exact h
  | portStatus | cardStatus | weight | noticeAck | restart => exact h

theorem takeRequest_out {s : State} (h : s.out) : (takeRequest s).out := by
  unfold takeRequest
  split
  · exact h
  · refine out_of_stc (offerAnswer_stc ..) ?_
    unfold checkRequest
    repeat' split
    all_goals first
      | exact h
      | exact answerRequest_out _ h

theorem offerWaiting_stc (n : Nat) (s : State) : (offerWaiting n s).stc = s.stc := by
  obtain ⟨_, _, _, _, _, h⟩ := offerWaiting_writes n s
  rw [h]

theorem mgaRun_out (n : Nat) {s : State} (h : s.out) : (mgaRun n s).out := by
  induction n generalizing s with
  | zero => exact out_of_stc (offerWaiting_stc _ s) h
  | succ n ih =>
    have hoffered : (offerWaiting s.mga.waiting.length s).out := out_of_stc (offerWaiting_stc _ s) h
    unfold mgaRun
    dsimp only
    split
    · exact ih (out_of_stc (startChoice_stc _) (takeRequest_out hoffered))
    · exact hoffered

/-! ## The arbiter, and the work that ends every step (R62, R116) -/

/-- A change of the bus records and of the arbiter's memory. -/
theorem Leads.bau {s : State} {x : Bau} (tx : x.tx = s.bau.tx) (ctrl : x.ctrl = s.bau.ctrl) :
    Leads s { s with bau := x } :=
  .of_harmless { Harmless.refl s with
    idle := fun _ h => tx ▸ h, hand := fun p h => tx ▸ h, control := fun h => by rwa [controlLaw_iff, ctrl] } rfl rfl

/-- The transmitter moves, out of RESET or from another state than IDLE, and takes no DATA frame in hand. -/
theorem Leads.setTx {s : State} {t : Tx} (sends : s.stc.startState = .reset → s.bau.tx.st = .idle → t.st = .idle)
    (hand : ∀ p, t.hand = some (.data p) → s.bau.tx.hand = some (.data p)) : Leads s (setTx t s) :=
  .of_harmless { Harmless.refl s with idle := sends, hand := hand } rfl rfl

theorem Leads.takeMgmt {s : State} (out : s.out) : Leads s (takeInHand .mgmt s) :=
  .setTx (fun h => absurd h out) (by simp)

theorem Leads.takeData {s : State} (out : s.out) (credit : 0 < s.shu.credit) : Leads s (takeData s) := by
  refine .of_move (.takeData out credit) ?_ ?_
  · obtain h | ⟨_, _, _, _, _, -, -, h⟩ := takeData_cases s <;> rw [h]
    · exact .refl s
    · exact .of_ports rfl
  · obtain h | ⟨_, _, _, _, _, -, -, h⟩ := takeData_cases s <;> rw [h]
    rfl

theorem Leads.chooseBelowControl {s : State} (out : s.out) : Leads s (chooseBelowControl s) := by
  have hcredit : s.dataWaits = true → 0 < s.shu.credit := fun h => by
    simp only [State.dataWaits, Bool.and_eq_true, decide_eq_true_eq] at h
    exact h.1
  unfold Machine.chooseBelowControl
  split
  · exact .ite (fun h => .takeData out (hcredit h)) fun _ => .refl s
  · split
    · exact .takeMgmt out
    · next hwaits =>
      have hrecord : ∀ w, Leads s (recordWinner w s) := fun w => .bau rfl rfl
      split
      · split
        · exact (hrecord _).trans (.takeMgmt out)
        · exact (hrecord _).trans (.takeData out (hcredit (by simpa using hwaits)))
      · exact .takeMgmt out

theorem Leads.txArbitrate {s : State} (out : s.out) : Leads s (txArbitrate s) := by
  refine .ite (fun _ => ?_) fun _ => .refl s
  split
  · next item rest hctrl =>
    have htail : Leads s { s with bau := { s.bau with ctrl := rest } } :=
      .of_harmless { Harmless.refl s with
        control := fun h => CtrlBounds.tail (x := item) (by rwa [controlLaw_iff, hctrl] at h) } rfl rfl
    exact htail.trans (.setTx (fun h => absurd h out) (by simp))
  · exact .chooseBelowControl out

theorem Leads.settle (s : State) : Leads s (settle s) :=
  .ite (fun _ => .refl s) fun h => (Leads.startChoice s).trans ((Leads.mgaRun _ _).trans
    (.txArbitrate (mgaRun_out _ (out_of_stc (startChoice_stc s) h))))

end Sys2Proof.Machine
end

section
/-! SUPPORT. The events of the cabinet bus are made of moves. -/

namespace Sys2Proof.Machine

/-! ## The end of a transmission (R54 to R58) -/

theorem Leads.controlEnd (ok : Bool) (item : CtrlItem) (s : State) : Leads s (controlEnd ok item s) := by
  cases item with
  | advert => exact .ite (fun _ => .countCard _ s) fun _ => .refl s
  | claim b held d => exact .tellSequencer (.claimSent ok b held s)
  | release b retried => exact .ite (fun _ => .placeRelease b true s) fun _ => .refl s

/-- The transmitter enters IDLE. -/
theorem Leads.toIdle (s : State) : Leads s (Machine.setTx Tx.initial s) := .setTx (fun _ _ => rfl) (fun _ h => by cases h)

/-- What the restart writes does not depend on what stands in the transmitter and in the Frame Store. -/
theorem restartCard_afterAnswer (straps : Straps) (t : Tx) (s : State) :
    restartCard straps (removeResponseHead (setTx t s)) = restartCard straps s := by
  unfold removeResponseHead
  split <;> rfl

theorem Leads.mgmtEnd {s : State} (straps : Straps) (sends : s.bau.tx.st ≠ .idle) :
    Leads s (Machine.mgmtEnd straps (Machine.setTx Tx.initial s)) := by
  unfold Machine.mgmtEnd
  split
  · exact .toIdle s
  · refine .ite (fun _ => ?_) fun _ => (Leads.toIdle s).trans (.removeResponseHead _)
    rw [restartCard_afterAnswer]
    exact .restartCard straps sends

theorem Opens.dataEnd (ok : Bool) (p : PortId) (s : State) : Opens s (dataEnd ok p s) := .of_ports (by simp)

theorem Leads.txEnd {s : State} (ok : Bool) (straps : Straps) (sends : s.bau.tx.st ≠ .idle) :
    Leads s (txEnd ok straps s) := by
  unfold Machine.txEnd
  split
  · exact .toIdle s
  · exact (Leads.toIdle s).trans (.controlEnd ok _ _)
  · exact .mgmtEnd straps sends
  · next p hand => exact .of_move (.dataEnd ok hand) (.of_ports (by simp)) (by simp)

theorem Leads.putOut (outs : List BusOut) (s : State) : Leads s (putOut outs s) := .bau rfl rfl

theorem State.sendsFrame_sending {s : State} (h : s.sendsFrame = true) : s.bau.tx.st ≠ .idle := by
  simp only [State.sendsFrame, Bool.and_eq_true, beq_iff_eq] at h
  simp [h.1]

/-- The transmitter moves from another state than IDLE with the same frame in hand. -/
theorem Leads.moveTx {s : State} {t : Tx} (sends : s.bau.tx.st ≠ .idle) (hand : t.hand = s.bau.tx.hand) :
    Leads s (Machine.setTx t s) := .setTx (fun _ h => absurd h sends) fun _ h => hand ▸ h

theorem Leads.gapCompletes (s : State) : Leads s (gapCompletes s) := by
  refine .ite (fun h => ?_) fun _ => .refl s
  have hsending : Leads s (Machine.setTx { s.bau.tx with st := .sending, gapCounting := false } s) :=
    .moveTx (s := s) (by simp [h.1]) rfl
  exact .ite (fun _ => hsending.trans (.of_fst rfl rfl fun hs => hs.markResponse)) fun _ => hsending

theorem Leads.carrierInGap (s : State) : Leads s (carrierInGap s) :=
  .ite (fun h => .moveTx (s := s) (by simp [h]) rfl) fun _ => .refl s

theorem Leads.sendingEnds (straps : Straps) (s : State) : Leads s (sendingEnds straps s) :=
  .ite (fun h => (Leads.putOut [.frame s.inHandBytes] s).trans
    (.txEnd (s := Machine.putOut [.frame s.inHandBytes] s) true straps (State.sendsFrame_sending h))) fun _ => .refl s

theorem Leads.collides (s : State) : Leads s (collides s) :=
  .ite (fun h => (Leads.putOut [.jam] s).trans
    (.moveTx (s := Machine.putOut [.jam] s) (t := { s.bau.tx with jamming := true }) (State.sendsFrame_sending h) rfl))
    fun _ => .refl s

theorem Leads.jamEnds (draw : Byte) (straps : Straps) (s : State) : Leads s (jamEnds draw straps s) := by
  refine .ite (fun h => ?_) fun _ => .refl s
  dsimp only
  have hbau : (Machine.countCard .collisions s).bau = s.bau := by simp
  refine (Leads.countCard .collisions s).trans ?_
  generalize Machine.countCard .collisions s = u at hbau ⊢
  have hsends : u.bau.tx.st ≠ .idle := by simp [hbau, h.1]
  have hhand : u.bau.tx.hand = s.bau.tx.hand := by rw [hbau]
  exact .ite (fun _ => .ite (fun _ => .moveTx hsends hhand.symm) fun _ => .moveTx hsends hhand.symm)
    fun _ => .txEnd false straps hsends

theorem Leads.collidesLate (s : State) : Leads s (collidesLate s) := by
  refine .ite (fun h => ?_) fun _ => .refl s
  simp only [Bool.and_eq_true] at h
  refine (Leads.putOut [.jam] s).trans ((Leads.countCard .lateCollisions _).trans ((Leads.raiseNotice .busFault _).trans
    (.txEnd false _ ?_)))
  simpa using State.sendsFrame_sending h.1

theorem Leads.backoffEnds (s : State) : Leads s (backoffEnds s) :=
  .ite (fun h => .moveTx (s := s) (by simp [h]) rfl) fun _ => .refl s

/-! ## Reception (R64 to R67) -/

theorem Leads.claimArrives (t : StationId) (b : BinderId) (phase duration : Byte) (s : State) :
    Leads s (claimArrives t b phase duration s) := .tellSequencer (.takeClaim t b _ duration s)

theorem Leads.deliver (k : BusKind) (h : Header) (payload : List Byte) (s : State) : Leads s (deliver k h payload s) := by
  unfold Machine.deliver
  split
  · split
    · exact .ite (fun _ => .countCard _ s) fun _ => (Leads.stageBus payload s).trans (.completeDownstream _ _)
    · exact .countCard _ s
  · exact .ite (fun _ => .countCard _ s) fun _ => (Leads.stageBus payload s).trans (.completeMreq _)
  · split
    · exact .takeAdvert _ _ s
    · exact .refl s
  · split
    · exact .claimArrives _ _ _ _ s
    · exact .refl s
  · split
    · exact .takeRelease _ _ s
    · exact .refl s
  · exact .takeCapacity _ s
  · exact .countCard _ s
  · exact .countCard _ s

theorem Leads.receiveFrame (bs : List Byte) (s : State) : Leads s (receiveFrame bs s) := by
  unfold Machine.receiveFrame
  split
  · exact .countCard _ s
  · exact .ite (fun _ => .ownSource s) fun _ => .ite (fun _ => .countCard _ s) fun _ => .ite (fun _ => .refl s)
      fun _ => .deliver _ _ _ s

theorem Leads.gapRestarts (s : State) : Leads s (gapRestarts s) :=
  .ite (fun h => .moveTx (s := s) (by simp [h]) rfl) fun _ => .refl s

theorem Leads.carrierEnds (collided own stale : Bool) (bytes : List Byte) (s : State) :
    Leads s (carrierEnds collided own stale bytes s) :=
  .ite (fun _ => .gapRestarts s) fun _ => (Leads.gapRestarts s).trans (.receiveFrame bytes _)

end Sys2Proof.Machine
end

section
/-! SUPPORT. What a step is: at most one change that closes relays or powers the card up, and then moves that close none. -/

namespace Sys2Proof.Machine

/-- The changes by which a command closes a relay, or powers the card up; most commands make none. -/
inductive Opening : Instr → State → State → Prop
  /-- No relay closes. -/
  | none {c : Instr} {s : State} : Opening c s s
  /-- The reset hold ends (R7). -/
  | hold {c : Instr} {s : State} : Opening c s (endRelayHold s)
  /-- ISOLATING's dead time ends (R119). -/
  | isolated {above : Bool} {s : State} {r : Running} (running : s.tsq.running = some r) (st : r.st = .isolating)
      (dead : r.deadTimer = true) : Opening (.isolatingDeadTimeExpiry above) s (closeTest r.req.port s)
  /-- RESTORING's dead time ends (R121). -/
  | restored {s : State} {r : Running} (running : s.tsq.running = some r) (st : r.st = .restoring)
      (dead : r.deadTimer = true) : Opening .restoringDeadTimeExpiry s (closeService r.req.port s)
  /-- Power comes up (R165). -/
  | powered {s : State} : Opening (.hardwareReset true) s (hardwareReset true s)

/-- What a command does, before the work that ends the step. -/
def Course (c : Instr) (s t : State) : Prop := ∃ u, Opening c s u ∧ Leads u t

theorem Leads.course {c : Instr} {s t : State} (h : Leads s t) : Course c s t := ⟨s, .none, h⟩

theorem Course.trans {c : Instr} {s t u : State} (h : Course c s t) (k : Leads t u) : Course c s u := by
  obtain ⟨v, hopen, hv⟩ := h
  exact ⟨v, hopen, hv.trans k⟩

theorem Course.event {c : Instr} {f : State → State} {s t : State} (h : Course c s (f s)) (ht : event f s = .next t) :
    Course c s t := by
  cases ht
  exact h.trans (.settle _)

theorem Course.heard {c : Instr} {f : State → State} {s t : State} (h : Course c s (f s)) (ht : heard f s = .next t) :
    Course c s t := by
  unfold Machine.heard at ht
  split at ht
  · cases ht
    exact (Leads.refl s).course
  · exact h.event ht

theorem Course.checked {c : Instr} {ok : Bool} {r : Result} {s t : State} (h : ok = true → r = .next t → Course c s t)
    (ht : checked ok r = .next t) : Course c s t := by
  unfold Machine.checked at ht
  split at ht
  · next hok => exact h hok ht
  · cases ht

theorem Leads.request {s : State} (tag : BitVec 16) (kind : Nat) (args : List Byte) :
    Leads s (Machine.completeMreq (Machine.stageBus (mreqPayload tag kind args) s)) :=
  (Leads.stageBus _ s).trans (.completeMreq _)

theorem counterLaw_initial (s : State) : CounterLaw { s with mga := Mga.initial } := by
  have hzero : Counter.zero.lawful := ⟨by decide, by decide⟩
  exact ⟨fun p c => by simpa [State.portCounter, Mga.initial] using hzero,
    fun c => by simpa [State.cardCounter, Mga.initial] using hzero⟩

theorem Leads.hardwareReset (s : State) : Leads s (hardwareReset false s) :=
  .of_move (.reset (.inl rfl) rfl (tget_afterReset_lineState s) ⟨rfl, rfl⟩ fun _ => counterLaw_initial s) (.reset rfl) rfl

theorem Course.hardwareReset (powerUp : Bool) (s : State) : Course (.hardwareReset powerUp) s (hardwareReset powerUp s) := by
  cases powerUp
  · exact (Leads.hardwareReset s).course
  · exact ⟨_, .powered, .refl _⟩

theorem Course.releaseReset (c : Instr) (station : BitVec 3) (mode : BitVec 2) (mains : Bool) (s : State) :
    Course c s (releaseReset station mode mains s) := by
  unfold Machine.releaseReset
  split
  · next h =>
    dsimp only
    split
    · exact ⟨_, .hold, .boot (s := endRelayHold s) h rfl⟩
    · exact (Leads.boot h rfl).course
  · exact (Leads.refl s).course

theorem Leads.relayHold (x : RelayHold) (s : State) : Leads s { s with relayHold := x } :=
  .of_harmless { Harmless.refl s with } rfl rfl

theorem Course.relayHoldExpires (c : Instr) (s : State) : Course c s (relayHoldExpires s) := by
  unfold Machine.relayHoldExpires
  split
  · split
    · exact (Leads.relayHold .elapsed s).course
    · exact ⟨_, .hold, .refl _⟩
  · exact (Leads.refl s).course

/-- The first stage of a test starts once its relay is closed (R119, R120). -/
theorem Leads.measure {s : State} {r : Running} (running : s.tsq.running = some r) (st : r.st = .isolating) (x : Stage) :
    Leads s (Machine.grantConverter (startStage x r.req.tone
      { Machine.setRunning (some { r with st := .measuring, deadTimer := false, stage := some x }) s with
        msu := { s.msu with hazardArmed := true } })) := by
  refine Leads.trans (.tests (((OnlyTests.setRunning _ s).trans (.msu _ _)).trans (.startStage x _ _)) (fun _ => ⟨?_, fun _ => ?_⟩)
    (fun _ => .inl (by simp [running])) fun honce => ?_) (.grantConverter _)
  · simp [State.taken, running, st]
  · exact ⟨{ r with st := .measuring, deadTimer := false, stage := some x }, by simp, rfl⟩
  · simpa [OnceLaw, running] using honce

theorem Course.isolatingExpires (above : Bool) (s : State) :
    Course (.isolatingDeadTimeExpiry above) s (isolatingExpires above s) := by
  unfold Machine.isolatingExpires
  split
  · next r running =>
    split
    · next h =>
      split
      · next x _ _ =>
        have hclosed : (closeTest r.req.port s).tsq.running = some r := by simpa using running
        exact ⟨_, .isolated running h.1 h.2, (Leads.measure hclosed h.1 x).trans (.reportIfAbove above _)⟩
      · exact (Leads.refl s).course
    · exact (Leads.refl s).course
  · exact (Leads.refl s).course

/-- The end of RESTORING writes the context, and the test ends (R121, R128). -/
theorem Leads.restored {s : State} {r : Running} (running : s.tsq.running = some r) (st : r.st = .restoring) :
    Leads s (Machine.endTest (Machine.setRunning (some { r with deadTimer := false }) s)) := by
  refine Leads.trans (.setRunning running ?_ ?_) (.endTest fun r' hr' hmeasuring => ?_)
  · rfl
  · rfl
  · cases hr'
    exact absurd (st.symm.trans hmeasuring) (by decide)

theorem closeService_setRunning (p : PortId) (r : Option Running) (s : State) :
    closeService p (setRunning r s) = setRunning r (closeService p s) := by
  unfold closeService
  rw [apply_ite (setRunning r)]
  rfl

theorem Course.restoringExpires (s : State) : Course .restoringDeadTimeExpiry s (restoringExpires s) := by
  unfold Machine.restoringExpires
  split
  · next r running =>
    split
    · next h =>
      dsimp only
      split
      · exact (Leads.restored running h.1).course
      · rw [closeService_setRunning]
        exact ⟨_, .restored running h.1 h.2, .restored (by simpa using running) h.1⟩
    · exact (Leads.refl s).course
  · exact (Leads.refl s).course

end Sys2Proof.Machine
end

section
/-! SUPPORT. Every command of the card is such a course. -/

namespace Sys2Proof.Machine

theorem Leads.ifOwn {s : State} {f : State → State} (t : StationId) (h : Leads s (f s)) :
    Leads s (if t = s.stc.station then Machine.ownSource s else f s) :=
  .ite (fun _ => .ownSource s) fun _ => h

theorem dataPayloadOk_length {payload : List Byte} (h : dataPayloadOk payload = true) : payload.length ≤ 1536 := by
  simp only [dataPayloadOk, Bool.and_eq_true, decide_eq_true_eq] at h
  exact h.2

/-- What a command does is at most one opening and then moves that close no relay. -/
theorem exec_course {c : Instr} {s t : State} (h : exec c s = .next t) : Course c s t := by
  cases c with
  | hardwareReset powerUp => exact .event (.hardwareReset powerUp s) h
  | resetRelease station mode mains => exact .event (.releaseReset _ station mode mains s) h
  | relayHoldEnd => exact .event (.relayHoldExpires _ s) h
  | isolatingDeadTimeExpiry above => exact .event (.isolatingExpires above s) h
  | restoringDeadTimeExpiry => exact .event (.restoringExpires s) h
  | persistenceTimerExpiry port => exact .event (Leads.persistenceExpires port s).course h
  | trainTimerExpiry port => exact .event (Leads.trainTimerExpires port s).course h
  | readyTimerExpiry port => exact .event (Leads.readyTimerExpires port s).course h
  | idleTimerExpiry port => exact .event (Leads.idleTimerExpires port s).course h
  | claimExpiry binder => exact .event (Leads.expireClaim binder s).course h
  | renewalExpiry => exact .event (Leads.renewalExpires s).course h
  | deferGapComplete => exact .event (Leads.gapCompletes s).course h
  | carrierSensedInGap => exact .event (Leads.carrierInGap s).course h
  | successfulEnd straps => exact .event (Leads.sendingEnds straps s).course h
  | collision => exact .event (Leads.collides s).course h
  | jamEnd draw straps => exact .event (Leads.jamEnds draw straps s).course h
  | lateCollision => exact .event (Leads.collidesLate s).course h
  | backoffExpiry => exact .event (Leads.backoffEnds s).course h
  | sharePeriodExpiry => exact .event (Leads.sharePeriodExpires s).course h
  | mainsInputChange present => exact .event (Leads.mainsInputChanges present s).course h
  | debounceExpiry => exact .event (Leads.debounceExpires s).course h
  | sampleTimerExpiry => exact .event (Leads.sampleTimerExpires s).course h
  | supplySampleComplete code => exact .event (Leads.supplySampled code.toNat s).course h
  | stageSample code => exact .event (Leads.stageSampled code.toInt s).course h
  | insulationSettleExpiry => exact .event (Leads.insulationSettled s).course h
  | dischargeEnd => exact .event (Leads.dischargeEnds s).course h
  | captureComparatorChange above tick => exact .event (Leads.comparatorChanges above tick.toNat s).course h
  | crossingConfirmed code => exact .event (Leads.crossingCounts code.toInt s).course h
  | captureLimit => exact .event (Leads.captureLimitReached s).course h
  | blankingEnd above => exact .event (Leads.blankingEnds above s).course h
  | shotTimerExpiry => exact .event (Leads.launchShot s).course h
  | toneLevelStep => exact .event (Leads.toneSteps s).course h
  | toneDurationExpiry => exact .event (Leads.toneExpires s).course h
  | hazardReport => exact .event (Leads.hazardReported s).course h
  | configLoadComplete words => exact .event (Leads.configLoaded words s).course h
  | activityOn port => exact .heard (Leads.activityOnPort port s).course h
  | activityOff port => exact .heard (Leads.activityOffPort port s).course h
  | trainReport port attempt down up attenuation margin => exact .heard (Leads.takeReport port attempt _ s).course h
  | trainFail port attempt => exact .heard (Leads.takeTrainFail port attempt s).course h
  | ready port attempt => exact .heard (Leads.takeReady port attempt s).course h
  | margin port level => exact .heard (Leads.takeMargin port level.toNat s).course h
  | farFault port => exact .heard (Leads.takeFarFault port s).course h
  | signalLost port attempt => exact .heard (Leads.takeSignalLost port attempt s).course h
  | frameRequest port => exact .heard (Leads.takeFrameRequest port s).course h
  | carrierEnd collided own bytes stale => exact .heard (Leads.carrierEnds collided own stale bytes s).course h
  | capacityReceived capacity => exact .heard (Leads.takeCapacity capacity.toNat s).course h
  | upstreamFrame port payload =>
    exact .checked (fun hok ht => .heard (f := fun u => completeUpstream port (stageUp port payload u))
      (Leads.completeUpstream (dataPayloadOk_length hok)).course ht) h
  | dataReceived port payload =>
    exact .checked (fun _ ht => .heard (f := fun u => completeDownstream port (stageBus payload u))
      ((Leads.stageBus payload s).trans (.completeDownstream port _)).course ht) h
  | mreqReceived payload | mreqUnknownKind payload =>
    exact .checked (fun _ ht => .heard (f := fun u => completeMreq (stageBus payload u))
      ((Leads.stageBus payload s).trans (.completeMreq _)).course ht) h
  | advertReceived station demand weight supply joining sequence =>
    exact .heard (f := fun u => if station = u.stc.station then ownSource u
      else takeAdvert station (advertEntry demand weight supply joining sequence) u)
      (Leads.ifOwn station (.takeAdvert station _ s)).course h
  | claimReceived station binder phase duration =>
    exact .heard (f := fun u => if station = u.stc.station then ownSource u
      else claimArrives station binder phase duration u)
      (Leads.ifOwn station (.claimArrives station binder phase duration s)).course h
  | releaseReceived station binder =>
    exact .heard (f := fun u => if station = u.stc.station then ownSource u else takeRelease station binder u)
      (Leads.ifOwn station (.takeRelease station binder s)).course h
  | settleExpiry =>
    exact .event (f := fun u => tellSequencer (settleExpires u)) (Leads.tellSequencer (.settleExpires s)).course h
  | configWrite tag offset words =>
    exact .checked (fun _ ht => .heard (f := fun u => completeMreq (stageBus _ u)) (Leads.request tag _ _).course ht) h
  | portStatus | cardStatus | testResult | readCounters | portAdminEnable | portAdminDisable | retrain | weight | testRequest | testCancel | noticeAck | restart | configApply =>
    exact .heard (f := fun u => completeMreq (stageBus _ u)) (Leads.request _ _ _).course h

theorem Leads.event {f : State → State} {s t : State} (h : Leads s (f s)) (ht : Machine.event f s = .next t) :
    Leads s t := by
  cases ht
  exact h.trans (.settle _)

/-- A step is the course of the front command, or the millisecond of an empty queue (R104, log 3). -/
theorem step_course {s t : State} (h : step s = .next t) :
    (∃ c rest, s.pending = c :: rest ∧ Course c { s with pending := rest } t) ∨ Leads s t := by
  unfold step at h
  split at h
  · exact .inr (Leads.event (Leads.idleTick s) h)
  · next c rest hp => exact .inl ⟨c, rest, hp, exec_course h⟩

/-! ## The laws but for the relays' -/

/-- The end of the reset hold writes the relays alone. -/
theorem Harmless.endRelayHold (s : State) : Harmless s (endRelayHold s) := by
  have hport : ∀ p, (Machine.endRelayHold s).port p = Port.endHold (s.port p) := fun p => by
    simp [Machine.endRelayHold, State.port, tget]
  have hkeep : ∀ r : Port, r.endHold.lineState = r.lineState ∧ r.endHold.binder = r.binder := fun r => by
    unfold Port.endHold
    split <;> exact ⟨rfl, rfl⟩
  exact { Harmless.refl s with line := fun p => by rw [hport, (hkeep _).1], binder := fun p => by rw [hport, (hkeep _).2] }

/-- A write of a record that keeps its line state and its binder. -/
theorem Harmless.modPort {s : State} {p : PortId} {f : Port → Port} (line : ∀ r, (f r).lineState = r.lineState)
    (binder : ∀ r, (f r).binder = r.binder) : Harmless s (s.modPort p f) :=
  { Harmless.refl s with
    line := fun q => modPort_keeps Port.lineState line s p q, binder := fun q => modPort_keeps Port.binder binder s p q }

theorem Opening.move {c : Instr} {s u : State} (h : Opening c s u) : Move s u := by
  cases h with
  | none => exact .same (.refl s)
  | hold => exact .same (.endRelayHold s)
  | isolated =>
    unfold closeTest
    split
    · exact .same (.refl s)
    · exact .same (.modPort (fun _ => rfl) fun _ => rfl)
  | restored =>
    unfold closeService
    split
    · exact .same (.refl s)
    · exact .same (.modPort (fun _ => rfl) fun _ => rfl)
  | powered =>
    exact .reset (.inl rfl) rfl (fun p => by simp [tget, Port.afterPowerUp, Port.initial]) ⟨rfl, rfl⟩
      fun _ => counterLaw_initial s

/-- A law that every move keeps, and that does not read the commands that wait, is kept by every step. -/
theorem step_keeps {P : State → Prop} (hpending : ∀ s rest, P s → P { s with pending := rest })
    (hmove : ∀ {s t}, Move s t → P s → P t) {s t : State} (hs : P s) (h : step s = .next t) : P t := by
  obtain ⟨c, rest, -, u, hopening, hleads⟩ | hleads := step_course h
  · exact hleads.keeps hmove (hmove hopening.move (hpending s rest hs))
  · exact hleads.keeps hmove hs

end Sys2Proof.Machine
end

section
/-! SUPPORT. The relays along a step (R5 to R7). -/

namespace Sys2Proof.Machine

theorem endRelayHold_port (s : State) (p : PortId) : (endRelayHold s).port p = (s.port p).endHold := by
  simp [endRelayHold, State.port, tget]

theorem endHold_cases (r : Port) :
    (r.serviceHeld = false ∧ r.endHold = r) ∨
      r.serviceHeld = true ∧
        r.endHold = { r with serviceHeld := false, serviceClosed := r.serviceClosed || !r.testClosed } := by
  unfold Port.endHold
  by_cases h : r.serviceHeld = true
  · exact .inr ⟨h, if_pos h⟩
  · exact .inl ⟨by simpa using h, if_neg h⟩

theorem endHold_testClosed (r : Port) : r.endHold.testClosed = r.testClosed := by
  obtain ⟨-, h⟩ | ⟨-, h⟩ := endHold_cases r <;> rw [h]

/-- The end of the hold keeps the relay law: a relay whose test relay is closed stays open (log 19). -/
theorem endRelayHold_relayLaw {s : State} (h : RelayLaw s) : RelayLaw (endRelayHold s) := by
  obtain ⟨hboth, hone, hheld⟩ := h
  refine ⟨fun p => ?_, fun p q => ?_, fun p hp => ?_⟩
  · rw [endRelayHold_port]
    obtain ⟨-, h⟩ | ⟨-, h⟩ := endHold_cases (s.port p) <;> rw [h]
    · exact hboth p
    · have hp := hboth p
      cases hs : (s.port p).serviceClosed <;> cases ht : (s.port p).testClosed <;> simp_all
  · simpa only [endRelayHold_port, endHold_testClosed] using hone p q
  · rw [endRelayHold_port] at hp
    obtain ⟨hnot, h⟩ | ⟨-, h⟩ := endHold_cases (s.port p) <;> rw [h] at hp
    · simp [hnot] at hp
    · simp at hp

/-- A test relay closes while its service relay and every other test relay is open (R5). -/
theorem closeTest_cases (p : PortId) (s : State) :
    closeTest p s = s ∨ (s.port p).serviceClosed = false ∧ (∀ q, q ≠ p → (s.port q).testClosed = false) ∧
      closeTest p s = s.setPort p { s.port p with testClosed := true } := by
  unfold closeTest
  split
  · exact .inl rfl
  · next h =>
    simp only [Bool.or_eq_true, not_or, Bool.not_eq_true, List.any_eq_false] at h
    obtain ⟨hservice, hothers⟩ := h
    refine .inr ⟨hservice, fun q hq => ?_, rfl⟩
    simpa [hq] using hothers q (mem_allPorts q)

/-- A service relay closes while its test relay is open (R5). -/
theorem closeService_cases (p : PortId) (s : State) :
    closeService p s = s ∨ (s.port p).testClosed = false ∧
      closeService p s = s.setPort p { s.port p with serviceClosed := true } := by
  unfold closeService
  split
  · exact .inl rfl
  · next h => exact .inr ⟨by simpa using h, rfl⟩

theorem closeTest_relayLaw {s : State} (p : PortId) (h : RelayLaw s) : RelayLaw (closeTest p s) := by
  obtain hc | ⟨hservice, hothers, hc⟩ := closeTest_cases p s <;> rw [hc]
  · exact h
  · obtain ⟨hboth, hone, hheld⟩ := h
    have hclosed : ∀ q, ((s.setPort p { s.port p with testClosed := true }).port q).testClosed = true → q = p := by
      intro q hq
      rw [setPort_port] at hq
      split at hq
      · next hpq => exact hpq.symm
      · next hpq => simp [hothers q (Ne.symm hpq)] at hq
    refine ⟨fun q => ?_, fun q r hq hr => (hclosed q hq).trans (hclosed r hr).symm, fun q hq => ?_⟩
    · rw [setPort_port]
      split
      · simp [hservice]
      · exact hboth q
    · rw [setPort_port] at hq ⊢
      split
      · next hpq =>
        rw [if_pos hpq] at hq
        exact hheld p hq
      · next hpq =>
        rw [if_neg hpq] at hq
        exact hheld q hq

theorem closeService_relayLaw {s : State} (p : PortId) (h : RelayLaw s) : RelayLaw (closeService p s) := by
  obtain hc | ⟨htest, hc⟩ := closeService_cases p s <;> rw [hc]
  · exact h
  · obtain ⟨hboth, hone, hheld⟩ := h
    refine ⟨fun q => ?_, fun q r hq hr => hone q r ?_ ?_, fun q hq => ?_⟩
    · rw [setPort_port]
      split
      · simp [htest]
      · exact hboth q
    · rw [setPort_port] at hq
      split at hq
      · next hpq => exact hpq ▸ hq
      · exact hq
    · rw [setPort_port] at hr
      split at hr
      · next hpr => exact hpr ▸ hr
      · exact hr
    · rw [setPort_port] at hq ⊢
      split
      · next hpq =>
        rw [if_pos hpq] at hq
        exact hheld p hq
      · next hpq =>
        rw [if_neg hpq] at hq
        exact hheld q hq

theorem hardwareReset_powerUp_port (s : State) (p : PortId) : (hardwareReset true s).port p = (s.port p).afterPowerUp := by
  simp [hardwareReset, State.port, tget]

theorem Opening.relayLaw {c : Instr} {s u : State} (h : Opening c s u) (hs : RelayLaw s) : RelayLaw u := by
  cases h with
  | none => exact hs
  | hold => exact endRelayHold_relayLaw hs
  | isolated => exact closeTest_relayLaw _ hs
  | restored => exact closeService_relayLaw _ hs
  | powered => simp [RelayLaw, hardwareReset_powerUp_port, Port.afterPowerUp, Port.initial]

/-- The relays that an opening closes (R6): a test relay at the end of ISOLATING's dead time, a service relay at the end of
RESTORING's or where the hold held it. -/
structure Closes (c : Instr) (s u : State) : Prop where
  test : ∀ p, (s.port p).testClosed = false → (u.port p).testClosed = true →
    (s.port p).serviceClosed = false ∧ (∃ above, c = .isolatingDeadTimeExpiry above) ∧
      ∃ run, s.tsq.running = some run ∧ run.req.port = p ∧ run.st = .isolating ∧ run.deadTimer = true
  service : ∀ p, (s.port p).serviceClosed = false → (u.port p).serviceClosed = true →
    (s.port p).testClosed = false ∧ ((s.port p).serviceHeld = true ∨ (c = .restoringDeadTimeExpiry ∧
      ∃ run, s.tsq.running = some run ∧ run.req.port = p ∧ run.st = .restoring ∧ run.deadTimer = true))

/-- What closes no relay. -/
theorem Closes.of_opens {c : Instr} {s t : State} (h : Opens s t) : Closes c s t :=
  ⟨fun p hp ht => by simp [h.test p ht] at hp, fun p hp ht => by simp [h.service p ht] at hp⟩

theorem Closes.then {c : Instr} {s u t : State} (h : Closes c s u) (k : Opens u t) : Closes c s t :=
  ⟨fun p hp ht => h.test p hp (k.test p ht), fun p hp ht => h.service p hp (k.service p ht)⟩

theorem Opening.closes {c : Instr} {s u : State} (h : Opening c s u) (hc : c ≠ .hardwareReset true) : Closes c s u := by
  cases h with
  | none => exact .of_opens (.refl s)
  | hold =>
    refine ⟨fun p hp ht => ?_, fun p hp ht => ?_⟩ <;> rw [endRelayHold_port] at ht
    · simp [endHold_testClosed, hp] at ht
    · obtain ⟨-, h⟩ | ⟨hheld, h⟩ := endHold_cases (s.port p) <;> rw [h] at ht
      · simp [hp] at ht
      · exact ⟨by simpa [hp] using ht, .inl hheld⟩
  | @isolated above _ r running st dead =>
    obtain h | ⟨hservice, -, h⟩ := closeTest_cases r.req.port s <;> rw [h]
    · exact .of_opens (.refl s)
    · refine ⟨fun p hp ht => ?_, fun p hp ht => ?_⟩ <;> rw [setPort_port] at ht <;> split at ht
      · next hpr => exact ⟨hpr ▸ hservice, ⟨above, rfl⟩, r, running, hpr, st, dead⟩
      · simp [hp] at ht
      · simp [hservice] at ht
      · simp [hp] at ht
  | @restored _ r running st dead =>
    obtain h | ⟨htest, h⟩ := closeService_cases r.req.port s <;> rw [h]
    · exact .of_opens (.refl s)
    · refine ⟨fun p hp ht => ?_, fun p hp ht => ?_⟩ <;> rw [setPort_port] at ht <;> split at ht
      · simp [htest] at ht
      · simp [hp] at ht
      · next hpr => exact ⟨hpr ▸ htest, .inr ⟨rfl, r, running, hpr, st, dead⟩⟩
      · simp [hp] at ht
  | powered => exact absurd rfl hc

/-- The part of R6 that speaks of changes follows from what the step's opening closes. -/
theorem Closes.relaysPart {c : Instr} {rest : List Instr} {s t : State} (hs : RelayLaw s) (hp : s.pending = c :: rest)
    (h : Closes c { s with pending := rest } t) : RelaysPart s t := by
  intro p
  refine ⟨fun ⟨hservice, ht⟩ => ?_, fun ⟨htest, ht⟩ => ?_, fun hopen ht => ?_, fun hopen ht => ?_⟩
  · have hopen : (s.port p).testClosed = false := by simpa using fun hclosed => hs.1 p ⟨hservice, hclosed⟩
    obtain ⟨hnot, -⟩ := h.test p hopen ht
    exact absurd (hservice.symm.trans hnot) (by decide)
  · have hopen : (s.port p).serviceClosed = false := by simpa using fun hclosed => hs.1 p ⟨hclosed, htest⟩
    obtain ⟨hnot, -⟩ := h.service p hopen ht
    exact absurd (htest.symm.trans hnot) (by decide)
  · obtain ⟨-, ⟨above, rfl⟩, hrun⟩ := h.test p hopen ht
    exact ⟨⟨above, rest, hp⟩, hrun⟩
  · obtain ⟨-, hheld | ⟨rfl, hrun⟩⟩ := h.service p hopen ht
    · exact .inl hheld
    · exact .inr ⟨⟨rest, hp⟩, hrun⟩

/-- What closes no relay at all. -/
theorem Opens.relaysPart {s t : State} (hs : RelayLaw s) (h : Opens s t) : RelaysPart s t := fun p =>
  ⟨fun hp => hs.1 p ⟨hp.1, h.test p hp.2⟩, fun hp => hs.1 p ⟨h.service p hp.2, hp.1⟩,
    fun hopen ht => by simp [h.test p ht] at hopen, fun hopen ht => by simp [h.service p ht] at hopen⟩

end Sys2Proof.Machine
end

section
/-! SUPPORT. The statements of the laws, and of the commands that are refused. -/

namespace Sys2Proof.Machine

/-- Settles O51: a step is at most one opening, which R5's checks keep within R6, and then moves that close no relay. -/
theorem everyStepKeepsTheRelayLaw : Obligations.EveryStepKeepsTheRelayLaw := by
  unfold Obligations.EveryStepKeepsTheRelayLaw
  intro s t hs h
  obtain ⟨c, rest, hp, u, hopening, hleads⟩ | hleads := step_course h
  · have hs' : RelayLaw { s with pending := rest } := hs
    refine ⟨hleads.opens.relayLaw (hopening.relayLaw hs'), fun hc => ?_⟩
    refine Closes.relaysPart hs hp ((hopening.closes fun hreset => hc ?_).then hleads.opens)
    rw [hp, hreset]
    rfl
  · exact ⟨hleads.opens.relayLaw hs, fun _ => hleads.opens.relaysPart hs⟩

/-- Settles O52: every move keeps the cells and records accounted for. -/
theorem everyStepKeepsTheStoreLaw : Obligations.EveryStepKeepsTheStoreLaw := by
  unfold Obligations.EveryStepKeepsTheStoreLaw
  exact fun s t hs h => step_keeps (P := StoreLaw) (fun _ _ hs => hs) Move.store hs h

/-- Settles O53: every move keeps the two bounds. -/
theorem everyStepKeepsListsAndCounters : Obligations.EveryStepKeepsListsAndCounters := by
  unfold Obligations.EveryStepKeepsListsAndCounters
  exact fun s t hs h => ⟨step_keeps (P := ControlLaw) (fun _ _ hs => hs) Move.control hs.1 h,
    step_keeps (P := CounterLaw) (fun _ _ hs => hs) Move.counters hs.2 h⟩

/-- Settles O54: every move that writes the peers or the own state writes the worst of them. -/
theorem everyStepKeepsTheSupplyLaw : Obligations.EveryStepKeepsTheSupplyLaw := by
  unfold Obligations.EveryStepKeepsTheSupplyLaw
  exact fun s t hs h => step_keeps (P := SupplyLaw) (fun _ _ hs => hs) Move.supplyLaw hs h

/-- Settles O55: the two laws together, since the charge of a frame needs the length of the frames that the list holds. -/
theorem everyStepKeepsTheSchedulerLaws : Obligations.EveryStepKeepsTheSchedulerLaws := by
  unfold Obligations.EveryStepKeepsTheSchedulerLaws
  exact fun s t hs h => step_keeps (P := fun s => ActiveLaw s ∧ CreditLaw s) (fun _ _ hs => hs)
    Move.schedulerLaws hs h

/-- Settles O56. -/
theorem everyStepKeepsTheQueueLaw : Obligations.EveryStepKeepsTheQueueLaw := by
  unfold Obligations.EveryStepKeepsTheQueueLaw
  exact fun s t hs h => step_keeps (P := QueueLaw) (fun _ _ hs => hs) Move.queueLaw hs h

/-- Settles O57. -/
theorem everyStepKeepsTheTrainingLaw : Obligations.EveryStepKeepsTheTrainingLaw := by
  unfold Obligations.EveryStepKeepsTheTrainingLaw
  exact fun s t hs h => step_keeps (P := TrainingLaw) (fun _ _ hs => hs) Move.trainingLaw hs h

/-- Settles O58. -/
theorem everyStepKeepsTheClaimLaw : Obligations.EveryStepKeepsTheClaimLaw := by
  unfold Obligations.EveryStepKeepsTheClaimLaw
  exact fun s t hs h => step_keeps (P := ClaimLaw) (fun _ _ hs => hs) Move.claimLaw hs h

/-- Settles O59. -/
theorem everyStepKeepsTheTestLaw : Obligations.EveryStepKeepsTheTestLaw := by
  unfold Obligations.EveryStepKeepsTheTestLaw
  exact fun s t hs h => step_keeps (P := TestLaw) (fun _ _ hs => hs) Move.testLaw hs h

end Sys2Proof.Machine
end

section
/-! SUPPORT. The commands that are refused, the front command, and the laws right after reset. -/

namespace Sys2Proof.Machine

/-! ## What is refused (log 23) -/

theorem heard_next (f : State → State) (s : State) : ∃ t, heard f s = .next t := by
  unfold heard
  split
  · exact ⟨s, rfl⟩
  · exact ⟨_, rfl⟩

theorem checked_heard (ok : Bool) (f : State → State) (s : State) :
    (ok = false → checked ok (heard f s) = .refused .illFormed) ∧ (ok = true → ∃ t, checked ok (heard f s) = .next t) := by
  cases ok
  · exact ⟨fun _ => rfl, by simp⟩
  · exact ⟨by simp, fun _ => heard_next f s⟩

/-- A command is refused exactly where its operands are ill-formed. -/
theorem exec_outcome (c : Instr) (s : State) :
    (WellFormed c = false → exec c s = .refused .illFormed) ∧ (WellFormed c = true → ∃ t, exec c s = .next t) := by
  cases c
  case upstreamFrame | dataReceived | mreqReceived | configWrite | mreqUnknownKind => exact checked_heard _ _ s
  case hardwareReset | resetRelease | relayHoldEnd | configLoadComplete | persistenceTimerExpiry | trainTimerExpiry
    | readyTimerExpiry | idleTimerExpiry | claimExpiry | settleExpiry | renewalExpiry | deferGapComplete
    | carrierSensedInGap | successfulEnd | collision | jamEnd | lateCollision | backoffExpiry | sharePeriodExpiry
    | mainsInputChange | debounceExpiry | sampleTimerExpiry | supplySampleComplete | isolatingDeadTimeExpiry
    | restoringDeadTimeExpiry | stageSample | insulationSettleExpiry | dischargeEnd | captureComparatorChange
    | crossingConfirmed | captureLimit | blankingEnd | shotTimerExpiry | toneLevelStep | toneDurationExpiry
    | hazardReport => exact ⟨fun h => Bool.noConfusion h, fun _ => ⟨_, rfl⟩⟩
  all_goals exact ⟨fun h => Bool.noConfusion h, fun _ => heard_next _ s⟩

/-- The commands behind the one that runs wait as they stood. -/
theorem exec_pending {c : Instr} {s t : State} (h : exec c s = .next t) : t.pending = s.pending := by
  obtain ⟨u, hopening, hleads⟩ := exec_course h
  refine hleads.pending.trans ?_
  cases hopening with
  | none | hold | powered => rfl
  | isolated => simp
  | restored => simp

/-- Settles O50: an ill-formed command is refused before it does anything, and the rest of the queue is in no operation's
reach. -/
theorem onlyIllFormedCommandsAreRefused : Obligations.OnlyIllFormedCommandsAreRefused := by
  unfold Obligations.OnlyIllFormedCommandsAreRefused
  intro c s
  obtain ⟨hill, hwell⟩ := exec_outcome c s
  refine ⟨hill, fun h => ?_⟩
  obtain ⟨t, ht⟩ := hwell h
  exact ⟨t, ht, exec_pending ht⟩

/-! ## The front command (log 24) -/

/-- Settles O1: the definition of a step on a queue that is not empty. -/
theorem stepRunsFrontCommand : Obligations.StepRunsFrontCommand := by
  unfold Obligations.StepRunsFrontCommand
  intro s c rest h
  simp only [step, h]

/-! ## The laws right after reset -/

theorem reset_port (p : PortId) : State.reset.port p = Port.initial := by simp [State.reset, State.port]

theorem reset_lineState (p : PortId) : (State.reset.port p).lineState = .disabled := by rw [reset_port]; rfl

theorem reset_resetHolds : ResetHolds State.reset := ⟨fun _ => rfl, fun _ => rfl⟩

theorem reset_startLaw : StartLaw State.reset := by
  refine ⟨reset_resetHolds, fun _ => ⟨rfl, fun p => ⟨?_, ?_, ?_⟩⟩⟩
  · exact reset_lineState p
  · simp [State.reset, Fst.initial]
  · simp [State.reset, Fst.initial]

/-- Settles O60: right after reset no relay is closed, every pool is full, no port is in service, and nothing runs. -/
theorem lawsHoldAtReset : Obligations.LawsHoldAtReset := by
  unfold Obligations.LawsHoldAtReset
  refine ⟨?_, Fst.lawful_initial, ?_, counterLaw_initial State.reset, ⟨?_, fun _ t => ?_, reset_resetHolds⟩, ?_, ?_,
    ⟨reset_startLaw, ?_, fun p => ?_⟩, ⟨reset_startLaw, fun p => ?_⟩, ?_, ?_⟩
  · simp [RelayLaw, reset_port, Port.initial]
  · simp [ControlLaw, State.reset, Bau.initial]
  · refine Eq.symm (worstSupply_noPeers fun t => ?_)
    simp [State.peer, State.reset, Shu.initial, Peer.absent]
  · simp [State.peer, State.reset, Shu.initial, Peer.absent]
  · refine ⟨List.nodup_nil, fun p => ?_⟩
    exact iff_of_false List.not_mem_nil (by simp [State.eligible, reset_lineState])
  · simp [CreditLaw, State.uscPort, State.reset, Shu.initial, Usc.initial, Bau.initial, Tx.initial, Fst.initial,
      UscPort.initial]
  · intro p _
    simp [State.reset, Fst.initial]
  · simp [State.reset, Fst.initial]
  · simp [reset_lineState]
  · simp [ClaimLaw, State.claim, State.reset, Clt.initial, ClaimEntry.vacant]
  · refine (testLaw_iff _).2 ⟨reset_resetHolds, fun _ => rfl, fun p => ?_, fun h => absurd rfl h, ?_⟩
    · have htaken : State.reset.taken = none := rfl
      simp [htaken, reset_lineState]
    · simp [OnceLaw, State.reset, Tsq.initial]

end Sys2Proof.Machine
end

section
/-! SUPPORT. Proofs about the resets and the start (R2, R7, R165, R166). -/

namespace Sys2Proof.Machine

/-! ## The end of a step that starts no test and takes no request -/

/-- The end of a step has no test to start and no request to take: the card is out of RESET, no request waits, and no test
waits or one runs. -/
def Quiet (s : State) : Prop :=
  s.stc.startState ≠ .reset ∧ (s.tsq.queue = [] ∨ s.tsq.running ≠ none) ∧ s.fst.requests = []

theorem Unburdened.quiet {s : State} (h : Unburdened s) : Quiet s := ⟨h.1, .inl h.2.1, h.2.2.1⟩

/-- The end of such a step offers the waiting items and arbitrates (R62, R157). -/
theorem Quiet.settle_eq {s : State} (h : Quiet s) : settle s = txArbitrate (offerWaiting s.mga.waiting.length s) := by
  obtain ⟨hout, htests, hrequests⟩ := h
  simp [settle, hout, startChoice_of_noQueue_or_running htests, mgaWork, hrequests, mgaRun]

/-- What the arbiter does to an upstream queue: nothing, or the mark of its head (R93). -/
theorem txArbitrate_up (s : State) (q : PortId) :
    tget (txArbitrate s).fst.up q = tget s.fst.up q ∨ tget (txArbitrate s).fst.up q = markHead (tget s.fst.up q) := by
  have hdata : ∀ s : State, tget (takeData s).fst.up q = tget s.fst.up q ∨
      tget (takeData s).fst.up q = markHead (tget s.fst.up q) := by
    intro s
    obtain h | ⟨p, _, _, _, deficit, _, _, h⟩ := takeData_cases s
    · exact .inl (by rw [h])
    · by_cases hq : p = q
      · subst hq
        exact .inr (by rw [h]; exact tget_tset_self _ _ _)
      · exact .inl (by rw [h]; exact tget_tset_ne _ _ hq)
  unfold txArbitrate
  split
  · split
    · exact .inl rfl
    · unfold chooseBelowControl
      repeat' split
      all_goals first
        | exact hdata _
        | exact .inl rfl
  · exact .inl rfl

/-- The offer of the waiting items takes requests alone, and there is none (R157). -/
theorem offerWaiting_noRequests (n : Nat) {s : State} (h : s.fst.requests = []) :
    (offerWaiting n s).fst.requests = [] := by
  induction n generalizing s with
  | zero => exact h
  | succ n ih =>
    unfold offerWaiting
    split
    · exact h
    · next i rest _ =>
      split
      · refine ih ?_
        cases i with
        | notice c => exact h
        | answer a => simp [placeItem, placeAnswer, removeRequestHead, h, Fst.placeResponse, Fst.takeOut]
      · exact h

/-- All that the end of such a step writes: it offers the waiting items and arbitrates (R62, R157). -/
theorem Quiet.settle_writes {s : State} (h : Quiet s) :
    ∃ bau ports chosen ups cells records requests responses waiting, settle s = { s with
      bau := bau
      usc := { s.usc with ports := ports, chosen := chosen }
      fst := { s.fst with
        up := ups, freeCells := cells, freeRecords := records, requests := requests, responses := responses }
      mga := { s.mga with waiting := waiting } } := by
  rw [h.settle_eq]
  obtain ⟨_, _, _, _, _, ho⟩ := offerWaiting_writes s.mga.waiting.length s
  obtain ⟨_, _, _, _, ht⟩ := txArbitrate_writes (offerWaiting s.mga.waiting.length s)
  rw [ht, ho]
  exact ⟨_, _, _, _, _, _, _, _, _, rfl⟩

section
variable {s : State}

theorem Quiet.settle_pins (h : Quiet s) : (settle s).pins = s.pins := by
  obtain ⟨_, _, _, _, _, _, _, _, _, hw⟩ := h.settle_writes
  rw [hw]

theorem Quiet.settle_relayHold (h : Quiet s) : (settle s).relayHold = s.relayHold := by
  obtain ⟨_, _, _, _, _, _, _, _, _, hw⟩ := h.settle_writes
  rw [hw]

theorem Quiet.settle_stc (h : Quiet s) : (settle s).stc = s.stc := by
  obtain ⟨_, _, _, _, _, _, _, _, _, hw⟩ := h.settle_writes
  rw [hw]

theorem Quiet.settle_cfg (h : Quiet s) : (settle s).cfg = s.cfg := by
  obtain ⟨_, _, _, _, _, _, _, _, _, hw⟩ := h.settle_writes
  rw [hw]

theorem Quiet.settle_ports (h : Quiet s) : (settle s).ports = s.ports := by
  obtain ⟨_, _, _, _, _, _, _, _, _, hw⟩ := h.settle_writes
  rw [hw]

theorem Quiet.settle_shu (h : Quiet s) : (settle s).shu = s.shu := by
  obtain ⟨_, _, _, _, _, _, _, _, _, hw⟩ := h.settle_writes
  rw [hw]

theorem Quiet.settle_clt (h : Quiet s) : (settle s).clt = s.clt := by
  obtain ⟨_, _, _, _, _, _, _, _, _, hw⟩ := h.settle_writes
  rw [hw]

theorem Quiet.settle_tsq (h : Quiet s) : (settle s).tsq = s.tsq := by
  obtain ⟨_, _, _, _, _, _, _, _, _, hw⟩ := h.settle_writes
  rw [hw]

theorem Quiet.settle_msu (h : Quiet s) : (settle s).msu = s.msu := by
  obtain ⟨_, _, _, _, _, _, _, _, _, hw⟩ := h.settle_writes
  rw [hw]

theorem Quiet.settle_smn (h : Quiet s) : (settle s).smn = s.smn := by
  obtain ⟨_, _, _, _, _, _, _, _, _, hw⟩ := h.settle_writes
  rw [hw]

theorem Quiet.settle_pending (h : Quiet s) : (settle s).pending = s.pending := by
  obtain ⟨_, _, _, _, _, _, _, _, _, hw⟩ := h.settle_writes
  rw [hw]

theorem Quiet.settle_port (h : Quiet s) : (settle s).port = s.port := by
  simp only [State.port, funext_iff, h.settle_ports, implies_true]

theorem Quiet.settle_flags (h : Quiet s) : (settle s).mga.flags = s.mga.flags := by
  obtain ⟨_, _, _, _, _, _, _, _, _, hw⟩ := h.settle_writes
  rw [hw]

theorem Quiet.settle_mask (h : Quiet s) : (settle s).mga.mask = s.mga.mask := by
  obtain ⟨_, _, _, _, _, _, _, _, _, hw⟩ := h.settle_writes
  rw [hw]

theorem Quiet.settle_portCounter (h : Quiet s) (p : PortId) (c : PortCounter) :
    (settle s).portCounter p c = s.portCounter p c := by
  obtain ⟨_, _, _, _, _, _, _, _, _, hw⟩ := h.settle_writes
  rw [hw]
  rfl

theorem Quiet.settle_cardCounter (h : Quiet s) (c : CardCounter) : (settle s).cardCounter c = s.cardCounter c := by
  obtain ⟨_, _, _, _, _, _, _, _, _, hw⟩ := h.settle_writes
  rw [hw]
  rfl

theorem Quiet.settle_down (h : Quiet s) : (settle s).fst.down = s.fst.down := by
  obtain ⟨_, _, _, _, _, _, _, _, _, hw⟩ := h.settle_writes
  rw [hw]

theorem Quiet.settle_pull (h : Quiet s) : (settle s).fst.pull = s.fst.pull := by
  obtain ⟨_, _, _, _, _, _, _, _, _, hw⟩ := h.settle_writes
  rw [hw]

theorem Quiet.settle_requests (h : Quiet s) : (settle s).fst.requests = [] := by
  obtain ⟨_, _, _, _, ht⟩ := txArbitrate_writes (offerWaiting s.mga.waiting.length s)
  rw [h.settle_eq, ht]
  exact offerWaiting_noRequests _ h.2.2

theorem Quiet.settle_up (h : Quiet s) (q : PortId) :
    tget (settle s).fst.up q = tget s.fst.up q ∨ tget (settle s).fst.up q = markHead (tget s.fst.up q) := by
  obtain ⟨_, _, _, _, _, ho⟩ := offerWaiting_writes s.mga.waiting.length s
  have harbiter := txArbitrate_up (offerWaiting s.mga.waiting.length s) q
  rw [← h.settle_eq, ho] at harbiter
  exact harbiter

theorem Quiet.settle_active (h : Quiet s) : (settle s).usc.active = s.usc.active := by
  obtain ⟨_, _, _, _, _, _, _, _, _, hw⟩ := h.settle_writes
  rw [hw]

end

/-! ## The hardware reset (R165) -/

theorem settle_of_reset {s : State} (h : s.stc.startState = .reset) : settle s = s := if_pos h

theorem exec_hardwareReset (powerUp : Bool) (s : State) :
    exec (.hardwareReset powerUp) s = .next (hardwareReset powerUp s) :=
  congrArg Host.Outcome.next (settle_of_reset rfl)

theorem hardwareReset_port (powerUp : Bool) (s : State) (p : PortId) :
    (hardwareReset powerUp s).port p = if powerUp then (s.port p).afterPowerUp else (s.port p).afterReset := by
  cases powerUp <;> simp [hardwareReset, State.port, tget]

theorem portAtReset_afterReset (r : Port) : PortAtReset r.afterReset := by simp [PortAtReset, Port.afterReset, Port.initial]

theorem portAtReset_afterPowerUp (r : Port) : PortAtReset r.afterPowerUp := by
  simp [PortAtReset, Port.afterPowerUp, Port.initial]

/-- What every block holds at its reset values, beside the ports. -/
theorem commonReset_of_ports {t : State} (hports : ∀ p, PortAtReset (t.port p) ∧ (t.port p).testClosed = false)
    (h : t = { blocksReset t with pins := t.pins, ports := t.ports, relayHold := t.relayHold }) :
    CommonReset t ∧ BusAtReset t.bau ∧ RecordsCleared t ∧ t.stc.startState = .reset := by
  rw [h] at hports ⊢
  refine ⟨⟨hports, ?_, ?_, ?_, ?_, rfl, rfl, rfl, ?_, ?_, rfl, rfl, rfl, rfl, ?_, rfl⟩, ?_, ?_, rfl⟩
  · simp [StoreAtReset, blocksReset, Fst.initial]
  · simp [ShareAtReset, blocksReset, Shu.initial, Peer.absent]
  · simp [SchedulerAtReset, blocksReset, Usc.initial, UscPort.initial]
  · simp [ClaimsAtReset, blocksReset, Clt.initial, ClaimEntry.vacant]
  · simp [MeasurementAtReset, blocksReset, Msu.initial]
  · simp [SupplyAtReset, blocksReset, Smn.initial]
  · simp [blocksReset, Stc.initial]
  · simp [BusAtReset, blocksReset, Bau.initial, Tx.initial]
  · simp [RecordsCleared, blocksReset, Tsq.initial, Mga.initial, State.portCounter, State.cardCounter, Counter.zero]

/-- Settles O2: the blocks' reset values, and the two records of a port after a reset. -/
theorem hardwareResetGivesResetValues : Obligations.HardwareResetGivesResetValues := by
  unfold Obligations.HardwareResetGivesResetValues
  constructor
  · obtain ⟨hcommon, hbus, hrecords, hstart⟩ := commonReset_of_ports (t := State.reset)
      (fun p => by rw [reset_port]; simp [PortAtReset, Port.initial]) rfl
    exact ⟨hcommon, hbus, hrecords, hstart, fun p => by rw [reset_port]; rfl⟩
  · intro powerUp s
    obtain ⟨hcommon, hbus, hrecords, hstart⟩ := commonReset_of_ports (t := hardwareReset powerUp s) (fun p => by
      rw [hardwareReset_port]
      cases powerUp
      · exact ⟨portAtReset_afterReset _, rfl⟩
      · exact ⟨portAtReset_afterPowerUp _, rfl⟩) rfl
    refine ⟨_, exec_hardwareReset powerUp s, hcommon, hbus, hrecords, hstart, rfl, rfl, fun p => ?_⟩
    rw [hardwareReset_port]
    cases powerUp
    · exact ⟨(Bool.false_or _).symm, rfl⟩
    · exact ⟨rfl, rfl⟩

/-! ## The end of LOADING (R166, R169) -/

theorem takeCfg_port (c : Cfg) (s : State) (p : PortId) :
    (takeCfg c s).port p = Port.mapped (tget c.portMap p) (s.port p) := by
  simp [takeCfg, State.port, tget_tableOfPorts]

/-- What the end of LOADING writes, beside the first sample's request (R166, R169). -/
theorem endOfLoading_spec (c : Cfg) (s : State) :
    let t := endOfLoading c s
    t.pins = s.pins ∧ t.relayHold = s.relayHold ∧ t.stc = { s.stc with startState := .joining, joinCount := 0 } ∧
      t.cfg = c ∧ (∀ p, t.port p = Port.mapped (tget c.portMap p) (s.port p)) ∧ t.fst = s.fst ∧
      t.shu = { s.shu with cWork := workingCapacity c s.shu.notice } ∧ t.tsq = s.tsq ∧
      t.smn = { s.smn with sampleTimer := none } ∧ t.mga = { s.mga with mask := c.noticeMask } := by
  have hport : ∀ p, (endOfLoading c s).port p = (takeCfg c s).port p := fun p => by
    simp [endOfLoading, enterJoining, State.port]
  refine ⟨?_, ?_, ?_, ?_, fun p => (hport p).trans (takeCfg_port c s p), ?_, ?_, ?_, ?_, ?_⟩ <;>
    simp [endOfLoading, enterJoining, takeCfg, requestSample]

/-- The first sample's request leaves the hazard reference as the configuration set it (R134). -/
theorem endOfLoading_hazardRef (c : Cfg) (s : State) : (endOfLoading c s).msu.hazardRef = c.hazardThreshold := by
  have hgrant : ∀ t : State, (grantConverter t).msu.hazardRef = t.msu.hazardRef := by
    intro t
    unfold grantConverter
    repeat' split
    · rfl
    · rfl
    · unfold atGrant
      split <;> rfl
    · rfl
  unfold endOfLoading enterJoining requestSample requestSupply
  split
  · rfl
  · rw [hgrant]
    rfl

/-- LOADING as the straps are sampled (R144, R165). -/
def strapped (s : State) : State :=
  { s with
    stc := { s.stc with startState := .loading, station := s.pins.station.toFin, startMode := s.pins.startMode }
    smn := { s.smn with mainsSeen := s.pins.mains, debounce := false } }

theorem boot_waits {s : State} (h : s.pins.startMode = 0 ∨ s.pins.startMode = 2) : boot s = strapped s := by
  obtain h | h := h <;> simp [boot, strapped, startModeOf, h]

theorem boot_defaults {s : State} (h : s.pins.startMode = 1 ∨ s.pins.startMode = 3) :
    boot s = endOfLoading defaultCfg (strapped s) := by
  obtain h | h := h <;> simp [boot, strapped, startModeOf, h]

/-! ## The release of the reset input, and the end of the hold (R7, R165) -/

/-- The card as the reset input is released, its elapsed hold ended, before the straps are sampled. -/
def released (station : BitVec 3) (mode : BitVec 2) (mains : Bool) (s : State) : State :=
  let s1 := { s with pins := { resetAsserted := false, station := station, startMode := mode, mains := mains } }
  if s1.relayHold = .elapsed then endRelayHold s1 else s1

theorem exec_resetRelease {s : State} (station : BitVec 3) (mode : BitVec 2) (mains : Bool)
    (h : s.pins.resetAsserted = true) :
    exec (.resetRelease station mode mains) s = .next (settle (boot (released station mode mains s))) := by
  show event (releaseReset station mode mains) s = _
  simp only [event, releaseReset, h, if_true, released]

theorem released_keeps (station : BitVec 3) (mode : BitVec 2) (mains : Bool) (s : State) :
    let u := released station mode mains s
    u.pins = { resetAsserted := false, station := station, startMode := mode, mains := mains } ∧ u.stc = s.stc ∧
      u.cfg = s.cfg ∧ u.shu = s.shu ∧ u.tsq = s.tsq ∧ u.fst = s.fst ∧ u.mga = s.mga := by
  simp only [released]
  split <;> exact ⟨rfl, rfl, rfl, rfl, rfl, rfl, rfl⟩

theorem released_elapsed {s : State} (station : BitVec 3) (mode : BitVec 2) (mains : Bool) (h : s.relayHold = .elapsed) :
    (released station mode mains s).relayHold = .none ∧
      ∀ p, (released station mode mains s).port p = (s.port p).endHold := by
  have hu : released station mode mains s = endRelayHold
      { s with pins := { resetAsserted := false, station := station, startMode := mode, mains := mains } } := if_pos h
  rw [hu]
  exact ⟨rfl, fun p => endRelayHold_port _ p⟩

theorem released_running {s : State} (station : BitVec 3) (mode : BitVec 2) (mains : Bool) (h : s.relayHold ≠ .elapsed) :
    (released station mode mains s).relayHold = s.relayHold ∧ (released station mode mains s).ports = s.ports := by
  have hu : released station mode mains s =
      { s with pins := { resetAsserted := false, station := station, startMode := mode, mains := mains } } := if_neg h
  rw [hu]
  exact ⟨rfl, rfl⟩

theorem endHold_service (r : Port) :
    r.endHold.serviceHeld = false ∧ r.endHold.serviceClosed = (r.serviceClosed || (r.serviceHeld && !r.testClosed)) := by
  obtain ⟨h, he⟩ | ⟨h, he⟩ := endHold_cases r <;> rw [he] <;> simp [h]

/-- What the start after a release gives in either mode (R144, R165): the straps, the mains input, and the relays as the hold
left them. -/
theorem boot_spec (u : State) :
    let t := boot u
    t.stc.station = u.pins.station.toFin ∧ t.stc.startMode = u.pins.startMode ∧ t.smn.mainsSeen = u.pins.mains ∧
      t.smn.debounce = false ∧ t.pins = u.pins ∧ t.relayHold = u.relayHold ∧
      (∀ p, (t.port p).serviceHeld = (u.port p).serviceHeld ∧ (t.port p).serviceClosed = (u.port p).serviceClosed) ∧
      t.stc.startState ≠ .reset ∧ t.tsq = u.tsq ∧ t.fst = u.fst := by
  have hmodes : ∀ m : BitVec 2, (m = 0 ∨ m = 2) ∨ (m = 1 ∨ m = 3) := by decide
  obtain h | h := hmodes u.pins.startMode
  · rw [boot_waits h]
    exact ⟨rfl, rfl, rfl, rfl, rfl, rfl, fun p => ⟨rfl, rfl⟩, by simp [strapped], rfl, rfl⟩
  · rw [boot_defaults h]
    obtain ⟨hpins, hhold, hstc, -, hport, hfst, -, htsq, hsmn, -⟩ := endOfLoading_spec defaultCfg (strapped u)
    simp only [hpins, hhold, hstc, hport, hfst, htsq, hsmn]
    exact ⟨rfl, rfl, rfl, rfl, rfl, rfl, fun p => ⟨rfl, rfl⟩, by simp, rfl, rfl⟩

theorem defaultPortMap_fields (p : PortId) :
    let m := tget defaultCfg.portMap p
    m.admin = true ∧ m.priority = false ∧ m.binder.val = p.val ∧ m.weightOverride = 0 := by
  simp [defaultCfg, tget_tableOfPorts, defaultPortMap]

theorem exec_relayHoldEnd (s : State) : exec .relayHoldEnd s = event relayHoldExpires s := rfl

/-- Settles O3: the release samples the straps on the levels of its operands, and the hold's end closes the held relays whose
test relay is open. -/
theorem resetReleaseAndHoldEnd : Obligations.ResetReleaseAndHoldEnd := by
  unfold Obligations.ResetReleaseAndHoldEnd
  refine ⟨fun s station mode mains hasserted hqueue hrequests hwaiting => ?_, fun s hrunning => ⟨?_, ?_⟩⟩
  · obtain ⟨hpins, -, hcfg, hshu, htsq, hfst, -⟩ := released_keeps station mode mains s
    have helapsed := released_elapsed (s := s) station mode mains
    have hrunning := released_running (s := s) station mode mains
    rw [exec_resetRelease station mode mains hasserted]
    generalize released station mode mains s = u at *
    obtain ⟨hstation, hmode, hseen, hdebounce, hbpins, hhold, hrelays, hout, hbtsq, hbfst⟩ := boot_spec u
    have hquiet : Quiet (boot u) := ⟨hout, .inl (by rw [hbtsq, htsq, hqueue]), by rw [hbfst, hfst, hrequests]⟩
    refine ⟨_, rfl, ?_⟩
    simp only [hquiet.settle_stc, hquiet.settle_smn, hquiet.settle_pins, hquiet.settle_relayHold, hquiet.settle_port,
      hquiet.settle_cfg, hquiet.settle_shu]
    refine ⟨by rw [hstation, hpins], by rw [hmode, hpins], by rw [hseen, hpins], hdebounce, by rw [hbpins, hpins],
      fun h => ?_, fun h => ?_, fun h => ?_, fun h => ?_⟩
    · obtain ⟨hnone, hport⟩ := helapsed h
      refine ⟨by rw [hhold, hnone], fun p => ?_⟩
      rw [(hrelays p).1, (hrelays p).2, hport]
      exact endHold_service _
    · obtain ⟨hsame, hports⟩ := hrunning h
      refine ⟨by rw [hhold, hsame], fun p => ?_⟩
      rw [(hrelays p).1, (hrelays p).2]
      simp only [State.port, hports, and_self]
    · rw [boot_waits (by simpa [hpins] using h)]
      exact ⟨rfl, hcfg, hshu⟩
    · obtain ⟨-, -, hstc, hnewcfg, hport, -⟩ := endOfLoading_spec defaultCfg (strapped u)
      rw [boot_defaults (by simpa [hpins] using h), hstc]
      refine ⟨rfl, hnewcfg, fun p => ?_⟩
      rw [hport]
      exact defaultPortMap_fields p
  · intro hasserted hreset
    have hexpires : relayHoldExpires s = { s with relayHold := .elapsed } := by
      simp [relayHoldExpires, hrunning, hasserted]
    rw [exec_relayHoldEnd, event, hexpires]
    exact congrArg Host.Outcome.next (settle_of_reset hreset)
  · intro hreleased hu
    have hexpires : relayHoldExpires s = endRelayHold s := by simp [relayHoldExpires, hrunning, hreleased]
    have hquiet : Quiet (endRelayHold s) := hu.quiet
    refine ⟨settle (endRelayHold s), by rw [exec_relayHoldEnd, event, hexpires], hquiet.settle_relayHold, fun p => ?_⟩
    rw [hquiet.settle_port, endRelayHold_port]
    rfl

end Sys2Proof.Machine
end

section
/-! SUPPORT. Proofs about the stored configuration (R166, R168, R170, R175). -/

namespace Sys2Proof.Machine

/-! ## The words of an image -/

/-- A word of an image, 0 where it ends before. -/
def wordAt (img : List Word16) (i : Nat) : Nat := (img[i]?.getD 0).toNat

theorem fieldWord_eq (img : List Word16) (i lo hi d : Nat) :
    fieldWord img i lo hi d = if i < img.length then max lo (min hi (wordAt img i)) else d := by
  unfold fieldWord wordAt
  by_cases h : i < img.length
  · simp [h, clamp]
  · simp [h]

theorem fieldPair_eq (img : List Word16) (i lo hi d : Nat) : fieldPair img i lo hi d =
    if i + 1 < img.length then max lo (min hi (wordAt img i * 65536 + wordAt img (i + 1))) else d := by
  unfold fieldPair wordAt
  by_cases h : i + 1 < img.length
  · have hi : i < img.length := by omega
    simp [h, hi, clamp]
  · simp [h]

theorem critBelow_eq (low crit : Nat) : critBelow low crit = min crit (low - 10) := by
  unfold critBelow
  split <;> omega

/-- The value of an optional word, by whether the image reaches it. -/
theorem wordMatch_eq {α : Type} (img : List Word16) (i : Nat) (f : Word16 → α) (d : α) :
    (match img[i]? with
      | some w => f w
      | none => d) = if i < img.length then f (BitVec.ofNat 16 (wordAt img i)) else d := by
  unfold wordAt
  by_cases h : i < img.length <;> simp [h]

theorem wordAt_lt (img : List Word16) (i : Nat) : wordAt img i < 65536 := (img[i]?.getD 0).isLt

theorem ofNat_wordAt_toNat (img : List Word16) (i : Nat) : (BitVec.ofNat 16 (wordAt img i)).toNat = wordAt img i := by
  simp [wordAt]

theorem tget_tableOfEight {α : Type} (f : Fin 8 → α) (i : Fin 8) : tget (tableOfEight f) i = f i := by
  match i with
  | 0 | 1 | 2 | 3 | 4 | 5 | 6 | 7 => rfl

/-! ## The fields of an image (R168, R170, R175) -/

section
variable (img : List Word16)

theorem imageCfg_priorityEqual : (imageCfg img).priorityEqual = true ↔ 3 < img.length ∧ wordAt img 3 = 1 := by
  have hmatch : (imageCfg img).priorityEqual = _ := wordMatch_eq img 3 (fun w => w == 1) false
  rw [hmatch]
  have hword := ofNat_wordAt_toNat img 3
  split
  · next h => simp [h, ← BitVec.toNat_inj, hword]
  · next h => simp [h]

theorem imageCfg_autoTest : (imageCfg img).autoTest = false ↔ 4 < img.length ∧ wordAt img 4 = 0 := by
  have hmatch : (imageCfg img).autoTest = _ := wordMatch_eq img 4 (fun w => w != 0) true
  rw [hmatch]
  have hword := ofNat_wordAt_toNat img 4
  split
  · next h => simp [h, ← BitVec.toNat_inj, hword]
  · next h => simp [h]

theorem imageCfg_noticeMask :
    (imageCfg img).noticeMask.toNat = if 11 < img.length then wordAt img 11 % 1024 else 1023 := by
  have hmatch : (imageCfg img).noticeMask = _ := wordMatch_eq img 11 (fun w => w.extractLsb' 0 10) 1023
  have hword := ofNat_wordAt_toNat img 11
  rw [hmatch]
  split
  · simp [hword]
  · rfl

theorem imageCfg_filterLength : (imageCfg img).filterLength =
    if img.length ≤ 24 then 8 else if wordAt img 24 < 8 then 4 else if wordAt img 24 < 16 then 8 else 16 := by
  have hmatch : (imageCfg img).filterLength = _ := wordMatch_eq img 24 (fun w => filterOfWord w.toNat) 8
  rw [hmatch, ofNat_wordAt_toNat]
  by_cases h : 24 < img.length
  · rw [if_pos h, if_neg (by omega), filterOfWord]
  · rw [if_neg h, if_pos (by omega)]

theorem imageProfile_present (i : Fin 8) : (imageProfile img i).present =
    if 32 + 8 * i.val < img.length then decide (wordAt img (32 + 8 * i.val) ≠ 0) else (tget defaultProfiles i).present := by
  have hmatch : (imageProfile img i).present = _ :=
    wordMatch_eq img (32 + 8 * i.val) (fun w => w != 0) (tget defaultProfiles i).present
  have hword := ofNat_wordAt_toNat img (32 + 8 * i.val)
  rw [hmatch]
  split
  · rw [Bool.eq_iff_iff]
    simp [← BitVec.toNat_inj, hword]
  · rfl

theorem imagePortMap_fields (p : PortId) :
    let m := imagePortMap img p
    if 96 + p.val < img.length then
      m.binder.val = wordAt img (96 + p.val) % 32 ∧ m.admin = (wordAt img (96 + p.val)).testBit 5 ∧
        m.priority = (wordAt img (96 + p.val)).testBit 6 ∧ m.weightOverride.toNat = wordAt img (96 + p.val) / 256
    else m.binder.val = p.val ∧ m.admin = true ∧ m.priority = false ∧ m.weightOverride = 0 := by
  intro m
  have hmatch : m = _ := wordMatch_eq img (96 + p.val) (fun w =>
    { binder := (w.extractLsb' 0 5).toFin, admin := w.getLsbD 5, priority := w.getLsbD 6,
      weightOverride := w.extractLsb' 8 8 : PortMap }) (defaultPortMap p)
  have hword := ofNat_wordAt_toNat img (96 + p.val)
  have hlt := wordAt_lt img (96 + p.val)
  rw [hmatch]
  by_cases h : 96 + p.val < img.length
  · simp only [if_pos h]
    generalize BitVec.ofNat 16 (wordAt img (96 + p.val)) = w at hword
    rw [← hword] at hlt ⊢
    refine ⟨by simp, rfl, rfl, ?_⟩
    simp [Nat.shiftRight_eq_div_pow]
    omega
  · simp only [if_neg h]
    exact ⟨rfl, rfl, rfl, rfl⟩

end

theorem imageCfg_nil : imageCfg [] = defaultCfg := by
  have hprofiles : tableOfEight (imageProfile []) = defaultProfiles := by decide
  have hports : imagePortMap [] = defaultPortMap := by
    funext p
    rfl
  simp only [imageCfg, hprofiles, hports]
  rfl

/-! ## The check of a stored image (R166) -/

theorem imageSum_eq (ws : List Word16) : imageSum ws = (ws.map BitVec.toNat).sum % 65536 := by
  have hfold : ∀ (l : List Word16) (n : Nat), l.foldl (fun n w => n + w.toNat) n = n + (l.map BitVec.toNat).sum := by
    intro l
    induction l with
    | nil => simp
    | cons w l ih =>
      intro n
      rw [List.foldl_cons, ih, List.map_cons, List.sum_cons, Nat.add_assoc]
  rw [imageSum, hfold, Nat.zero_add]

/-- What R166 asks of a stored image whose first word is the length. -/
def GoodWords (words : List Word16) (n : Word16) : Prop :=
  16 ≤ n.toNat ∧ n.toNat ≤ 512 ∧ n.toNat ≤ words.length ∧ ((words.take n.toNat).map BitVec.toNat).sum % 65536 = 0

theorem goodImage_of_good {words : List Word16} {n : Word16} (hn : words.head? = some n) (h : GoodWords words n) :
    goodImage words = some (words.take n.toNat) := by
  obtain ⟨hlow, hhigh, hread, hsum⟩ := h
  cases words with
  | nil => simp at hn
  | cons w ws =>
    obtain rfl : w = n := by simpa using hn
    rw [← imageSum_eq] at hsum
    have hlen : ((w :: ws).take w.toNat).length = w.toNat := by simpa using hread
    simp only [goodImage, hlow, hhigh, hlen, hsum, decide_true, beq_self_eq_true, Bool.and_self, if_true]

theorem goodImage_of_bad {words : List Word16} (h : ∀ n, words.head? = some n → ¬GoodWords words n) :
    goodImage words = none := by
  cases words with
  | nil => rfl
  | cons w ws =>
    have hbad := h w rfl
    simp only [goodImage]
    rw [if_neg]
    intro hgood
    simp only [Bool.and_eq_true, decide_eq_true_eq, beq_iff_eq, List.length_take] at hgood
    obtain ⟨⟨⟨hlow, hhigh⟩, hlen⟩, hsum⟩ := hgood
    rw [imageSum_eq] at hsum
    exact hbad ⟨hlow, hhigh, by omega, hsum⟩

theorem exec_configLoadComplete (words : List Word16) (s : State) :
    exec (.configLoadComplete words) s = event (configLoaded words) s := rfl

/-- The end of LOADING leaves nothing that the end of the step would take up but waiting notices. -/
theorem endOfLoading_quiet {c : Cfg} {s : State} (hq : s.tsq.queue = []) (hr : s.fst.requests = []) :
    Quiet (endOfLoading c s) := by
  obtain ⟨-, -, hstc, -, -, hfst, -, htsq, -⟩ := endOfLoading_spec c s
  exact ⟨by rw [hstc]; simp, .inl (by rw [htsq, hq]), by rw [hfst, hr]⟩

/-- Settles O4: the layout's words field by field, and the two ends of LOADING under STORED. -/
theorem storedImageEndsLoading : Obligations.StoredImageEndsLoading := by
  unfold Obligations.StoredImageEndsLoading
  refine ⟨fun img => ?_, imageCfg_nil, ⟨rfl, rfl, rfl, rfl, by decide⟩, fun s words hu hloading hmode => ⟨?_, ?_⟩⟩
  · refine ⟨fieldWord_eq img 2 1 65535 390, imageCfg_priorityEqual img, imageCfg_autoTest img, fieldWord_eq img 5 24 1024 192,
      fieldWord_eq img 6 24 1024 256, fieldWord_eq img 7 0 7 2, fieldWord_eq img 8 0 255 6, fieldWord_eq img 9 300 800 460,
      ?_, imageCfg_noticeMask img, fieldPair_eq img 12 1000 100000 10000, fieldWord_eq img 14 64 1024 384,
      fieldWord_eq img 15 80 2047 480, fieldWord_eq img 16 1 480 40, fieldWord_eq img 17 10 2000 200,
      fieldPair_eq img 18 1000 10000000 100000, fieldWord_eq img 20 20 100 50, fieldWord_eq img 21 100 300 200,
      fieldWord_eq img 22 100 20000 8000, fieldWord_eq img 23 1 255 2, imageCfg_filterLength img,
      fieldWord_eq img 25 1 2047 12, fieldWord_eq img 26 2 50 10, fun i => ?_, fun p => ?_⟩
    · refine (critBelow_eq _ _).trans ?_
      rw [fieldWord_eq]
      rfl
    · have hprofile : tget (imageCfg img).profiles i = imageProfile img i := tget_tableOfEight _ i
      rw [hprofile]
      exact ⟨imageProfile_present img i, fieldPair_eq .., fieldPair_eq .., fieldWord_eq .., fieldWord_eq .., fieldWord_eq ..⟩
    · have hmap : tget (imageCfg img).portMap p = imagePortMap img p := tget_tableOfPorts _ p
      rw [hmap]
      exact imagePortMap_fields img p
  · intro n hn hlow hhigh hread hsum
    have hloaded : configLoaded words s = endOfLoading (imageCfg (words.take n.toNat)) s := by
      simp [configLoaded, hloading, hmode, startModeOf, goodImage_of_good hn ⟨hlow, hhigh, hread, hsum⟩]
    have hquiet : Quiet (endOfLoading (imageCfg (words.take n.toNat)) s) := endOfLoading_quiet hu.2.1 hu.2.2.1
    obtain ⟨-, -, hstc, hcfg, hport, -, hshu, -, -, hmga⟩ := endOfLoading_spec (imageCfg (words.take n.toNat)) s
    refine ⟨_, by rw [exec_configLoadComplete, event, hloaded], ?_⟩
    simp only [hquiet.settle_stc, hquiet.settle_cfg, hquiet.settle_mask, hquiet.settle_msu, hquiet.settle_shu,
      hquiet.settle_port, hcfg]
    refine ⟨by rw [hstc], trivial, by rw [hmga], endOfLoading_hazardRef _ s, by rw [hshu], fun p => ?_⟩
    rw [hport]
    exact ⟨rfl, rfl, rfl, rfl⟩
  · intro hbad
    have hloaded : configLoaded words s = endOfLoading defaultCfg (raiseNotice .configDefaulted s) := by
      simp [configLoaded, hloading, hmode, startModeOf, goodImage_of_bad hbad]
    have hquiet : Quiet (endOfLoading defaultCfg (raiseNotice .configDefaulted s)) :=
      endOfLoading_quiet (by simpa using hu.2.1) (by simpa using hu.2.2.1)
    obtain ⟨-, -, hstc, hcfg, -, -, -, -, -, hmga⟩ := endOfLoading_spec defaultCfg (raiseNotice .configDefaulted s)
    refine ⟨_, by rw [exec_configLoadComplete, event, hloaded], ?_, ?_, ?_⟩
    · rw [hquiet.settle_stc, hstc]
    · rw [hquiet.settle_cfg, hcfg]
    · rw [State.flagSet, hquiet.settle_flags, hmga]
      exact raiseNotice_flagSet_self .configDefaulted s

end Sys2Proof.Machine
end

section
/-! SUPPORT. Proofs about the line-port links: the flush, changes of line state, and training attempts (R8, R12, R23 to R33,
R46). -/

namespace Sys2Proof.Machine

theorem tset_tset {α : Type} {n : Nat} (v : Tbl α n) (i : Fin n) (x y : α) : tset (tset v i x) i y = tset v i y :=
  Vector.set_set ..

/-! ## The flush (R46) -/

/-- What a flush leaves is in flight already, so that the arbiter's mark changes nothing of it. -/
theorem markHead_keptByFlush (q : List Frame) : markHead (keptByFlush q) = keptByFlush q := by
  cases q with
  | nil => rfl
  | cons f fs =>
    obtain ⟨kind, port, payload, inFlight⟩ := f
    cases inFlight <;> rfl

theorem flushPort_portCounter (p q : PortId) (c : PortCounter) (s : State) :
    (flushPort p s).portCounter q c =
      if p = q ∧ PortCounter.flushed = c then
        (s.portCounter p .flushed).rise (flushedFrom (tget s.fst.up p) ++ tget s.fst.down p).length
      else s.portCounter q c :=
  countPort_portCounter _ p q .flushed c _

/-- Of the Frame Store a flush writes the pools, the port's two queues and its pull flag, and the response queue for the
notice of a saturated count alone. -/
theorem flushPort_fst (p : PortId) (s : State) : ∃ cells records responses, (flushPort p s).fst =
    { s.fst with
      up := tset s.fst.up p (keptByFlush (tget s.fst.up p)), down := tset s.fst.down p [],
      pull := tset s.fst.pull p false, freeCells := cells, freeRecords := records, responses := responses } := by
  unfold flushPort
  obtain ⟨_, _, _, h⟩ := countPort_fst p .flushed (flushedFrom (tget s.fst.up p) ++ tget s.fst.down p).length
    { s with fst := { s.fst.giveBackAll (flushedFrom (tget s.fst.up p) ++ tget s.fst.down p) with
      up := tset s.fst.up p (keptByFlush (tget s.fst.up p))
      down := tset s.fst.down p []
      pull := tset s.fst.pull p false } }
  exact ⟨_, _, _, h⟩

/-- The records that a flush removes, as the length of the queues less what it leaves. -/
theorem length_flushedFrom (q : List Frame) : (flushedFrom q).length = q.length - (keptByFlush q).length := by
  have h := congrArg List.length (flush_parts q)
  rw [List.length_append] at h
  omega

/-- Below its counter's maximum, a flush gives back just the records that it removes, with their cells. -/
theorem flushPort_pools {p : PortId} {s : State}
    (h : (s.portCounter p .flushed).saturates (flushedFrom (tget s.fst.up p) ++ tget s.fst.down p).length = false) :
    (flushPort p s).fst.freeRecords =
        s.fst.freeRecords + (flushedFrom (tget s.fst.up p) ++ tget s.fst.down p).length ∧
      (flushPort p s).fst.freeCells + cellsIn (keptByFlush (tget s.fst.up p)) =
        s.fst.freeCells + cellsIn (tget s.fst.up p) + cellsIn (tget s.fst.down p) ∧
      (flushPort p s).fst.responses = s.fst.responses := by
  have hsame : (flushPort p s).fst = { s.fst.giveBackAll (flushedFrom (tget s.fst.up p) ++ tget s.fst.down p) with
      up := tset s.fst.up p (keptByFlush (tget s.fst.up p))
      down := tset s.fst.down p []
      pull := tset s.fst.pull p false } := countPort_below h
  have hcells := congrArg cellsIn (flush_parts (tget s.fst.up p))
  rw [cellsIn_append] at hcells
  rw [hsame]
  refine ⟨rfl, ?_, rfl⟩
  simp only [Fst.giveBackAll, cellsIn_append]
  omega

/-- Settles O18: the flush's writes are read off one by one; what it keeps and what it removes make up the queue. -/
theorem flushKeepsOnlyHeadInFlight : Obligations.FlushKeepsOnlyHeadInFlight := by
  unfold Obligations.FlushKeepsOnlyHeadInFlight
  intro s p
  obtain ⟨_, _, _, hfst⟩ := flushPort_fst p s
  have hkept : tget (flushPort p s).fst.up p = keptByFlush (tget s.fst.up p) := by simp
  have hgone : (flushedFrom (tget s.fst.up p) ++ tget s.fst.down p).length =
      (tget s.fst.up p).length - (keptByFlush (tget s.fst.up p)).length + (tget s.fst.down p).length := by
    rw [List.length_append, length_flushedFrom]
  have hrise : (flushPort p s).portCounter p .flushed =
      (s.portCounter p .flushed).rise (flushedFrom (tget s.fst.up p) ++ tget s.fst.down p).length := by
    simp [flushPort_portCounter]
  have hpools := flushPort_pools (p := p) (s := s)
  rw [hgone] at hrise hpools
  refine ⟨hkept, by simp, by simp [hfst], hrise, hpools, by simp [hfst], by simp [hfst], by simp, fun q hq => ?_⟩
  simp [hfst, tget_tset_ne _ _ hq.symm]

/-! ## What a change of line state writes (R8, R11) -/

section
variable (p : PortId) (ns : LineState) (w l : Bool) (s : State)

theorem changeState_portCounter (q : PortId) {c : PortCounter} (hc : c ≠ .flushed) :
    (changeState p ns w l s).portCounter q c =
      if p = q ∧ PortCounter.sheds = c ∧ ns = .shed then (s.portCounter p .sheds).rise 1 else s.portCounter q c := by
  have hflush : ∀ (u : State) q c, PortCounter.flushed ≠ c → (flushPort p u).portCounter q c = u.portCounter q c :=
    fun u q c hc => by rw [flushPort_portCounter, if_neg (fun h => hc h.2)]
  unfold changeState
  by_cases hold : (s.port p).lineState = .inService <;> cases ns <;>
    simp [hold, LineState.flushes, countPort_portCounter, hflush, hc.symm, uscLeave, uscEnterService] <;> rfl

theorem changeState_requests : (changeState p ns w l s).fst.requests = s.fst.requests := by
  have hflush : ∀ u : State, (flushPort p u).fst.requests = u.fst.requests := fun u => by
    obtain ⟨_, _, _, h⟩ := flushPort_fst p u
    rw [h]
  have hcount : ∀ u : State, (countPort p .sheds 1 u).fst.requests = u.fst.requests := fun u => by
    obtain ⟨_, _, _, h⟩ := countPort_fst p .sheds 1 u
    rw [h]
  unfold changeState
  by_cases hold : (s.port p).lineState = .inService <;> cases ns <;>
    simp [hold, LineState.flushes, hcount, hflush, uscLeave]

theorem changeState_pull_of_flushes (h : ns.flushes = true) : (changeState p ns w l s).fst.pull = tset s.fst.pull p false := by
  have hflush : ∀ u : State, (flushPort p u).fst.pull = tset u.fst.pull p false := fun u => by
    obtain ⟨_, _, _, h⟩ := flushPort_fst p u
    rw [h]
  have hcount : ∀ u : State, (countPort p .sheds 1 u).fst.pull = u.fst.pull := fun u => by
    obtain ⟨_, _, _, h⟩ := countPort_fst p .sheds 1 u
    rw [h]
  unfold changeState
  by_cases hold : (s.port p).lineState = .inService <;> cases ns <;>
    simp [hold, LineState.flushes, hcount, hflush, tset_tset, uscLeave] at h ⊢

end

/-- A change of line state that neither leaves nor enters service nor flushes writes the port's record alone. -/
theorem changeState_eq_setPort {p : PortId} {ns : LineState} {w l : Bool} {s : State}
    (hold : (s.port p).lineState ≠ .inService) (hnew : ns = .training ∨ ns = .hold) :
    changeState p ns w l s = s.setPort p (((s.port p).leave ns l).enter ns w) := by
  obtain rfl | rfl := hnew <;> simp [changeState, hold, LineState.flushes]

theorem Quiet.changeState {s : State} (h : Quiet s) (p : PortId) (ns : LineState) (w l : Bool) :
    Quiet (changeState p ns w l s) := by
  simpa [Quiet, changeState_requests] using h

end Sys2Proof.Machine
end

section
/-! SUPPORT. Proofs about line training: activity, reports, failures and the leaving of traffic (R12, R23 to R33, R36, R153,
R154). -/

namespace Sys2Proof.Machine

/-! ## Whole outcomes of events -/

theorem event_whole {f : State → State} {s t : State} (h : f s = t) (hu : Unburdened t) :
    event f s = .next (txArbitrate t) := by
  subst h
  exact event_unburdened hu

theorem heard_whole {f : State → State} {s t : State} (hs : Unburdened s) (h : f s = t) (hu : Unburdened t) :
    heard f s = .next (txArbitrate t) := by
  rw [heard_running hs.1, event_whole h hu]

/-- A rise below the maximum raises no notice, so that nothing waits after it. -/
theorem countPort_of_below {p : PortId} {c : PortCounter} {k : Nat} {s : State}
    (h : (s.portCounter p c).saturates k = false) : countPort p c k s = risePort p c k s := by
  simp [countPort_eq, h]

theorem setPort_setPort (s : State) (p : PortId) (r t : Port) : (s.setPort p r).setPort p t = s.setPort p t := by
  simp [State.setPort, tset_tset]

theorem risePort_setPort (p : PortId) (c : PortCounter) (k : Nat) (s : State) (r : Port) :
    (risePort p c k s).setPort p r = risePort p c k (s.setPort p r) := rfl

/-! ## The records of an attempt (R4, R22, R24) -/

theorem Port.startTraining_eq_trainingRecord (r : Port) :
    ((r.leave .training false).enter .training false).startTraining = trainingRecord r := by
  by_cases hp : r.power = .on <;>
    simp [Port.startTraining, Port.leave, Port.enter, Port.needsAbandon, Port.powerTo, powerModeOf, Port.send,
      trainingRecord, hp]

theorem Port.enter_hold_eq_holdRecord {r : Port} (h : r.needsAbandon .hold = false) :
    (r.leave .hold false).enter .hold false = holdRecord r := by
  by_cases hp : r.power = .on <;>
    simp [Port.leave, Port.enter, h, Port.powerTo, powerModeOf, Port.send, holdRecord, hp]

/-- From outside traffic, the beginning of an attempt writes the port's record alone (R24). -/
theorem beginAttempt_eq_attemptRecord {s : State} {p : PortId} (htraining : (s.port p).lineState ≠ .training)
    (hservice : (s.port p).lineState ≠ .inService) :
    beginAttempt p s = s.setPort p (attemptRecord (s.claimed (s.port p).binder) (s.port p)) := by
  by_cases hc : s.claimed (s.port p).binder = true
  · have hrecord := Port.enter_hold_eq_holdRecord (r := s.port p) (by simp [Port.needsAbandon, htraining, hservice])
    rw [beginAttempt, if_pos hc, changeState_eq_setPort hservice (.inr rfl), hrecord, attemptRecord, if_pos hc]
  · rw [beginAttempt, if_neg hc, if_neg htraining, changeState_eq_setPort hservice (.inl rfl), State.modPort,
      setPort_port_self, setPort_setPort, Port.startTraining_eq_trainingRecord, attemptRecord, if_neg hc]

/-! ## The way to WAITING or SHED (R12) -/

/-- The record of a port that goes to WAITING or to SHED by the supply state, from HOLD or at a lost signal: no ABANDON goes
out, and POWER only where the mode changes (R4, R11, R12). -/
theorem toWaiting_record {s : State} {p : PortId} {l : Bool} (hsilent : (s.port p).lineState = .hold ∨ l = true)
    (hp : (s.port p).power = .on) :
    let r := (toWaiting p l s).port p
    (s.smn.cabinet = .mains ∨ s.smn.cabinet = .battery →
      r.lineState = .waiting ∧ r.power = .on ∧ r.linkOut = (s.port p).linkOut ∧ r.failures = (s.port p).failures) ∧
    (s.smn.cabinet = .low ∨ (s.smn.cabinet = .critical ∧ (s.port p).priority = true) →
      r.lineState = .shed ∧ r.wakeWatch = true ∧ r.power = .watch ∧
        r.linkOut = (s.port p).linkOut ++ [.power .watch] ∧ r.failures = 0) ∧
    (s.smn.cabinet = .critical ∧ (s.port p).priority = false →
      r.lineState = .shed ∧ r.wakeWatch = false ∧ r.power = .off ∧
        r.linkOut = (s.port p).linkOut ++ [.power .off] ∧ r.failures = 0) ∧
    r.profile = none ∧ r.phase = .none ∧ r.marginLow = 0 := by
  have habandon : ∀ ns, ((s.port p).needsAbandon ns && !l) = false := by
    intro ns
    obtain h | h := hsilent <;> simp [Port.needsAbandon, h]
  simp only [toWaiting, changeState_port_self]
  cases hc : s.smn.cabinet <;> cases hpriority : (s.port p).priority <;>
    simp [waitTarget, Port.leave, Port.enter, habandon, Port.powerTo, powerModeOf, Port.send, hp]

/-- The way to WAITING or SHED flushes the port's queues, takes it off the scheduler's list and leaves every other port alone
(R8, R12, R90). -/
theorem toWaiting_queues (p : PortId) (l : Bool) (s : State) :
    let t := toWaiting p l s
    tget t.fst.up p = keptByFlush (tget s.fst.up p) ∧ tget t.fst.down p = [] ∧ tget t.fst.pull p = false ∧
      (∀ q, q ≠ p → t.port q = s.port q ∧ tget t.fst.down q = tget s.fst.down q) := by
  have hflushes : (waitTarget s.smn.cabinet (s.port p).priority).1.flushes = true := by
    cases s.smn.cabinet <;> rfl
  simp only [toWaiting, changeState_up, changeState_down, hflushes, if_true, changeState_pull_of_flushes _ _ _ _ _ hflushes]
  exact ⟨tget_tset_self _ _ _, tget_tset_self _ _ _, tget_tset_self _ _ _,
    fun q hq => ⟨changeState_others _ _ _ _ _ _ hq.symm, tget_tset_ne _ _ hq.symm⟩⟩

/-- Only the entry to SHED counts, and it counts SHEDS (R11). -/
theorem toWaiting_sheds (p : PortId) (l : Bool) (s : State) :
    (toWaiting p l s).portCounter p .sheds =
        (if s.smn.cabinet = .mains ∨ s.smn.cabinet = .battery then s.portCounter p .sheds
        else (s.portCounter p .sheds).rise 1) ∧
      (toWaiting p l s).portCounter p .trainFails = s.portCounter p .trainFails := by
  simp only [toWaiting]
  constructor
  · rw [changeState_portCounter _ _ _ _ _ _ (by decide)]
    cases hc : s.smn.cabinet <;> simp [waitTarget]
  · rw [changeState_portCounter _ _ _ _ _ _ (by decide)]
    simp

theorem Quiet.toWaiting {s : State} (h : Quiet s) (p : PortId) (l : Bool) : Quiet (toWaiting p l s) := h.changeState ..

/-- What a flush has left of an upstream queue, the end of the step leaves too. -/
theorem Quiet.settle_kept {s : State} (h : Quiet s) {p : PortId} {q : List Frame} (hup : tget s.fst.up p = keptByFlush q) :
    tget (settle s).fst.up p = keptByFlush q := by
  obtain hs | hs := h.settle_up p
  · rw [hs, hup]
  · rw [hs, hup, markHead_keptByFlush]

/-! ## Activity (R23, R33, R154) -/

theorem exec_activityOn (p : PortId) (s : State) : exec (.activityOn p) s = heard (activityOnPort p) s := rfl

theorem exec_activityOff (p : PortId) (s : State) : exec (.activityOff p) s = heard (activityOffPort p) s := rfl

theorem exec_persistenceTimerExpiry (p : PortId) (s : State) :
    exec (.persistenceTimerExpiry p) s = event (persistenceExpires p) s := rfl

/-- Settles O5: each event is one branch of the port's line state; the way out of HOLD is R12's. -/
theorem activityLeadsToTraining : Obligations.ActivityLeadsToTraining := by
  unfold Obligations.ActivityLeadsToTraining
  refine ⟨fun s p hu hl => ?_, fun s p hu hl hwake => ?_, fun s p hu hl hp => ?_⟩
  · have hattempt := beginAttempt_eq_attemptRecord (s := s) (p := p) (by simp [hl]) (by simp [hl])
    refine ⟨heard_whole hu (by simp [activityOnPort, hl]) hu, heard_whole hu (by simp [activityOffPort, hl]) hu,
      fun htimer => event_whole (f := persistenceExpires p) ?_ hu⟩
    simp [persistenceExpires, hl, htimer, hattempt]
  · have hattempt := beginAttempt_eq_attemptRecord (s := s) (p := p) (by simp [hl]) (by simp [hl])
    refine ⟨heard_whole hu (by simp [activityOffPort, hl, hwake]) hu, fun hawaited => heard_whole hu ?_ hu,
      fun hawaited harmed => heard_whole (f := activityOnPort p) hu ?_ hu⟩
    · simp [activityOnPort, hl, hwake, hawaited]
    · simp [activityOnPort, hl, hwake, hawaited, harmed, hattempt]
  · have hquiet := hu.quiet.toWaiting p false
    obtain ⟨hmains, hlow, hcritical, -⟩ := toWaiting_record (l := false) (.inl hl) hp
    obtain ⟨hup, hdown, -, hothers⟩ := toWaiting_queues p false s
    refine ⟨settle (toWaiting p false s), ?_, ?_⟩
    · rw [exec_activityOff, heard_running hu.1, event]
      simp [activityOffPort, hl]
    · rw [hquiet.settle_port, hquiet.settle_down, hquiet.settle_kept hup]
      exact ⟨hmains, hlow, hcritical, rfl, hdown, fun q hq => (hothers q hq).1⟩

/-! ## Reports and failures (R25, R29, R30) -/

theorem exec_trainReport (p : PortId) (attempt : Byte) (down up : BitVec 20) (attenuation margin : Byte) (s : State) :
    exec (.trainReport p attempt down up attenuation margin) s =
      heard (takeReport p attempt { down := down, up := up, attenuation := attenuation, margin := margin }) s := rfl

theorem exec_trainFail (p : PortId) (attempt : Byte) (s : State) :
    exec (.trainFail p attempt) s = heard (takeTrainFail p attempt) s := rfl

/-- Settles O7: the report is stored, and the selected profile goes out with its rates. -/
theorem trainReportCommitsProfile : Obligations.TrainReportCommitsProfile := by
  unfold Obligations.TrainReportCommitsProfile
  intro s p down up attenuation margin i hu hl hphase hselect
  rw [exec_trainReport]
  refine heard_whole hu ?_ (by simpa using hu)
  simp [takeReport, hl, hphase, hselect, State.modPort, setPort_setPort, Port.send]

/-- The record after a failure and the attempt that follows it, whatever the report and the timers were before. -/
theorem Port.failed_attempt (claimed : Bool) (cause : FailCause) {r : Port} (hl : r.lineState = .training) :
    (if claimed = true then ((r.failed cause).leave .hold false).enter .hold false else (r.failed cause).startTraining) =
      afterFailure claimed cause r := by
  cases claimed
  · by_cases hcause : cause = .trainFail <;>
      simp [Port.failed, Port.startTraining, Port.send, afterFailure, retryRecord, hcause]
  · have hsilent : (r.failed cause).needsAbandon .hold = false := by
      by_cases hcause : cause = .trainFail <;> simp [Port.failed, Port.send, Port.needsAbandon, hcause, hl]
    simp only [if_true, Port.enter_hold_eq_holdRecord hsilent, afterFailure]
    by_cases hcause : cause = .trainFail <;> simp [Port.failed, Port.send, holdRecord, hcause]

/-- A failure stops the train timer, so that it is no matter whether it ran. -/
theorem afterFailure_trainTimer (claimed : Bool) (cause : FailCause) (r : Port) :
    afterFailure claimed cause { r with trainTimer := false } = afterFailure claimed cause r := by
  cases claimed <;> rfl

/-- A failure below the third counts TRAIN_FAILS and writes the port's record (R24, R29). -/
theorem trainingFailure_retries {s : State} {p : PortId} (cause : FailCause) (hl : (s.port p).lineState = .training)
    (hcount : (s.port p).failures < 2) (hbelow : (s.portCounter p .trainFails).saturates 1 = false) :
    trainingFailure p cause s = countPort p .trainFails 1
      (s.setPort p (afterFailure (s.claimed (s.port p).binder) cause (s.port p))) := by
  have hfailed : (Port.failed cause (s.port p)).lineState = .training ∧
      (Port.failed cause (s.port p)).failures = (s.port p).failures + 1 ∧
      (Port.failed cause (s.port p)).binder = (s.port p).binder := by
    unfold Port.failed
    split <;> exact ⟨hl, rfl, rfl⟩
  obtain ⟨hline, hfailures, hbinder⟩ := hfailed
  have hrise : countPort p .trainFails 1 (s.modPort p (Port.failed cause)) =
      (risePort p .trainFails 1 s).setPort p (Port.failed cause (s.port p)) := countPort_of_below hbelow
  have hclaimed : (risePort p .trainFails 1 s).claimed = s.claimed := rfl
  have hthird : (s.port p).failures + 1 < 3 := by omega
  rw [countPort_of_below (p := p) (c := .trainFails) (k := 1) (s := s.setPort p _) hbelow, ← risePort_setPort,
    ← Port.failed_attempt _ _ hl, trainingFailure]
  simp only [hrise, setPort_port_self, hfailures, hthird, if_true]
  unfold beginAttempt
  simp only [setPort_port_self, hbinder, hline, setPort_claimed, hclaimed, if_true]
  split
  · rw [changeState_eq_setPort (by simp [hline]) (.inr rfl), setPort_port_self, setPort_setPort]
  · rw [State.modPort, setPort_port_self, setPort_setPort]

/-- Settles O8: the four events end in the same failure. -/
theorem failedAttemptRetries : Obligations.FailedAttemptRetries := by
  unfold Obligations.FailedAttemptRetries
  intro s p hu hl hcount hbelow
  have hquiet : ∀ r, Unburdened (countPort p .trainFails 1 (s.setPort p r)) := fun r => by
    rw [countPort_of_below (s := s.setPort p r) hbelow]
    exact hu
  have hretries := fun cause => trainingFailure_retries (s := s) (p := p) cause hl hcount hbelow
  refine ⟨fun hphase => ?_, fun hphase htimer => ?_, fun hphase htimer => ?_, fun down up attenuation margin hphase hnone => ?_⟩
  · refine heard_whole (f := takeTrainFail p _) hu ?_ (hquiet _)
    obtain h | h := hphase <;> simp [takeTrainFail, hl, h, hretries]
  · refine event_whole (f := trainTimerExpires p) ?_ (hquiet _)
    simp [trainTimerExpires, hl, hphase, htimer, hretries]
  · refine event_whole (f := readyTimerExpires p) ?_ (hquiet _)
    simp [readyTimerExpires, hl, hphase, htimer, hretries]
  · rw [exec_trainReport]
    refine heard_whole hu ?_ (hquiet _)
    let rep : Report := { down := down, up := up, attenuation := attenuation, margin := margin }
    let u := s.setPort p { s.port p with trainTimer := false, lastReport := some rep }
    have htake : takeReport p (s.port p).attempt rep s = trainingFailure p .noProfile u := by
      simp [takeReport, hl, hphase, hnone, rep, u]
    have hreport : trainingFailure p .noProfile u = _ := trainingFailure_retries (p := p) .noProfile
      (by simpa [u] using hl) (by simpa [u] using hcount) hbelow
    rw [setPort_port_self, setPort_setPort] at hreport
    exact htake.trans (hreport.trans (congrArg (fun r => countPort p .trainFails 1 (s.setPort p r))
      (afterFailure_trainTimer _ _ { s.port p with lastReport := some rep })))

end Sys2Proof.Machine
end

section
/-! SUPPORT. Proofs about third failures, lost signals, idle ports, far faults, counters and notices (R11, R29 to R31, R36, R153,
R161, R163). -/

namespace Sys2Proof.Machine

/-! ## The third failure (R29, R30) -/

/-- The third failure of an attempt goes to WAITING, or to SHED, with its count at 0 and asks for a test (R29, R30). -/
theorem trainingFailure_third {s : State} {p : PortId} (cause : FailCause) (h : (s.port p).failures = 2) :
    trainingFailure p cause s = placeAutoTest p (toWaiting p false
      ((countPort p .trainFails 1 (s.modPort p (Port.failed cause))).modPort p (fun r => { r with failures := 0 }))) := by
  have hcount : ((countPort p .trainFails 1 (s.modPort p (Port.failed cause))).port p).failures = 3 := by
    rw [countPort_port, modPort_port_self, Port.failed]
    exact congrArg (· + 1) h
  rw [trainingFailure]
  dsimp only
  rw [hcount, if_neg (by decide)]

/-- The auto-test's request in MAINS, where another port's test runs and none waits (R30). -/
theorem placeAutoTest_queue {s : State} {p : PortId} {other : Running} (hmains : s.smn.cabinet = .mains)
    (hqueue : s.tsq.queue = []) (hrun : s.tsq.running = some other) (hother : other.req.port ≠ p) :
    (placeAutoTest p s).tsq.queue =
        (if s.cfg.autoTest = true then
          [{ port := p, kind := .lineCheck, intrusive := true, tone := none, origin := .auto, arrival := s.tsq.arrivals }]
        else []) ∧
      (placeAutoTest p s).tsq.running = some other := by
  cases hauto : s.cfg.autoTest <;> simp [placeAutoTest, hmains, hqueue, hrun, hother, hauto]

/-- The record of a port that goes to WAITING after its third failure by TRAIN_FAIL (R29). -/
theorem Port.failed_waiting (r : Port) :
    let t := ({ r.failed .trainFail with failures := 0 }.leave .waiting false).enter .waiting false
    t.lineState = .waiting ∧ t.failures = 0 ∧ t.lastCause = .trainFail ∧ t.profile = none ∧ t.phase = .none ∧
      t.attempt = r.attempt := by
  by_cases hp : r.power = .on <;>
    simp [Port.failed, Port.leave, Port.needsAbandon, Port.enter, Port.powerTo, powerModeOf, Port.send, hp]

/-- Settles O9: the port's record and queues are R12's in MAINS, and the request joins behind the running test. -/
theorem thirdFailureWaitsAndAsksForTest : Obligations.ThirdFailureWaitsAndAsksForTest := by
  unfold Obligations.ThirdFailureWaitsAndAsksForTest
  intro s p other hu hl hphase hcount hmains hrun hother
  let r : Port := { (s.port p).failed .trainFail with failures := 0 }
  let u := (countPort p .trainFails 1 (s.modPort p (Port.failed .trainFail))).modPort p (fun r => { r with failures := 0 })
  have htake : takeTrainFail p (s.port p).attempt s = placeAutoTest p (toWaiting p false u) := by
    rw [takeTrainFail]
    simp only [hl, hphase, true_and, ne_eq, reduceCtorEq, not_false_eq_true, if_true]
    exact trainingFailure_third .trainFail hcount
  obtain ⟨_, _, _, hfst⟩ := countPort_fst p .trainFails 1 (s.modPort p (Port.failed .trainFail))
  have hufst : u.fst = _ := hfst
  have hmods : u.tsq = s.tsq ∧ u.smn = s.smn ∧ u.cfg = s.cfg ∧ u.stc = s.stc := by simp [u]
  obtain ⟨htsq, hsmn, hcfg, hstc⟩ := hmods
  have hrecord : u.port p = r := by
    simp only [u, modPort_port_self, countPort_port]
    rfl
  have hport : (toWaiting p false u).port p = ((r.leave .waiting false).enter .waiting false) := by
    simp only [toWaiting, hsmn, hmains, waitTarget, changeState_port_self, hrecord]
  obtain ⟨hup, hdown, -, hothers⟩ := toWaiting_queues p false u
  obtain ⟨hqueue, hrunning⟩ := placeAutoTest_queue (s := toWaiting p false u) (p := p) (other := other)
    (by simp [hsmn, hmains]) (by simp [htsq, hu.2.1]) (by simp [htsq, hrun]) hother
  have hquiet : Quiet (placeAutoTest p (toWaiting p false u)) := by
    refine ⟨by simp [hstc, hu.1], .inr (by simp [hrunning]), ?_⟩
    simp [toWaiting, changeState_requests, hufst, hu.2.2.1]
  have hsameport : (placeAutoTest p (toWaiting p false u)).port = (toWaiting p false u).port := by
    simp [State.port, funext_iff]
  have hkept : tget (settle (placeAutoTest p (toWaiting p false u))).fst.up p = keptByFlush (tget s.fst.up p) := by
    refine hquiet.settle_kept ?_
    rw [placeAutoTest_fst, hup, hufst]
    rfl
  refine ⟨settle (placeAutoTest p (toWaiting p false u)), ?_, ?_⟩
  · rw [exec_trainFail, heard_running hu.1, event, htake]
  · rw [hkept, hquiet.settle_port, hquiet.settle_down, hquiet.settle_tsq, hqueue, hsameport, placeAutoTest_fst, hport]
    obtain ⟨hline, hfailures, hcause, hprofile, hphase, hattempt⟩ := Port.failed_waiting (s.port p)
    refine ⟨hline, hfailures, hcause, hprofile, hphase, hattempt, rfl, hdown, fun q hq => ?_, by simp [hcfg, htsq]⟩
    obtain ⟨hportq, hdownq⟩ := hothers q hq
    rw [hportq, hdownq, hufst]
    exact ⟨by simp [u, modPort_port_ne _ _ hq.symm], rfl⟩

/-! ## Lost signals and idle ports (R10, R31, R153) -/

theorem exec_signalLost (p : PortId) (attempt : Byte) (s : State) :
    exec (.signalLost p attempt) s = heard (takeSignalLost p attempt) s := rfl

theorem exec_idleTimerExpiry (p : PortId) (s : State) : exec (.idleTimerExpiry p) s = event (idleTimerExpires p) s := rfl

/-- A change of line state from service, and from outside the list, leaves the port off the scheduler's list (R90). -/
theorem changeState_not_mem_active {p : PortId} {ns : LineState} {w l : Bool} {s : State}
    (h : (s.port p).lineState = .inService ∨ p ∉ s.usc.active) : p ∉ (changeState p ns w l s).usc.active := by
  rw [changeState_active]
  split
  · simp
  · next hold => exact h.resolve_left hold

/-- Settles O13: the way to WAITING or SHED without ABANDON. -/
theorem signalLostLeavesTraffic : Obligations.SignalLostLeavesTraffic := by
  unfold Obligations.SignalLostLeavesTraffic
  intro s p hu htraffic hp
  have htake : takeSignalLost p (s.port p).attempt s = toWaiting p true s := by
    obtain h | ⟨h, -⟩ := htraffic <;> simp [takeSignalLost, h]
  have hquiet := hu.quiet.toWaiting p true
  obtain ⟨hmains, hlow, hcritical, hprofile, hphase, hmargin⟩ := toWaiting_record (l := true) (.inr rfl) hp
  obtain ⟨hup, hdown, hpull, hothers⟩ := toWaiting_queues p true s
  obtain ⟨hsheds, hfails⟩ := toWaiting_sheds p true s
  refine ⟨settle (toWaiting p true s), by rw [exec_signalLost, heard_running hu.1, event, htake], ?_⟩
  rw [hquiet.settle_port, hquiet.settle_down, hquiet.settle_pull, hquiet.settle_active, hquiet.settle_kept hup,
    hquiet.settle_portCounter, hquiet.settle_portCounter]
  exact ⟨hmains, hlow, hcritical, hsheds, hprofile, hphase, hmargin, rfl, hdown, hpull,
    changeState_not_mem_active (htraffic.imp id And.right), hfails, fun q hq => (hothers q hq).1⟩

/-- The record of a port shed from service with wake watch (R4, R11). -/
theorem Port.shed_of_inService {r : Port} (h : r.lineState = .inService) :
    let t := (r.leave .shed false).enter .shed true
    t.lineState = .shed ∧ t.wakeWatch = true ∧ t.power = .watch ∧ t.idleFlag = false ∧ t.profile = none := by
  by_cases hp : r.power = .watch <;>
    simp [Port.leave, Port.needsAbandon, h, Port.enter, Port.powerTo, powerModeOf, Port.send, hp]

/-- Settles O15: the flag, or the change to SHED. -/
theorem idleExpirySetsFlagOrSheds : Obligations.IdleExpirySetsFlagOrSheds := by
  unfold Obligations.IdleExpirySetsFlagOrSheds
  intro s p hu hl htimer
  let u := s.setPort p { s.port p with idleFlag := true, idleTimer := false }
  refine ⟨fun hkeep => event_whole (f := idleTimerExpires p) ?_ hu, fun hshed => ?_⟩
  · obtain h | h | ⟨h, hpriority⟩ := hkeep
    · simp [idleTimerExpires, hl, htimer, h]
    · simp [idleTimerExpires, hl, htimer, h]
    · simp [idleTimerExpires, hl, htimer, h, hpriority]
  · have hexpires : idleTimerExpires p s = changeState p .shed true false u := by
      obtain h | ⟨h, hpriority⟩ := hshed
      · simp [idleTimerExpires, hl, htimer, h, u]
      · simp [idleTimerExpires, hl, htimer, h, hpriority, u]
    have huline : (u.port p).lineState = .inService := by simpa [u] using hl
    have hquiet : Quiet (changeState p .shed true false u) := Quiet.changeState (s := u) hu.quiet p .shed true false
    obtain ⟨hline, hwake, hpower, hidle, hprofile⟩ := Port.shed_of_inService huline
    have hup : tget (changeState p .shed true false u).fst.up p = keptByFlush (tget s.fst.up p) := by
      rw [changeState_up]
      exact tget_tset_self _ _ _
    refine ⟨settle (changeState p .shed true false u), by rw [exec_idleTimerExpiry, event, hexpires], ?_⟩
    rw [hquiet.settle_port, hquiet.settle_down, hquiet.settle_active, hquiet.settle_kept hup, hquiet.settle_portCounter,
      changeState_port_self]
    refine ⟨hline, hwake, ?_, hpower, hidle, hprofile, rfl, ?_, changeState_not_mem_active (.inl huline), fun q hq => ?_⟩
    · rw [changeState_portCounter _ _ _ _ _ _ (by decide)]
      exact if_pos ⟨rfl, rfl, rfl⟩
    · rw [changeState_down]
      exact tget_tset_self _ _ _
    · rw [changeState_others _ _ _ _ _ _ hq.symm, setPort_port_ne _ _ hq.symm]

/-! ## Counters and notices (R161, R163) -/

theorem Counter.saturates_iff {c : Counter} {k : Nat} (hk : 1 ≤ k) :
    c.saturates k = true ↔ c.sticky = false ∧ 4294967295 ≤ c.value + k := by
  have hne : k ≠ 0 := by omega
  cases hs : c.sticky <;> simp [Counter.saturates, Counter.rise, counterMax, hne, hs]

theorem Counter.rise_value {c : Counter} {k : Nat} (hk : 1 ≤ k) :
    (c.rise k).value = min 4294967295 (c.value + k) ∧
      ((c.rise k).sticky = true ↔ c.sticky = true ∨ 4294967295 ≤ c.value + k) := by
  have hne : k ≠ 0 := by omega
  simp [Counter.rise, counterMax, hne]

/-- The flags with a cause's one set. -/
theorem getLsbD_setFlag (flags : BitVec 10) (c d : Cause) :
    (flags ||| BitVec.ofNat 10 (2 ^ c.bit)).getLsbD d.bit = true ↔ d = c ∨ flags.getLsbD d.bit = true := by
  cases c <;> cases d <;> simp [Cause.bit]

/-- A raised cause sets its own flag and no other (R161). -/
theorem raiseNotice_flagSet (c d : Cause) (s : State) :
    (raiseNotice c s).flagSet d = true ↔ d = c ∨ s.flagSet d = true := by
  obtain h | ⟨t, rfl, -, h | ⟨h, -⟩ | h⟩ := raiseNotice_cases c s
  · have hset : s.flagSet c = true := by
      have := raiseNotice_flagSet_self c s
      rwa [h] at this
    rw [h]
    exact ⟨.inr, fun hd => hd.elim (fun hd => hd ▸ hset) id⟩
  all_goals
    rw [h]
    exact getLsbD_setFlag s.mga.flags c d

theorem countPort_flagSet_of_saturates {p : PortId} {c : PortCounter} {k : Nat} {s : State}
    (h : (s.portCounter p c).saturates k = true) : (countPort p c k s).flagSet .counterSaturated = true := by
  rw [countPort_eq, if_pos h]
  exact raiseNotice_flagSet_self _ _

theorem countCard_flagSet_of_saturates {c : CardCounter} {s : State} (h : (s.cardCounter c).saturates 1 = true) :
    (countCard c s).flagSet .counterSaturated = true := by
  rw [countCard_eq, if_pos h]
  exact raiseNotice_flagSet_self _ _

theorem exec_farFault (p : PortId) (s : State) : exec (.farFault p) s = heard (takeFarFault p) s := rfl

/-- A FAR_FAULT counts, and raises PORT_FAULT (R36). -/
theorem farFault_counts {s : State} {p : PortId} (hu : Unburdened s)
    (htake : takeFarFault p s = raiseNotice .portFault (countPort p .farFaults 1 s)) :
    ∃ t, exec (.farFault p) s = .next t ∧ t.ports = s.ports ∧ t.flagSet .portFault = true ∧
      (∀ q c, t.portCounter q c =
        if q = p ∧ c = .farFaults then (s.portCounter p .farFaults).rise 1 else s.portCounter q c) ∧
      ((s.portCounter p .farFaults).sticky = false → 4294967294 ≤ (s.portCounter p .farFaults).value →
        t.flagSet .counterSaturated = true) ∧
      (∀ q, tget t.fst.down q = tget s.fst.down q) ∧ t.clt = s.clt ∧ t.tsq = s.tsq ∧ t.smn = s.smn ∧ t.shu = s.shu := by
  let u := raiseNotice .portFault (countPort p .farFaults 1 s)
  have hquiet : Quiet u := by
    obtain ⟨_, _, _, hfst⟩ := countPort_fst p .farFaults 1 s
    refine ⟨by simpa [u] using hu.1, .inl (by simpa [u] using hu.2.1), ?_⟩
    simpa [u, hfst] using hu.2.2.1
  refine ⟨settle u, by rw [exec_farFault, heard_running hu.1, event, htake], ?_⟩
  rw [State.flagSet, hquiet.settle_ports, hquiet.settle_flags, hquiet.settle_down, hquiet.settle_clt, hquiet.settle_tsq,
    hquiet.settle_smn, hquiet.settle_shu]
  refine ⟨by simp [u], raiseNotice_flagSet_self _ _, fun q c => ?_, fun hsticky hvalue => ?_, fun q => ?_, by simp [u],
    by simp [u], by simp [u], by simp [u]⟩
  · rw [hquiet.settle_portCounter]
    simp only [u, State.portCounter, raiseNotice_portCounters]
    refine (countPort_portCounter s p q .farFaults c 1).trans ?_
    simp only [State.portCounter, eq_comm]
  · rw [State.flagSet, hquiet.settle_flags]
    exact (raiseNotice_flagSet _ _ _).2
      (.inr (countPort_flagSet_of_saturates ((Counter.saturates_iff le_rfl).2 ⟨hsticky, by omega⟩)))
  · obtain ⟨_, _, _, hraise⟩ := raiseNotice_fst .portFault (countPort p .farFaults 1 s)
    simp [u, hraise]

/-- Settles O12: the count of a far fault, the counter's stop at its maximum, and the three outcomes of a raised cause. -/
theorem farFaultIsCountedAndNoticed : Obligations.FarFaultIsCountedAndNoticed := by
  unfold Obligations.FarFaultIsCountedAndNoticed
  refine ⟨fun s p hu => ⟨fun hl => farFault_counts hu ?_, fun hl => heard_whole (f := takeFarFault p) hu ?_ hu⟩,
    fun k c hk => Counter.rise_value hk, fun s p c k hk => ⟨fun q d => ?_, fun hsticky hmax => ?_, fun hno => ?_⟩,
    fun s c => ⟨fun d => ?_, fun hsticky hmax => ?_, fun hno => ?_⟩,
    fun s c => ⟨fun hset => if_pos hset, fun hclear => ⟨_, getLsbD_setFlag s.mga.flags c, ?_, ?_, ?_⟩⟩⟩
  · obtain h | h | h | h := hl <;> simp [takeFarFault, h]
  · obtain h | h | h | h := hl <;> simp [takeFarFault, h]
  · rw [countPort_portCounter]
    simp only [eq_comm]
  · exact countPort_flagSet_of_saturates ((Counter.saturates_iff hk).2 ⟨hsticky, hmax⟩)
  · have hbelow : (s.portCounter p c).saturates k = false := by
      rw [← Bool.not_eq_true, Counter.saturates_iff hk]
      rintro ⟨hsticky, hmax⟩
      obtain h | h := hno
      · simp [h] at hsticky
      · omega
    simp only [countPort_of_below hbelow]
    rfl
  · rw [countCard_cardCounter]
    simp only [eq_comm]
  · exact countCard_flagSet_of_saturates ((Counter.saturates_iff le_rfl).2 ⟨hsticky, by omega⟩)
  · have hbelow : (s.cardCounter c).saturates 1 = false := by
      rw [← Bool.not_eq_true, Counter.saturates_iff le_rfl]
      rintro ⟨hsticky, hmax⟩
      obtain h | h := hno
      · simp [h] at hsticky
      · omega
    simp only [countCard_eq, hbelow]
    rfl
  · intro hmasked
    simp [raiseNotice, hclear, hmasked]
  · intro henabled hwaiting hroom
    obtain ⟨hresponses, hcells, hrecords⟩ := hroom
    simp [raiseNotice, hclear, henabled, hwaiting, Fst.placeable, hresponses, hcells, hrecords, placeNotice,
      Fst.placeResponse, Fst.takeOut, Frame.cells, cellsOf, blocksOf, noticePayload, u8]
  · intro henabled hwait
    have hno : (s.mga.waiting.isEmpty && s.fst.placeable 1 0 0) = false := by
      obtain h | h := hwait
      · simp [h]
      · simp only [Fst.placeable, Nat.add_zero, Bool.and_eq_false_imp, Bool.and_eq_true, decide_eq_true_eq]
        intro _
        simpa [and_assoc] using h
    simp [raiseNotice, hclear, henabled, hno, joinWaiting]

end Sys2Proof.Machine
end

section
/-! SUPPORT. Proofs about the Frame Store: hand-over and admission (R10, R40 to R43). -/

namespace Sys2Proof.Machine

/-! ## The hand-over (R43) -/

/-- The card after the head frame has gone out, before it is counted (R10, R43). -/
def handedOver (p : PortId) (f : Frame) (rest : List Frame) (s : State) : State :=
  { s with
    ports := tset s.ports p
      { s.port p with idleFlag := false, idleTimer := true, linkOut := (s.port p).linkOut ++ [.frame f.payload] }
    fst := { s.fst with
      freeCells := s.fst.freeCells + f.cells
      freeRecords := s.fst.freeRecords + 1
      down := tset s.fst.down p rest
      pull := tset s.fst.pull p false } }

theorem handOver_eq {s : State} {p : PortId} {f : Frame} {rest : List Frame} (hl : (s.port p).lineState = .inService)
    (hdown : tget s.fst.down p = f :: rest) :
    handOver p s = countPort p .dnBlocks f.blocks (countPort p .dnFrames 1 (handedOver p f rest s)) := by
  have hrecord : ((s.modPort p (Port.send (.frame f.payload))).port p).lineState = .inService := by
    rw [modPort_port_self]
    exact hl
  unfold handOver
  simp only [hdown]
  congr 2
  simp only [passingFrame, State.modPort, State.setPort, State.port, tget_tset_self, tset_tset, Port.send, Fst.giveBack,
    Fst.setQueue, handedOver]
  rw [State.port] at hl
  simp [hl]

/-- What a hand-over writes of the port and of the store, whether its counts saturate or not (R10, R43). -/
theorem handOver_spec {s : State} {p : PortId} {f : Frame} {rest : List Frame} (hl : (s.port p).lineState = .inService)
    (hdown : tget s.fst.down p = f :: rest) :
    let t := handOver p s
    t.port p = { s.port p with
        idleFlag := false, idleTimer := true, linkOut := (s.port p).linkOut ++ [.frame f.payload] } ∧
      tget t.fst.down p = rest ∧ tget t.fst.pull p = false ∧
      t.portCounter p .dnFrames = (s.portCounter p .dnFrames).rise 1 ∧
      t.portCounter p .dnBlocks = (s.portCounter p .dnBlocks).rise f.blocks ∧
      (∀ q, q ≠ p → t.port q = s.port q ∧ tget t.fst.down q = tget s.fst.down q) ∧ t.fst.requests = s.fst.requests := by
  obtain ⟨_, _, _, hframes⟩ := countPort_fst p .dnFrames 1 (handedOver p f rest s)
  obtain ⟨_, _, _, hblocks⟩ := countPort_fst p .dnBlocks f.blocks (countPort p .dnFrames 1 (handedOver p f rest s))
  have hself : (handedOver p f rest s).port p = { s.port p with
      idleFlag := false, idleTimer := true, linkOut := (s.port p).linkOut ++ [.frame f.payload] } := tget_tset_self _ _ _
  have hothers : ∀ q, q ≠ p → (handedOver p f rest s).port q = s.port q := fun q hq => tget_tset_ne _ _ hq.symm
  simp only [handOver_eq hl hdown, hblocks, hframes, countPort_port, hself]
  refine ⟨trivial, tget_tset_self _ _ _, tget_tset_self _ _ _, ?_, ?_, fun q hq => ⟨hothers q hq, tget_tset_ne _ _ hq.symm⟩,
    rfl⟩
  · simp only [countPort_portCounter, and_true, and_false, reduceCtorEq, if_true, if_false]
    rfl
  · simp only [countPort_portCounter, and_true, and_false, reduceCtorEq, if_true, if_false]
    rfl

theorem Quiet.handOver {s : State} (h : Quiet s) {p : PortId} {f : Frame} {rest : List Frame}
    (hl : (s.port p).lineState = .inService) (hdown : tget s.fst.down p = f :: rest) : Quiet (handOver p s) := by
  obtain ⟨-, -, -, -, -, -, hrequests⟩ := handOver_spec hl hdown
  simpa [Quiet, hrequests] using h

theorem exec_frameRequest (p : PortId) (s : State) : exec (.frameRequest p) s = heard (takeFrameRequest p) s := rfl

/-- Settles O14: the three branches of the request. -/
theorem frameRequestPullsHeadFrame : Obligations.FrameRequestPullsHeadFrame := by
  unfold Obligations.FrameRequestPullsHeadFrame
  intro s p hu
  refine ⟨fun hl => heard_whole (f := takeFrameRequest p) hu (by simp [takeFrameRequest, hl]) hu,
    fun hl hempty => heard_whole (f := takeFrameRequest p) hu (by simp [takeFrameRequest, hl, hempty]) hu,
    fun f rest hl hdown hframes hblocks => ?_⟩
  have htake : takeFrameRequest p s = handOver p s := by simp [takeFrameRequest, hl, hdown]
  obtain ⟨hport, hrest, hpull, hriseframes, hriseblocks, hothers, -⟩ := handOver_spec hl hdown
  have hblocks' : ((risePort p .dnFrames 1 (handedOver p f rest s)).portCounter p .dnBlocks).saturates f.blocks = false := by
    have hsame := countPort_portCounter (handedOver p f rest s) p p .dnFrames .dnBlocks 1
    rw [countPort_of_below (s := handedOver p f rest s) hframes] at hsame
    rw [hsame, if_neg (by simp)]
    exact hblocks
  have hbelow : handOver p s = risePort p .dnBlocks f.blocks (risePort p .dnFrames 1 (handedOver p f rest s)) := by
    rw [handOver_eq hl hdown, countPort_of_below (s := handedOver p f rest s) hframes, countPort_of_below hblocks']
  have hfst : (handOver p s).fst = (handedOver p f rest s).fst := by rw [hbelow]; rfl
  have hquiet : Unburdened (handOver p s) := by
    rw [hbelow]
    exact hu
  obtain ⟨_, _, _, _, hwrites⟩ := txArbitrate_writes (handOver p s)
  refine ⟨txArbitrate (handOver p s), heard_whole hu htake hquiet, ?_⟩
  rw [hwrites]
  simp only [State.port, State.portCounter] at hport hriseframes hriseblocks hothers ⊢
  exact ⟨hport, hrest, hpull, by rw [hfst]; rfl, by rw [hfst]; rfl, hriseframes, hriseblocks, hothers, by rw [hfst]; rfl⟩

/-! ## Admission (R41, R42) -/

theorem cellsOf_of_nonempty {payload : List Byte} (h : 1 ≤ payload.length) : cellsOf payload = (payload.length + 63) / 64 := by
  unfold cellsOf blocksOf
  omega

theorem exec_upstreamFrame {p : PortId} {payload : List Byte} {s : State} (h1 : 1 ≤ payload.length)
    (h2 : payload.length ≤ 1536) :
    exec (.upstreamFrame p payload) s = heard (fun t => completeUpstream p (stageUp p payload t)) s :=
  if_pos (by simp [dataPayloadOk, h1, h2])

theorem exec_dataReceived {p : PortId} {payload : List Byte} {s : State} (h1 : 1 ≤ payload.length)
    (h2 : payload.length ≤ 1536) :
    exec (.dataReceived p payload) s = heard (fun t => completeDownstream p (stageBus payload t)) s :=
  if_pos (by simp [dataPayloadOk, h1, h2])

section
variable {s : State} {p : PortId} {payload : List Byte} {c : Drop}

/-- The staging buffer has no part in an admission, and is empty after it (log 28). -/
theorem completeUpstream_drop (h : admission s p .up (cellsOf payload) = some c) :
    completeUpstream p (stageUp p payload s) = countPort p (c.counter .up) 1 (stageUp p [] s) := by
  have hstaged : stageUp p [] (stageUp p payload s) = stageUp p [] s := by simp [stageUp, tset_tset]
  have hadmit : admission (stageUp p [] s) p .up (cellsOf payload) = some c := h
  simp [completeUpstream, hstaged, hadmit]

theorem completeUpstream_admitted (h : admission s p .up (cellsOf payload) = none) :
    completeUpstream p (stageUp p payload s) = uscUpdate p (passingFrame p (enqueueData p .up payload (stageUp p [] s))) := by
  have hstaged : stageUp p [] (stageUp p payload s) = stageUp p [] s := by simp [stageUp, tset_tset]
  have hadmit : admission (stageUp p [] s) p .up (cellsOf payload) = none := h
  simp [completeUpstream, hstaged, hadmit]

theorem completeDownstream_drop (h : admission s p .down (cellsOf payload) = some c) :
    completeDownstream p (stageBus payload s) = countPort p (c.counter .down) 1 (stageBus [] s) := by
  have hadmit : admission (stageBus [] s) p .down (cellsOf payload) = some c := h
  have hstaged : stageBus [] (stageBus payload s) = stageBus [] s := rfl
  simp [completeDownstream, hstaged, hadmit]

theorem completeDownstream_admitted (h : admission s p .down (cellsOf payload) = none) :
    completeDownstream p (stageBus payload s) =
      if tget s.fst.pull p = true then handOver p (enqueueData p .down payload (stageBus [] s))
      else enqueueData p .down payload (stageBus [] s) := by
  have hadmit : admission (stageBus [] s) p .down (cellsOf payload) = none := h
  have hstaged : stageBus [] (stageBus payload s) = stageBus [] s := rfl
  simp only [completeDownstream, hstaged, stageBus_busStaging, hadmit]
  rfl

end

theorem map_payload_markHead (q : List Frame) : (markHead q).map Frame.payload = q.map Frame.payload := by
  cases q <;> rfl

/-- A frame that fails an admission counts the failure alone, in the port's counter of it (R41). -/
theorem drop_counts {f : State → State} {s u : State} {p : PortId} {c : PortCounter} (hu : Unburdened s)
    (hf : f s = countPort p c 1 u) (hports : u.ports = s.ports) (hmga : u.mga = s.mga) (hstc : u.stc = s.stc)
    (htsq : u.tsq = s.tsq)
    (hfst : u.fst = { s.fst with upStaging := u.fst.upStaging, busStaging := u.fst.busStaging }) :
    ∃ t, heard f s = .next t ∧ t.ports = s.ports ∧ t.fst.down = s.fst.down ∧ t.fst.pull = s.fst.pull ∧
      (∀ q, (tget t.fst.up q).map Frame.payload = (tget s.fst.up q).map Frame.payload) ∧
      ∀ q d, t.portCounter q d = if q = p ∧ d = c then (s.portCounter p c).rise 1 else s.portCounter q d := by
  obtain ⟨_, _, _, hcount⟩ := countPort_fst p c 1 u
  rw [hfst] at hcount
  have hquiet : Quiet (countPort p c 1 u) :=
    ⟨by simpa [hstc] using hu.1, .inl (by simpa [htsq] using hu.2.1), by simpa [hcount] using hu.2.2.1⟩
  refine ⟨settle (countPort p c 1 u), by rw [heard_running hu.1, event, hf], ?_, ?_, ?_, fun q => ?_, fun q d => ?_⟩
  · rw [hquiet.settle_ports]
    simp [hports]
  · rw [hquiet.settle_down, hcount]
  · rw [hquiet.settle_pull, hcount]
  · obtain h | h := hquiet.settle_up q
    · rw [h, hcount]
    · rw [h, map_payload_markHead, hcount]
  · rw [hquiet.settle_portCounter, countPort_portCounter]
    simp only [State.portCounter, hmga, eq_comm]

/-- Settles O16: the first condition that fails decides the counter, in either direction. -/
theorem failedAdmissionOnlyCounts : Obligations.FailedAdmissionOnlyCounts := by
  unfold Obligations.FailedAdmissionOnlyCounts
  intro s p payload hu h1 h2
  dsimp only
  have hcells := cellsOf_of_nonempty h1
  have hup : ∀ c, admission s p .up (cellsOf payload) = some c → _ := fun c h =>
    drop_counts (f := fun t => completeUpstream p (stageUp p payload t)) hu (completeUpstream_drop h) rfl rfl rfl rfl rfl
  have hdown : ∀ c, admission s p .down (cellsOf payload) = some c → _ := fun c h =>
    drop_counts (f := fun t => completeDownstream p (stageBus payload t)) hu (completeDownstream_drop h) rfl rfl rfl rfl rfl
  rw [exec_upstreamFrame h1 h2, exec_dataReceived h1 h2]
  rw [hcells] at hup hdown
  refine ⟨fun hl => ⟨hup .state ?_, hdown .state ?_⟩, fun hl => ⟨fun hroom => hup .full ?_, fun hroom => hdown .full ?_,
    fun hroom hpool => hup .pool ?_, fun hroom hpool => hdown .pool ?_,
    fun hroom hpool hrecords => hup .record ?_, fun hroom hpool hrecords => hdown .record ?_⟩⟩
  · simp [admission, hl]
  · simp [admission, hl]
  · simp [admission, hl, Fst.queue, queueLimit, Nat.not_le.1 hroom]
  · simp [admission, hl, Fst.queue, queueLimit, Nat.not_le.1 hroom]
  · simp [admission, hl, Fst.queue, queueLimit, Nat.not_lt.2 hroom, Nat.not_le.1 hpool]
  · simp [admission, hl, Fst.queue, queueLimit, Nat.not_lt.2 hroom, Nat.not_le.1 hpool]
  · simp [admission, hl, Fst.queue, queueLimit, Nat.not_lt.2 hroom, Nat.not_lt.2 hpool, hrecords]
  · simp [admission, hl, Fst.queue, queueLimit, Nat.not_lt.2 hroom, Nat.not_lt.2 hpool, hrecords]

/-- Settles O17: the admitted frame's whole effect upstream, and downstream with and without the pull flag. -/
theorem admittedFramesJoinTheirQueues : Obligations.AdmittedFramesJoinTheirQueues := by
  unfold Obligations.AdmittedFramesJoinTheirQueues
  refine ⟨fun s p payload hu h1 h2 hl hroom hpool hrecords => ?_, fun s p payload hu h1 h2 hl hroom hpool hrecords => ?_⟩
  · have hcells := cellsOf_of_nonempty h1
    have hadmit : admission s p .up (cellsOf payload) = none := by
      rw [hcells, admission_none_iff]
      exact ⟨hl, hroom, hpool, hrecords⟩
    have hpassing : passingFrame p (enqueueData p .up payload (stageUp p [] s)) = _ :=
      congrArg (State.setPort (enqueueData p .up payload (stageUp p [] s)) p) (if_pos (beq_iff_eq.2 hl))
    rw [exec_upstreamFrame h1 h2]
    refine heard_whole hu ?_ (by simpa [Unburdened] using hu)
    rw [completeUpstream_admitted hadmit, hpassing, ← hcells]
    rfl
  · have hcells := cellsOf_of_nonempty h1
    have hadmit : admission s p .down (cellsOf payload) = none := by
      rw [hcells, admission_none_iff]
      exact ⟨hl, hroom, hpool, hrecords⟩
    rw [exec_dataReceived h1 h2]
    refine ⟨fun hpull => heard_whole hu ?_ hu, fun hpull hempty => ?_⟩
    · rw [completeDownstream_admitted hadmit, if_neg (by simp [hpull]), ← hcells]
      rfl
    · let u := enqueueData p .down payload (stageBus [] s)
      have huline : (u.port p).lineState = .inService := hl
      have hudown : tget u.fst.down p = [dataFrame p payload] := by
        refine (tget_tset_self _ _ _).trans ?_
        show tget s.fst.down p ++ _ = _
        rw [hempty]
        rfl
      have hquiet : Quiet (handOver p u) := Quiet.handOver (s := u) hu.quiet huline hudown
      obtain ⟨hport, hrest, hpullclear, hframes, hblocks, hothers, -⟩ := handOver_spec huline hudown
      refine ⟨settle (handOver p u), ?_, ?_⟩
      · rw [heard_running hu.1, event, completeDownstream_admitted hadmit, if_pos hpull]
      · rw [hquiet.settle_down, hquiet.settle_pull, hquiet.settle_port, hquiet.settle_portCounter,
          hquiet.settle_portCounter, hport]
        refine ⟨hrest, hpullclear, rfl, rfl, hframes, hblocks, fun q hq => ?_⟩
        obtain ⟨hportq, hdownq⟩ := hothers q hq
        exact ⟨hportq, hdownq.trans (tget_tset_ne _ _ hq.symm)⟩

end Sys2Proof.Machine
end

section
/-! SUPPORT. Proofs about reception on the cabinet bus (R51, R53, R64 to R67, R172, R173). -/

namespace Sys2Proof.Machine

/-! ## Carrier and its checks (R53, R64, R67) -/

theorem exec_carrierEnd (collided own stale : Bool) (bytes : List Byte) (s : State) :
    exec (.carrierEnd collided own bytes stale) s = heard (carrierEnds collided own stale bytes) s := rfl

theorem gapRestarts_eq (s : State) : gapRestarts s = afterCarrier s := rfl

/-- The end of carrier changes the transmitter's gap count alone (R53). -/
theorem afterCarrier_eq (s : State) : ∃ counting, afterCarrier s =
    { s with bau := { s.bau with tx := { s.bau.tx with gapCounting := counting } } } := by
  unfold afterCarrier
  split
  · exact ⟨_, rfl⟩
  · exact ⟨s.bau.tx.gapCounting, rfl⟩

/-- Nothing of a carrier is received that a collision met, that the card sent itself, that began before the reset ended, or
that a sending card meets (R67). -/
theorem carrierEnds_ignored {s : State} {collided own stale : Bool} {bytes : List Byte}
    (h : collided = true ∨ own = true ∨ stale = true ∨ s.bau.tx.st = .sending) :
    carrierEnds collided own stale bytes s = afterCarrier s := by
  have hcond : (collided || own || stale || s.bau.tx.st == .sending) = true := by
    obtain h | h | h | h := h <;> simp [h]
  simp only [carrierEnds, gapRestarts_eq, hcond, if_true]

theorem carrierEnds_received {s : State} {bytes : List Byte} (h : s.bau.tx.st ≠ .sending) :
    carrierEnds false false false bytes s = receiveFrame bytes (afterCarrier s) := by
  simp [carrierEnds, gapRestarts_eq, h]

/-- The bytes beyond the receiver's limit have no part in the header. -/
theorem headerOf_take (bytes : List Byte) : headerOf (bytes.take receiveLimit) = headerOf bytes := by
  have hbyte : ∀ i, i < receiveLimit → byteAt (bytes.take receiveLimit) i = byteAt bytes i := fun i hi => by
    rw [byteAt, byteAt, List.getElem?_take_of_lt hi]
  simp only [headerOf]
  rw [hbyte 0 (by decide), hbyte 1 (by decide), hbyte 2 (by decide), hbyte 4 (by decide), hbyte 5 (by decide)]

/-- A carrier with enough bytes and the right CRC-32 over those that are taken (R51, R64). -/
def CrcFits (bytes : List Byte) : Prop :=
  crcBytes ((bytes.take 1548).take ((bytes.take 1548).length - 4)) = (bytes.take 1548).drop ((bytes.take 1548).length - 4)

section
variable {bytes : List Byte}

theorem checkFrame_runt (h : bytes.length < 64) : checkFrame bytes = .inl .rxRunt := by
  have hlen : (bytes.take receiveLimit).length < 64 := by rw [List.length_take]; omega
  simp only [checkFrame, hlen, if_true]

theorem length_taken (h : 64 ≤ bytes.length) : ¬(bytes.take receiveLimit).length < 64 := by
  rw [List.length_take, receiveLimit]
  omega

theorem checkFrame_crc (h : 64 ≤ bytes.length) (hcrc : ¬CrcFits bytes) : checkFrame bytes = .inl .rxCrc := by
  unfold checkFrame
  simp only [length_taken h, if_false]
  exact if_pos hcrc

/-- The length checks of a carrier that holds its header (R64). -/
def LengthFits (bytes : List Byte) : Prop :=
  bytes.length ≤ 1548 ∧ (headerOf bytes).length ≤ 1536 ∧ (headerOf bytes).length + 12 ≤ bytes.length

theorem lengthFits_iff : LengthFits bytes ↔
    ¬(receiveLimit < bytes.length ∨ 1536 < (headerOf bytes).length ∨
      (bytes.take receiveLimit).length < 8 + (headerOf bytes).length + 4) := by
  rw [LengthFits, List.length_take, receiveLimit]
  omega

theorem checkFrame_long (h : 64 ≤ bytes.length) (hcrc : CrcFits bytes) (hlong : ¬LengthFits bytes) :
    checkFrame bytes = .inl .rxLong := by
  rw [lengthFits_iff, not_not] at hlong
  unfold checkFrame
  simp only [length_taken h, if_false, headerOf_take]
  exact (if_neg (not_not.2 hcrc)).trans (if_pos hlong)

/-- Past the first three checks the kind and its length decide (R64). -/
theorem checkFrame_kind (h : 64 ≤ bytes.length) (hcrc : CrcFits bytes) (hfits : LengthFits bytes) :
    (∀ k, busKindOf (headerOf bytes).kind = some k → lengthAllowed k (headerOf bytes).length = true →
      checkFrame bytes = .inr k) ∧
    ((∀ k, busKindOf (headerOf bytes).kind = some k → lengthAllowed k (headerOf bytes).length = false) →
      checkFrame bytes = .inl .rxBadKind) := by
  rw [lengthFits_iff] at hfits
  constructor
  · intro k hk hallowed
    unfold checkFrame
    simp only [length_taken h, if_false, headerOf_take]
    refine (if_neg (not_not.2 hcrc)).trans ((if_neg hfits).trans ?_)
    rw [hk]
    exact if_pos hallowed
  · intro hnone
    unfold checkFrame
    simp only [length_taken h, if_false, headerOf_take]
    refine (if_neg (not_not.2 hcrc)).trans ((if_neg hfits).trans ?_)
    cases hk : busKindOf (headerOf bytes).kind with
    | none => rfl
    | some k => exact if_neg (by rw [hnone k hk]; decide)

end

theorem busKindOf_eq_some_iff {n : Nat} {k : BusKind} : busKindOf n = some k ↔ n = k.code := by
  constructor
  · intro h
    unfold busKindOf at h
    split at h <;> cases h <;> rfl
  · rintro rfl
    cases k <;> rfl

/-- The kinds of R172 and the payload lengths of R173. -/
theorem kindAllowed_iff {n len : Nat} (hlen : len ≤ 1536) :
    (1 ≤ n ∧ n ≤ 8 ∧ (n = 1 → 1 ≤ len) ∧ (n = 2 → len = 8) ∧ (n = 3 → len = 4) ∧ (n = 4 ∨ n = 5 → len = 2)) ↔
      ∃ k, busKindOf n = some k ∧ lengthAllowed k len = true := by
  constructor
  · rintro ⟨h1, h8, hlengths⟩
    interval_cases n <;> simp_all [busKindOf, lengthAllowed]
  · rintro ⟨k, hk, hallowed⟩
    rw [busKindOf_eq_some_iff.1 hk]
    cases k <;> simp_all [BusKind.code, lengthAllowed]

/-- The source stations of R65, by the kind's code. -/
theorem sourceFits_iff {n source : Nat} {k : BusKind} (forCard : Bool) (hk : busKindOf n = some k) :
    ((n = 5 ∨ n = 6 ∨ (n = 1 ∧ forCard = true) → source = 0) ∧ (n = 1 → source ≤ 8) ∧
        (n = 2 ∨ n = 3 ∨ n = 4 ∨ n = 7 ∨ n = 8 → 1 ≤ source ∧ source ≤ 8)) ↔
      sourceFits k source forCard = true := by
  rw [busKindOf_eq_some_iff.1 hk]
  cases k <;> cases forCard <;> simp [sourceFits, BusKind.code]
  rintro rfl
  omega

/-! ## Dropped frames (R65, R66) -/

/-- A step that counts one card counter and stores nothing. -/
def CountsOnly (c : CardCounter) (r : Result) (s : State) : Prop :=
  ∃ t, r = .next t ∧ t.ports = s.ports ∧ t.clt = s.clt ∧ t.shu = s.shu ∧ t.tsq = s.tsq ∧ t.smn = s.smn ∧
    t.fst.down = s.fst.down ∧ t.fst.requests = s.fst.requests ∧
    ∀ d, t.cardCounter d = if d = c then (s.cardCounter c).rise 1 else s.cardCounter d

theorem raiseNotice_cardCounter (c : Cause) (s : State) (d : CardCounter) :
    (raiseNotice c s).cardCounter d = s.cardCounter d := by
  simp [State.cardCounter]

/-- The end of such a step, after a count and perhaps a notice. -/
theorem countsOnly_settle {s u v : State} {c : CardCounter} (hu : Unburdened s) (hv : v = afterCarrier s)
    (h : u = countCard c v ∨ ∃ k, u = raiseNotice k (countCard c v)) : CountsOnly c (.next (settle u)) s := by
  obtain ⟨counting, hafter⟩ := afterCarrier_eq s
  obtain ⟨hrequests, hports, hclt, hshu, htsq, hsmn, hstc, hdown, hcounters⟩ :
      u.fst.requests = s.fst.requests ∧ u.ports = s.ports ∧ u.clt = s.clt ∧ u.shu = s.shu ∧ u.tsq = s.tsq ∧
        u.smn = s.smn ∧ u.stc = s.stc ∧ u.fst.down = s.fst.down ∧
        ∀ d, u.cardCounter d = if d = c then (s.cardCounter c).rise 1 else s.cardCounter d := by
    have hcount : ∀ d, (countCard c v).cardCounter d = if d = c then (s.cardCounter c).rise 1 else s.cardCounter d := by
      intro d
      rw [countCard_cardCounter, hv, hafter]
      simp only [eq_comm]
      rfl
    obtain rfl | ⟨k, rfl⟩ := h
    · refine ⟨?_, ?_, ?_, ?_, ?_, ?_, ?_, ?_, hcount⟩ <;> simp [hv, hafter]
    · refine ⟨?_, ?_, ?_, ?_, ?_, ?_, ?_, ?_, fun d => by rw [raiseNotice_cardCounter, hcount]⟩ <;> simp [hv, hafter]
  have hquiet : Quiet u := ⟨by rw [hstc]; exact hu.1, .inl (by rw [htsq]; exact hu.2.1), by rw [hrequests]; exact hu.2.2.1⟩
  have hnone : (settle u).fst.requests = [] := hquiet.settle_requests
  refine ⟨settle u, rfl, ?_, ?_, ?_, ?_, ?_, ?_, ?_, fun d => ?_⟩
  · rw [hquiet.settle_ports, hports]
  · rw [hquiet.settle_clt, hclt]
  · rw [hquiet.settle_shu, hshu]
  · rw [hquiet.settle_tsq, htsq]
  · rw [hquiet.settle_smn, hsmn]
  · rw [hquiet.settle_down, hdown]
  · rw [hnone, hu.2.2.1]
  · rw [hquiet.settle_cardCounter, hcounters]

/-- What the receiver makes of a frame that passes the five checks (R65, R66). -/
theorem receiveFrame_passed {bytes : List Byte} {k : BusKind} (h : checkFrame bytes = .inr k) (s : State) :
    receiveFrame bytes s =
      if (headerOf bytes).source = s.stationNumber then ownSource s
      else if !sourceFits k (headerOf bytes).source (addressed s.stationNumber (headerOf bytes).dest) then
        countCard .rxBadSource s
      else if !addressed s.stationNumber (headerOf bytes).dest then s
      else deliver k (headerOf bytes) ((bytes.drop 8).take (headerOf bytes).length) s := by
  simp [receiveFrame, h]

theorem receiveFrame_failed {bytes : List Byte} {c : CardCounter} (h : checkFrame bytes = .inl c) (s : State) :
    receiveFrame bytes s = countCard c s := by
  simp [receiveFrame, h]

theorem addressed_iff {own dest : Nat} : addressed own dest = true ↔ dest = own ∨ dest = 15 := by
  simp [addressed]

/-- What the card does not take of a frame for it (R66). -/
theorem deliver_refused {k : BusKind} {h : Header} (payload : List Byte) (s : State) :
    (k = .mrsp ∨ k = .notice → deliver k h payload s = countCard .rxBadKind s) ∧
    ((k = .data ∧ 16 ≤ h.port) ∨ (k = .mreq ∧ h.port ≠ 31) ∨ ((k = .data ∨ k = .mreq) ∧ h.dest = 15) →
      deliver k h payload s = countCard .rxBadPort s) := by
  constructor
  · rintro (rfl | rfl) <;> rfl
  · rintro (⟨rfl, hport⟩ | ⟨rfl, hport⟩ | ⟨rfl | rfl, hdest⟩)
    · simp [deliver, portOf, Nat.not_lt.2 hport]
    · simp [deliver, hport]
    · simp only [deliver, hdest, if_true]
      split <;> rfl
    · simp [deliver, hdest]

/-- Settles O19: the checks in their order, then the source, the destination, and the kinds and ports that are not for the
card. -/
theorem badCarriersAreCountedAndDropped : Obligations.BadCarriersAreCountedAndDropped := by
  unfold Obligations.BadCarriersAreCountedAndDropped
  intro s bytes hu
  have hafter : Unburdened (afterCarrier s) := by
    obtain ⟨_, h⟩ := afterCarrier_eq s
    rw [h]
    exact hu
  have hnumber : (afterCarrier s).stationNumber = s.stationNumber := by
    obtain ⟨_, h⟩ := afterCarrier_eq s
    rw [h]
    rfl
  refine ⟨fun collided own stale h => heard_whole hu (carrierEnds_ignored h) hafter, fun hsending => ?_⟩
  have hreceived : exec (.carrierEnd false false bytes false) s = .next (settle (receiveFrame bytes (afterCarrier s))) := by
    rw [exec_carrierEnd, heard_running hu.1, event, carrierEnds_received hsending]
  rw [hreceived]
  have hcounts : ∀ c, receiveFrame bytes (afterCarrier s) = countCard c (afterCarrier s) →
      CountsOnly c (.next (settle (receiveFrame bytes (afterCarrier s)))) s := fun c h =>
    countsOnly_settle hu rfl (.inl h)
  refine ⟨fun hshort => hcounts _ (receiveFrame_failed (checkFrame_runt hshort) _),
    fun hlen hcrc => hcounts _ (receiveFrame_failed (checkFrame_crc hlen hcrc) _),
    fun hlen hcrc hlong => hcounts _ (receiveFrame_failed (checkFrame_long hlen hcrc hlong) _),
    fun hlen hcrc hfits => ?_⟩
  obtain ⟨hpassed, hbad⟩ := checkFrame_kind hlen hcrc hfits
  have hkind := kindAllowed_iff (n := (headerOf bytes).kind) hfits.2.1
  refine ⟨fun hno => hcounts _ (receiveFrame_failed (hbad fun k hk => ?_) _), fun hok hown => ?_, fun hok hpeer hsource => ?_,
    fun hok hpeer hsource => ?_⟩
  · by_contra hallowed
    exact hno (hkind.2 ⟨k, hk, Bool.not_eq_false _ ▸ hallowed⟩)
  all_goals
    obtain ⟨k, hk, hallowed⟩ := hkind.1 hok
    have hframe := receiveFrame_passed (hpassed k hk hallowed) (afterCarrier s)
    rw [hnumber] at hframe
    have hfitsiff := sourceFits_iff (source := (headerOf bytes).source)
      (addressed s.stationNumber (headerOf bytes).dest) hk
    rw [addressed_iff] at hfitsiff
  · replace hown : (headerOf bytes).source = s.stationNumber := hown
    rw [if_pos hown] at hframe
    rw [hframe]
    refine ⟨countsOnly_settle hu rfl (.inr ⟨_, rfl⟩), fun t ht => ?_⟩
    cases ht
    have hquiet : Quiet (ownSource (afterCarrier s)) := by simpa [ownSource, Quiet] using hafter.quiet
    rw [State.flagSet, hquiet.settle_flags]
    exact raiseNotice_flagSet_self _ _
  · replace hpeer : (headerOf bytes).source ≠ s.stationNumber := hpeer
    have hunfit : sourceFits k (headerOf bytes).source (addressed s.stationNumber (headerOf bytes).dest) = false := by
      rw [← Bool.not_eq_true]
      exact fun h => hsource (hfitsiff.2 h)
    rw [if_neg hpeer, hunfit] at hframe
    exact hcounts _ hframe
  · replace hpeer : (headerOf bytes).source ≠ s.stationNumber := hpeer
    rw [if_neg hpeer, hfitsiff.1 hsource] at hframe
    have hcode := busKindOf_eq_some_iff.1 hk
    refine ⟨fun hother => ?_, fun hfor hanswers => ?_, fun hfor hport => ?_⟩
    · have hignored : addressed s.stationNumber (headerOf bytes).dest = false := by
        rw [← Bool.not_eq_true]
        exact fun h => hother (addressed_iff.1 h)
      rw [hignored] at hframe
      exact congrArg Host.Outcome.next ((congrArg settle hframe).trans (settle_unburdened hafter))
    · have hcard : addressed s.stationNumber (headerOf bytes).dest = true := addressed_iff.2 hfor
      rw [hcard] at hframe
      replace hanswers : (headerOf bytes).kind = 7 ∨ (headerOf bytes).kind = 8 := hanswers
      rw [hcode] at hanswers
      refine hcounts _ (hframe.trans ((deliver_refused _ _).1 ?_))
      cases k <;> simp [BusKind.code] at hanswers ⊢
    · have hcard : addressed s.stationNumber (headerOf bytes).dest = true := addressed_iff.2 hfor
      rw [hcard] at hframe
      replace hport : ((headerOf bytes).kind = 1 ∧ 16 ≤ (headerOf bytes).port) ∨
        ((headerOf bytes).kind = 6 ∧ (headerOf bytes).port ≠ 31) ∨
        (((headerOf bytes).kind = 1 ∨ (headerOf bytes).kind = 6) ∧ (headerOf bytes).dest = 15) := hport
      rw [hcode] at hport
      refine hcounts _ (hframe.trans ((deliver_refused _ _).2 ?_))
      cases k <;> simp [BusKind.code] at hport ⊢ <;> exact hport

/-! ## The receiver against the layouts (R51, R172, R173) -/

section
variable {kind : BusKind} {dest source port : Nat} {payload : List Byte}

/-- A frame's bytes: its header, its payload, the padding, and the CRC-32 of all three (R51). -/
theorem busFrame_eq : busFrame kind dest source port payload =
    let padded := busHeader kind dest source port payload.length ++ (payload ++ List.replicate (52 - payload.length) 0)
    padded ++ crcBytes padded := by
  have hlen : (busHeader kind dest source port payload.length ++ payload).length = 8 + payload.length := by
    rw [List.length_append]
    rfl
  have hpad : 60 - (8 + payload.length) = 52 - payload.length := by omega
  simp only [busFrame, hlen, hpad, List.append_assoc]

theorem length_crcBytes (bs : List Byte) : (crcBytes bs).length = 4 := rfl

theorem length_busFrame : (busFrame kind dest source port payload).length = max 60 (8 + payload.length) + 4 := by
  simp only [busFrame_eq, List.length_append, List.length_replicate, length_crcBytes]
  simp only [busHeader, List.length_cons, List.length_nil]
  omega

theorem headerOf_busFrame (hdest : dest ≤ 15) (hsource : source ≤ 8) (hport : port < 32) (hlen : payload.length ≤ 1536) :
    headerOf (busFrame kind dest source port payload) =
      { kind := kind.code, dest := dest, source := source, port := port, length := payload.length } := by
  have hcode : kind.code < 256 := by cases kind <;> decide
  have hstations : (dest * 16 + source) % 256 / 16 = dest ∧ (dest * 16 + source) % 256 % 16 = source := by omega
  have hlength : payload.length / 256 % 256 * 256 + payload.length % 256 = payload.length := by omega
  have hports : port % 256 % 32 = port := by omega
  simp only [headerOf, busFrame_eq, busHeader, byteAt, pair16, u8, List.cons_append, List.getElem?_cons_zero,
    List.getElem?_cons_succ, Option.getD_some, BitVec.toNat_ofNat, Nat.reducePow, hstations, hlength, hports,
    Nat.mod_eq_of_lt hcode]

/-- A frame of the layout passes the five checks (R64). -/
theorem checkFrame_busFrame (hdest : dest ≤ 15) (hsource : source ≤ 8) (hport : port < 32) (hlen : payload.length ≤ 1536)
    (hallowed : lengthAllowed kind payload.length = true) :
    checkFrame (busFrame kind dest source port payload) = .inr kind := by
  have hheader := headerOf_busFrame (kind := kind) hdest hsource hport hlen
  have hlength := length_busFrame (kind := kind) (dest := dest) (source := source) (port := port) (payload := payload)
  have htaken : (busFrame kind dest source port payload).take 1548 = busFrame kind dest source port payload :=
    List.take_of_length_le (by omega)
  have hcrc : CrcFits (busFrame kind dest source port payload) := by
    have hsub : (busFrame kind dest source port payload).length - 4 =
        (busHeader kind dest source port payload.length ++ (payload ++ List.replicate (52 - payload.length) 0)).length := by
      rw [busFrame_eq, List.length_append, length_crcBytes, Nat.add_sub_cancel]
    rw [CrcFits, htaken, hsub, busFrame_eq, List.take_left, List.drop_left]
  have hfits : LengthFits (busFrame kind dest source port payload) := by
    rw [LengthFits, hheader]
    exact ⟨by omega, hlen, show payload.length + 12 ≤ _ by omega⟩
  refine (checkFrame_kind (by omega) hcrc hfits).1 kind ?_ ?_
  · rw [hheader]
    exact busKindOf_eq_some_iff.2 rfl
  · rw [hheader]
    exact hallowed

theorem payload_busFrame : ((busFrame kind dest source port payload).drop 8).take payload.length = payload := by
  simp only [busFrame_eq, busHeader, List.cons_append, List.nil_append, List.drop_succ_cons, List.drop_zero,
    List.append_assoc, List.take_left]

/-- A frame of the layout for the card, from a source that fits it and is not the card, is delivered with the fields that the
layout was given (R64 to R66). -/
theorem receiveFrame_busFrame {s : State} (hdest : dest ≤ 15) (hsource : source ≤ 8) (hport : port < 32)
    (hlen : payload.length ≤ 1536) (hallowed : lengthAllowed kind payload.length = true)
    (hfor : addressed s.stationNumber dest = true) (hfits : sourceFits kind source true = true)
    (hpeer : source ≠ s.stationNumber) :
    receiveFrame (busFrame kind dest source port payload) s =
      deliver kind { kind := kind.code, dest := dest, source := source, port := port, length := payload.length } payload s := by
  rw [receiveFrame_passed (checkFrame_busFrame hdest hsource hport hlen hallowed), headerOf_busFrame hdest hsource hport hlen,
    payload_busFrame]
  simp only [hfor, hfits, hpeer, if_false, Bool.not_true, Bool.false_eq_true]

end

theorem stationOf_succ (y : StationId) : stationOf (y.val + 1) = some y := by
  simp [stationOf]

theorem binderOf_u8 (b : BinderId) : binderOf (u8 b.val) = b := by
  apply Fin.ext
  simp [binderOf, u8]

/-- A frame that the receiver delivers has the effect of its row, after the end of carrier (R53, R66). -/
theorem carrierEnd_eq_heard {s : State} {bytes : List Byte} {f : State → State} (hout : s.stc.startState ≠ .reset)
    (hsending : s.bau.tx.st ≠ .sending) (h : receiveFrame bytes (afterCarrier s) = f (afterCarrier s)) :
    exec (.carrierEnd false false bytes false) s = heard f (afterCarrier s) := by
  have hafter : (afterCarrier s).stc.startState ≠ .reset := by
    obtain ⟨_, ha⟩ := afterCarrier_eq s
    rw [ha]
    exact hout
  rw [exec_carrierEnd, heard_running hout, heard_running hafter, event, event, carrierEnds_received hsending, h]

theorem afterCarrier_stc (s : State) : (afterCarrier s).stc = s.stc := by
  obtain ⟨_, h⟩ := afterCarrier_eq s
  rw [h]

/-- Settles O20: each layout's fields come back through the header and the payload. -/
theorem receiverReadsTheLayouts : Obligations.ReceiverReadsTheLayouts := by
  unfold Obligations.ReceiverReadsTheLayouts
  intro s hout hsending
  have hstation := s.stc.station.isLt
  have hnumber : (afterCarrier s).stationNumber = s.stc.station.val + 1 := by
    rw [State.stationNumber, afterCarrier_stc]
  have hpeers : ∀ y : StationId, y ≠ s.stc.station → y.val + 1 ≠ (afterCarrier s).stationNumber ∧
      y ≠ (afterCarrier s).stc.station := fun y hy => by
    rw [hnumber, afterCarrier_stc]
    exact ⟨fun h => hy (Fin.ext (by omega)), hy⟩
  have hall : addressed (afterCarrier s).stationNumber 15 = true := addressed_iff.2 (.inr rfl)
  have hown : addressed (afterCarrier s).stationNumber s.stationNumber = true :=
    addressed_iff.2 (.inl (by rw [hnumber]; rfl))
  have hownlt : s.stationNumber ≤ 8 := by
    rw [State.stationNumber]
    omega
  refine ⟨fun y b held duration hy => ?_, fun y b hy => ?_, fun y d w supply q j hy => ?_, fun c => ?_,
    fun p payload h1 h2 => ?_, fun payload h2 => ?_⟩
  · obtain ⟨hsource, hne⟩ := hpeers y hy
    refine carrierEnd_eq_heard hout hsending ?_
    rw [receiveFrame_busFrame (by omega) (by omega) (by omega) (by simp) rfl hall (by simp [sourceFits]) hsource]
    simp [deliver, stationOf_succ, hne, byteAt, binderOf_u8]
  · obtain ⟨hsource, hne⟩ := hpeers y hy
    refine carrierEnd_eq_heard hout hsending ?_
    rw [receiveFrame_busFrame (by omega) (by omega) (by omega) (by simp) rfl hall (by simp [sourceFits]) hsource]
    simp [deliver, stationOf_succ, hne, byteAt, binderOf_u8]
  · obtain ⟨hsource, hne⟩ := hpeers y hy
    have hflag : (flagByte j)[0] = j := by cases j <;> simp [flagByte]
    refine carrierEnd_eq_heard hout hsending ?_
    rw [receiveFrame_busFrame (by omega) (by omega) (by omega) (by simp [u16]) rfl hall (by simp [sourceFits]) hsource]
    simp [deliver, stationOf_succ, hne, byteAt, u16, ofNat_pair16_bytes, hflag]
  · have hbytes : pair16 (u8 (c.toNat / 256)) (u8 c.toNat) = c.toNat := by
      have hlt := c.isLt
      simp [pair16, u8]
      omega
    refine carrierEnd_eq_heard hout hsending ?_
    rw [receiveFrame_busFrame (by omega) (by omega) (by omega) (by simp [u16]) rfl hall (by simp [sourceFits]) (by omega)]
    simp [deliver, byteAt, u16, hbytes]
  · have hlength : lengthAllowed .data payload.length = true := by simp [lengthAllowed, h1, h2]
    have hp := p.isLt
    have hdest : s.stationNumber ≠ 15 := by omega
    rw [exec_dataReceived h1 h2]
    refine carrierEnd_eq_heard hout hsending ?_
    rw [receiveFrame_busFrame (by omega) (by omega) (by omega) h2 hlength hown (by simp [sourceFits]) (by omega)]
    simp [deliver, portOf, hdest]
  · have hlength : lengthAllowed .mreq payload.length = true := by simp [lengthAllowed, h2]
    have hdest : s.stationNumber ≠ 15 := by omega
    have hexec : exec (.mreqReceived payload) (afterCarrier s) =
        heard (fun t => completeMreq (stageBus payload t)) (afterCarrier s) := if_pos (by simp [mreqPayloadOk, h2])
    rw [hexec]
    refine carrierEnd_eq_heard hout hsending ?_
    rw [receiveFrame_busFrame (by omega) (by omega) (by omega) h2 hlength hown (by simp [sourceFits]) (by omega)]
    simp [deliver, hdest]

end Sys2Proof.Machine
end

section
/-! SUPPORT. Proofs about adverts, capacity notices and the claims of peers (R32, R33, R71, R73, R85, R99 to R104). -/

namespace Sys2Proof.Machine

/-! ## A change for every port -/

theorem nodup_allPorts : allPorts.Nodup := by decide

/-- A change that writes each port's record from itself alone, in states that meet a condition which it keeps, writes all the
records so. -/
theorem forPorts_port {f : PortId → State → State} {G : Port → Port} {I : State → Prop} (hkeep : ∀ p t, I t → I (f p t))
    (hself : ∀ p t, I t → (f p t).port p = G (t.port p))
    (hothers : ∀ p q t, p ≠ q → (f p t).port q = t.port q) {s : State} (hs : I s) (q : PortId) :
    (forPorts allPorts f s).port q = G (s.port q) := by
  have hlist : ∀ (ps : List PortId) (u : State), ps.Nodup → I u →
      (forPorts ps f u).port q = if q ∈ ps then G (u.port q) else u.port q := by
    intro ps
    induction ps with
    | nil => exact fun u _ _ => by simp [forPorts]
    | cons p ps ih =>
      intro u hps hu
      obtain ⟨hp, hps⟩ := List.nodup_cons.1 hps
      refine (ih (f p u) hps (hkeep p u hu)).trans ?_
      by_cases hq : p = q
      · subst hq
        simp [hp, hself p u hu]
      · simp [Ne.symm hq, hothers p q u hq]
  exact (hlist allPorts s nodup_allPorts hs).trans (if_pos (mem_allPorts q))

/-! ## Adverts and capacity (R71 to R74, R85) -/

theorem exec_advertReceived {s : State} {y : StationId} (d w : BitVec 16) (supply : Byte) (j : Bool) (q : Byte)
    (h0 : s.stc.startState ≠ .reset) (hy : y ≠ s.stc.station) :
    exec (.advertReceived y d w supply j q) s =
      .next (settle (takeAdvert y (advertEntry d w supply j q) s)) := by
  show heard _ s = _
  rw [heard_running h0, event, if_neg hy]

theorem exec_capacityReceived (c : BitVec 16) (s : State) : exec (.capacityReceived c) s = heard (takeCapacity c.toNat) s :=
  rfl

theorem supplyOf_byte (b : Byte) :
    supplyOf b.toNat = if b = 0 then .mains else if b = 1 then .battery else if b = 2 then .low else .critical := by
  have hcode : ∀ n : Nat, b = BitVec.ofNat 8 n ↔ b.toNat = n % 256 := fun n => by
    rw [← BitVec.toNat_inj]
    simp
  simp only [show (0 : Byte) = BitVec.ofNat 8 0 from rfl, show (1 : Byte) = BitVec.ofNat 8 1 from rfl,
    show (2 : Byte) = BitVec.ofNat 8 2 from rfl, hcode, Nat.reduceMod]
  generalize b.toNat = n
  match n with
  | 0 | 1 | 2 => rfl
  | n + 3 => simp [supplyOf]

theorem joined_iff (s : State) : s.joined = true ↔ s.stc.startState = .joining ∨ s.stc.startState = .running := by
  simp [State.joined]

theorem recomputeCabinet_same {s : State} (h : worstSupply s = s.smn.cabinet) : recomputeCabinet s = s := by
  simp [recomputeCabinet, h]

/-- The counting of an ADVERT has no part in the supply states. -/
theorem worstSupply_countCard (c : CardCounter) (s : State) : worstSupply (countCard c s) = worstSupply s := by
  simp [worstSupply]

/-- Settles O21: the entry and its counts, in JOINING and RUNNING alone, and the notice likewise. -/
theorem advertsAndCapacityAreTaken : Obligations.AdvertsAndCapacityAreTaken := by
  unfold Obligations.AdvertsAndCapacityAreTaken
  refine ⟨fun s y d w supply q j hu hy => ?_, fun s c hu => ⟨fun hjoined => ?_, fun hloading => ?_⟩⟩
  · have hentry : advertEntry d w supply j q = _ := congrArg (fun x => ({
      present := true, demand := d.toNat, weight := clampWeight d.toNat w.toNat, supply := x, joining := j, lastSeq := q,
      age := 0 } : Peer)) (supplyOf_byte supply)
    intro entry gap
    replace hentry : advertEntry d w supply j q = entry := hentry
    rw [exec_advertReceived d w supply j q hu.1 hy, hentry]
    refine ⟨fun hloading => ?_, fun hjoined hworst => ?_⟩
    · have htake : takeAdvert y entry s = s := by simp [takeAdvert, State.joined, hloading]
      rw [htake, settle_unburdened hu]
    · let v := if sequenceGap (s.peer y) entry.lastSeq then countCard .advertGaps s else s
      have hgap : sequenceGap (s.peer y) entry.lastSeq = true ↔ gap := by simp [sequenceGap, gap, entry]
      have hv : v.stc = s.stc ∧ v.shu = s.shu ∧ v.smn = s.smn ∧ v.tsq = s.tsq ∧ v.ports = s.ports ∧
          v.fst.requests = s.fst.requests ∧ v.cardCounter .advertsHeard = s.cardCounter .advertsHeard := by
        simp only [v]
        split
        · simp [countCard_cardCounter]
        · exact ⟨rfl, rfl, rfl, rfl, rfl, rfl, rfl⟩
      have hvgaps : v.cardCounter .advertGaps =
          if gap then (s.cardCounter .advertGaps).rise 1 else s.cardCounter .advertGaps := by
        simp only [v, hgap]
        split
        · simp [countCard_cardCounter]
        · rfl
      obtain ⟨hstc, hshu, hsmn, htsq, hports, hrequests, hheard⟩ := hv
      let u := countCard .advertsHeard (setPeer y entry v)
      have hsame : worstSupply u = u.smn.cabinet := by
        have hset : worstSupply (setPeer y entry v) = worstSupply (setPeer y entry s) := by
          rw [worstSupply, worstSupply, setPeer, setPeer, hshu, hstc, hsmn]
        rw [worstSupply_countCard, hset, hworst]
        simp [u, setPeer, hsmn]
      have htake : takeAdvert y entry s = u := by
        rw [takeAdvert, if_pos ((joined_iff s).2 hjoined)]
        exact recomputeCabinet_same hsame
      have hustc : u.stc = s.stc := by simp [u, setPeer, hstc]
      have hquiet : Quiet u := by
        refine ⟨by rw [hustc]; exact hu.1, .inl ?_, ?_⟩
        · simpa [u, setPeer, htsq] using hu.2.1
        · simpa [u, setPeer, hrequests] using hu.2.2.1
      have hpeer : ∀ t, (settle u).peer t = (setPeer y entry s).peer t := fun t => by
        simp only [State.peer, hquiet.settle_shu]
        simp [u, setPeer, hshu]
      refine ⟨settle u, by rw [htake], ?_, fun t ht => ?_, ?_, fun h => ?_, fun h => ?_, ?_, ?_⟩
      · rw [hpeer]
        exact tget_tset_self _ _ _
      · rw [hpeer]
        exact tget_tset_ne _ _ ht.symm
      · rw [hquiet.settle_cardCounter, countCard_cardCounter, if_pos rfl]
        exact congrArg (Counter.rise 1) hheard
      · rw [hquiet.settle_cardCounter, countCard_cardCounter, if_neg (by decide)]
        exact hvgaps.trans (if_pos h)
      · rw [hquiet.settle_cardCounter, countCard_cardCounter, if_neg (by decide)]
        exact hvgaps.trans (if_neg h)
      · rw [hquiet.settle_ports]
        simp [u, setPeer, hports]
      · rw [hquiet.settle_smn]
        simp [u, setPeer, hsmn]
  · refine heard_whole (f := takeCapacity c.toNat) hu ?_ hu
    rw [takeCapacity, if_pos ((joined_iff s).2 hjoined)]
    rfl
  · exact heard_whole (f := takeCapacity c.toNat) hu (by simp [takeCapacity, State.joined, hloading]) hu

/-! ## Claims that enter the table, and that leave it (R32, R33, R100) -/

/-- The record of a port that a claim finds in training (R32). -/
def claimedRecord (b : BinderId) (r : Port) : Port :=
  if r.binder = b ∧ r.lineState = .training then (r.leave .hold false).enter .hold false else r

/-- The record of a port whose binder's entry becomes FREE (R33). -/
def freedRecord (b : BinderId) (r : Port) : Port := if r.binder = b ∧ r.lineState = .hold then trainingRecord r else r

theorem claimEntered_port (b : BinderId) (s : State) (q : PortId) :
    (claimEntered b s).port q = claimedRecord b (s.port q) := by
  refine forPorts_port (G := claimedRecord b) (I := fun _ => True) (fun _ _ _ => trivial) (fun p t _ => ?_)
    (fun p q t hq => ?_) trivial q
  · unfold claimedRecord
    split
    · exact changeState_port_self _ _ _ _ _
    · rfl
  · split
    · exact changeState_others _ _ _ _ _ _ hq
    · rfl

theorem claimFreed_port {b : BinderId} {s : State} (h : s.claimed b = false) (q : PortId) :
    (claimFreed b s).port q = freedRecord b (s.port q) := by
  have hbegin : ∀ (p : PortId) (t : State), t.claimed b = false → (t.port p).binder = b → (t.port p).lineState = .hold →
      beginAttempt p t = t.setPort p (trainingRecord (t.port p)) := by
    intro p t ht hb hl
    rw [beginAttempt_eq_attemptRecord (by simp [hl]) (by simp [hl]), hb, ht]
    rfl
  refine forPorts_port (G := freedRecord b) (I := fun t => t.claimed b = false) (fun p t ht => ?_) (fun p t ht => ?_)
    (fun p q t hq => ?_) h q
  · split
    · next hp => rw [hbegin p t ht hp.1 hp.2]; exact ht
    · exact ht
  · unfold freedRecord
    split
    · next hp => rw [hbegin p t ht hp.1 hp.2]; exact setPort_port_self _ _ _
    · rfl
  · split
    · next hp =>
      rw [beginAttempt_eq_attemptRecord (by simp [hp.2]) (by simp [hp.2])]
      exact setPort_port_ne _ _ hq
    · rfl

theorem beginAttempt_requests (p : PortId) (s : State) : (beginAttempt p s).fst.requests = s.fst.requests := by
  unfold beginAttempt
  repeat' split
  all_goals simp [changeState_requests]

theorem claimEntered_requests (b : BinderId) (s : State) : (claimEntered b s).fst.requests = s.fst.requests := by
  unfold claimEntered
  refine forPorts_keeps (fun t => t.fst.requests) _ (fun p t => ?_) _ s
  split
  · exact changeState_requests _ _ _ _ _
  · rfl

theorem claimFreed_requests (b : BinderId) (s : State) : (claimFreed b s).fst.requests = s.fst.requests := by
  unfold claimFreed
  refine forPorts_keeps (fun t => t.fst.requests) _ (fun p t => ?_) _ s
  split
  · exact beginAttempt_requests _ _
  · rfl

theorem setClaim_requests (b : BinderId) (e : ClaimEntry) (s : State) : (setClaim b e s).fst.requests = s.fst.requests := by
  unfold setClaim
  dsimp only
  repeat' split
  all_goals simp [claimFreed_requests, claimEntered_requests]

theorem Quiet.setClaim {s : State} (h : Quiet s) (b : BinderId) (e : ClaimEntry) : Quiet (setClaim b e s) := by
  simpa [Quiet, setClaim_requests] using h

theorem claimed_eq_phase (s : State) (b : BinderId) : s.claimed b = ((s.claim b).phase != .free) := rfl

/-- A claim takes a FREE entry: its binder's TRAINING ports go to HOLD (R32, R100). -/
theorem setClaim_port_of_free {b : BinderId} {e : ClaimEntry} {s : State} (hs : (s.claim b).phase = .free)
    (he : e.phase ≠ .free) (q : PortId) : (setClaim b e s).port q = claimedRecord b (s.port q) := by
  have hfree : s.claimed b = false := by simp [claimed_eq_phase, hs]
  have ht : ({ s with clt := { s.clt with entries := tset s.clt.entries b e } } : State).claimed b = true := by
    simp [State.claimed, he]
  simp only [setClaim, hfree, ht, if_true, Bool.false_eq_true, if_false]
  exact claimEntered_port b _ q

/-- A claim leaves the table: its binder's HOLD ports begin a training attempt (R33, R100). -/
theorem setClaim_port_vacant {b : BinderId} {s : State} (hs : (s.claim b).phase ≠ .free) (q : PortId) :
    (setClaim b ClaimEntry.vacant s).port q = freedRecord b (s.port q) := by
  have hclaimed : s.claimed b = true := by simp [claimed_eq_phase, hs]
  have ht : ({ s with clt := { s.clt with entries := tset s.clt.entries b ClaimEntry.vacant } } : State).claimed b = false := by
    simp [State.claimed, ClaimEntry.vacant]
  simp only [setClaim, hclaimed, ht, if_true, Bool.false_eq_true, if_false]
  exact claimFreed_port ht q

theorem Quiet.settle_claim {s : State} (h : Quiet s) (b : BinderId) : (settle s).claim b = s.claim b := by
  rw [State.claim, h.settle_clt]
  rfl

/-- The record of a port that a claim abandons (R32). -/
theorem claimedRecord_training {b : BinderId} {r : Port} (hb : r.binder = b) (hl : r.lineState = .training)
    (hphase : r.phase ≠ .none) (hp : r.power = .on) :
    let t := claimedRecord b r
    t.lineState = .hold ∧ t.phase = .none ∧ t.profile = none ∧ t.failures = r.failures ∧
      t.linkOut = r.linkOut ++ [.abandon] := by
  simp [claimedRecord, hb, hl, Port.leave, Port.needsAbandon, hphase, Port.enter, Port.powerTo, powerModeOf, Port.send, hp]

/-- Settles O22: the entry is written, and where it was FREE its binder's TRAINING ports are abandoned. -/
theorem claimTakesFreeEntry : Obligations.ClaimTakesFreeEntry := by
  unfold Obligations.ClaimTakesFreeEntry
  intro s y b phase duration hu hy
  rw [exec_claimReceived_peer b phase duration hu.1 hy]
  refine ⟨fun hfree => ?_, fun hphase hown hclaimant => ?_⟩
  · have harrives : claimArrives y b phase duration s = setClaim b (claimedBy y phase duration) s := by
      rw [← peerClaim_eq_claimedBy]
      simp [claimArrives, takeClaim, tellSequencer, hfree]
    have hne : (claimedBy y phase duration).phase ≠ .free := by
      rw [← peerClaim_eq_claimedBy]
      exact peerClaim_phase_ne_free _ _ _
    have hquiet := hu.quiet.setClaim b (claimedBy y phase duration)
    rw [harrives]
    refine ⟨_, rfl, ?_, fun c hc => ?_, fun p hb hl hp hon => ?_, fun p hp => ?_⟩
    · rw [hquiet.settle_claim, setClaim_claim_self]
    · rw [hquiet.settle_claim, setClaim_claim_ne _ _ hc.symm]
    · rw [hquiet.settle_port, setClaim_port_of_free hfree hne]
      exact claimedRecord_training hb hl hp hon
    · rw [hquiet.settle_port, setClaim_port_of_free hfree hne, claimedRecord, if_neg (by tauto)]
  · have harrives : claimArrives y b phase duration s =
        { s with clt := { s.clt with entries := tset s.clt.entries b (claimedBy y phase duration) } } := by
      rw [← peerClaim_eq_claimedBy, ← setClaim_of_claimed (by simp [claimed_eq_phase, hphase]) (peerClaim_phase_ne_free _ _ _)]
      simp [claimArrives, takeClaim, tellSequencer, hphase, hown, hclaimant]
    rw [harrives]
    exact congrArg Host.Outcome.next (settle_unburdened hu)

/-! ## RELEASE, expiry and the idle millisecond (R103, R104) -/

theorem exec_releaseReceived {s : State} {y : StationId} (b : BinderId) (h0 : s.stc.startState ≠ .reset)
    (hy : y ≠ s.stc.station) : exec (.releaseReceived y b) s = .next (settle (takeRelease y b s)) := by
  show heard _ s = _
  rw [heard_running h0, event, if_neg hy]

theorem exec_claimExpiry (b : BinderId) (s : State) : exec (.claimExpiry b) s = event (expireClaim b) s := rfl

theorem runsOut_iff (e : ClaimEntry) : e.runsOut = true ↔ (e.phase ≠ .free ∧ e.own = false) ∧ e.remaining ≤ 1 := by
  simp [ClaimEntry.runsOut]

/-- What frees an entry does to the ports (R33). -/
theorem freedRecord_hold {b : BinderId} {r : Port} (hb : r.binder = b) (hl : r.lineState = .hold) :
    freedRecord b r = trainingRecord r := if_pos ⟨hb, hl⟩

theorem freedRecord_other {b : BinderId} {r : Port} (h : r.binder ≠ b ∨ r.lineState ≠ .hold) : freedRecord b r = r :=
  if_neg (by tauto)

/-- What the expiry of one binder's claim does to a port (R33, R104). -/
theorem expireClaim_port (b : BinderId) (s : State) (p : PortId) :
    (expireClaim b s).port p = if (s.claim b).runsOut = true then freedRecord b (s.port p) else s.port p := by
  unfold expireClaim
  split
  · next h => exact setClaim_port_vacant ((runsOut_iff _).1 h).1.1 p
  · rfl

/-- What the expiries of a list of binders do to a port: its own binder's alone concerns it (R104). -/
theorem foldl_expireClaim_port (bs : List BinderId) (s : State) (p : PortId) :
    (bs.foldl (fun u b => expireClaim b u) s).port p =
      if (s.port p).binder ∈ bs ∧ (s.claim (s.port p).binder).runsOut = true then freedRecord (s.port p).binder (s.port p)
      else s.port p := by
  induction bs generalizing s with
  | nil => simp
  | cons b bs ih =>
    rw [List.foldl_cons, ih, expireClaim_claim, expireClaim_port]
    by_cases hb : (s.port p).binder = b
    · subst hb
      by_cases hruns : (s.claim (s.port p).binder).runsOut = true
      · have hbinder : (freedRecord (s.port p).binder (s.port p)).binder = (s.port p).binder := by
          unfold freedRecord
          split <;> rfl
        have hvacant : ClaimEntry.vacant.runsOut = false := rfl
        simp only [hruns, hbinder, hvacant, if_true, and_true, and_false, Bool.false_eq_true, if_false,
          List.mem_cons, true_or]
      · simp [hruns]
    · have hsame : freedRecord b (s.port p) = s.port p := freedRecord_other (.inl hb)
      simp [hsame, hb, Ne.symm hb]

theorem idleTick_port (s : State) (p : PortId) : (idleTick s).port p =
    if (s.claim (s.port p).binder).runsOut = true then freedRecord (s.port p).binder (s.port p) else s.port p := by
  have hmem : (s.port p).binder ∈ allBinders := by
    generalize (s.port p).binder = b
    revert b
    decide
  have hfold := foldl_expireClaim_port allBinders s p
  simp only [hmem, true_and] at hfold
  unfold idleTick
  generalize List.foldl _ s allBinders = u at hfold
  exact hfold

theorem Quiet.idleTick {s : State} (h : Quiet s) : Quiet (idleTick s) := by
  have hfold : ∀ (bs : List BinderId) (u : State), Quiet u → Quiet (bs.foldl (fun u b => expireClaim b u) u) := by
    intro bs
    induction bs with
    | nil => exact fun u => id
    | cons b bs ih =>
      intro u hu
      refine ih (expireClaim b u) ?_
      unfold expireClaim
      split
      · exact hu.setClaim _ _
      · exact hu
  have hlist := hfold allBinders s h
  unfold Machine.idleTick
  generalize List.foldl _ s allBinders = u at hlist
  exact hlist

theorem step_idle {s : State} (h : s.pending = []) : step s = event idleTick s := by
  unfold step
  split
  · rfl
  · next hp => simp [h] at hp

/-- Settles O25: RELEASE, one expiry, and the expiries of an idle millisecond. -/
theorem releaseAndExpiryFreeAPeersEntry : Obligations.ReleaseAndExpiryFreeAPeersEntry := by
  unfold Obligations.ReleaseAndExpiryFreeAPeersEntry
  refine ⟨fun s y b hu hy => ?_, fun s b hu => ?_, fun s hu hpending => ?_⟩
  · rw [exec_releaseReceived b hu.1 hy]
    refine ⟨fun hphase hown hclaimant => ?_, fun hother => ?_⟩
    · have htake : takeRelease y b s = setClaim b ClaimEntry.vacant s := by
        simp [takeRelease, hphase, hown, hclaimant]
      have hquiet := hu.quiet.setClaim b ClaimEntry.vacant
      rw [htake]
      refine ⟨_, rfl, ?_, fun c hc => ?_, fun p hb hl => ?_, fun p hp => ?_⟩
      · rw [hquiet.settle_claim, setClaim_claim_self, ClaimEntry.vacant]
      · rw [hquiet.settle_claim, setClaim_claim_ne _ _ hc.symm]
      · rw [hquiet.settle_port, setClaim_port_vacant hphase, freedRecord_hold hb hl]
        exact ⟨rfl, rfl, rfl, rfl, rfl⟩
      · rw [hquiet.settle_port, setClaim_port_vacant hphase, freedRecord_other hp]
    · have htake : takeRelease y b s = s := by
        obtain h | h | h := hother <;> simp [takeRelease, h]
      rw [htake, settle_unburdened hu]
  · refine ⟨fun hphase hown hlast => ?_, fun hother => ?_⟩
    · have hruns : (s.claim b).runsOut = true := (runsOut_iff _).2 ⟨⟨hphase, hown⟩, hlast⟩
      have hexpires : expireClaim b s = setClaim b ClaimEntry.vacant s := if_pos hruns
      have hquiet := hu.quiet.setClaim b ClaimEntry.vacant
      refine ⟨settle (setClaim b ClaimEntry.vacant s), by rw [exec_claimExpiry, event, hexpires], ?_, fun c hc => ?_,
        fun p hb hl => ?_, fun p hp => ?_⟩
      · rw [hquiet.settle_claim, setClaim_claim_self, ClaimEntry.vacant]
      · rw [hquiet.settle_claim, setClaim_claim_ne _ _ hc.symm]
      · rw [hquiet.settle_port, setClaim_port_vacant hphase, freedRecord_hold hb hl]
        exact ⟨rfl, rfl⟩
      · rw [hquiet.settle_port, setClaim_port_vacant hphase, freedRecord_other hp]
    · refine event_whole (f := expireClaim b) (if_neg fun h => ?_) hu
      obtain ⟨⟨hphase, hown⟩, hlast⟩ := (runsOut_iff _).1 h
      obtain h | h | h := hother
      · exact hphase h
      · simp [h] at hown
      · omega
  · have hquiet := hu.quiet.idleTick
    refine ⟨settle (idleTick s), by rw [step_idle hpending, event], fun b => ?_, fun p => ?_⟩
    · rw [hquiet.settle_claim, idleTick_claim]
      have hruns := runsOut_iff (s.claim b)
      refine ⟨fun hcounts hlast => if_pos (hruns.2 ⟨hcounts, hlast⟩), fun hcounts hlast => ?_, fun hno => ?_⟩
      · rw [if_neg (fun h => absurd (hruns.1 h).2 (by omega)), ClaimEntry.tick, if_pos hcounts]
      · rw [if_neg (fun h => hno (hruns.1 h).1), ClaimEntry.tick, if_neg hno]
    · rw [hquiet.settle_port, idleTick_port]
      have hruns := runsOut_iff (s.claim (s.port p).binder)
      refine ⟨fun hexpires hl => ?_, fun hno => ?_⟩
      · rw [if_pos (hruns.2 hexpires), freedRecord_hold rfl hl]
        exact ⟨rfl, rfl⟩
      · obtain h | h := hno
        · rw [if_neg (fun hr => h (hruns.1 hr))]
        · rw [freedRecord_other (.inr h), ite_self]

end Sys2Proof.Machine
end

section
/-! SUPPORT. Proofs about the card's own claim (R106 to R110, R118, R119, R125). -/

namespace Sys2Proof.Machine

/-! ## The end of a step before the arbiter -/

/-- The card when the waiting items have been offered (R157). -/
def offered (s : State) : State := offerWaiting s.mga.waiting.length s

theorem Quiet.event_eq {f : State → State} {s : State} (h : Quiet (f s)) :
    event f s = .next (txArbitrate (offered (f s))) := congrArg Host.Outcome.next h.settle_eq

/-- The offer writes of the management queues, the pools and the waiting list alone (R157). -/
theorem offered_eq (s : State) : ∃ cells records requests responses waiting, offered s = { s with
    fst := { s.fst with freeCells := cells, freeRecords := records, requests := requests, responses := responses }
    mga := { s.mga with waiting := waiting } } := offerWaiting_writes _ _

/-! ## The entry to RESTORING (R121, R126) -/

theorem decideOutcome_eq (run : Running) : some (decideOutcome run) = (restoringRun run).outcome := by
  cases h : run.abort <;> simp [decideOutcome, restoringRun, h]

theorem enterRestoring_eq {s : State} {run : Running} (h : s.tsq.running = some run) :
    enterRestoring s = setRunning (some (restoringRun run)) (openTest run.req.port s) := by
  simp only [enterRestoring, h, decideOutcome_eq]
  rfl

theorem stopStage_drive (s : State) : (stopStage s).msu.drive = .off := by
  unfold stopStage grantConverter
  repeat' split
  all_goals rfl

/-- The entry to RESTORING from a state in which the stage has been stopped (R121). -/
theorem entersRestoring_of {s u : State} {run : Running} (hrun : u.tsq.running = some run) (hports : u.ports = s.ports)
    (hstage : u.msu.run = .none) (hdrive : u.msu.drive = .off) : EntersRestoring run s (enterRestoring u) := by
  rw [enterRestoring_eq hrun]
  refine ⟨rfl, hstage, hdrive, ?_, fun q hq => ?_⟩
  · rw [setRunning_port, openTest, modPort_port_self, State.port, hports]
    rfl
  · rw [setRunning_port, openTest, modPort_port_ne _ _ hq.symm, State.port, hports]
    rfl

theorem EntersRestoring.congr {s u t : State} {run : Running} (h : EntersRestoring run s u) (htsq : t.tsq = u.tsq)
    (hmsu : t.msu = u.msu) (hports : t.ports = u.ports) : EntersRestoring run s t := by
  simpa only [EntersRestoring, State.port, htsq, hmsu, hports] using h

/-! ## A peer's CLAIM against the own claim (R109, R125) -/

/-- The end of a step at which the start choice takes nothing and nothing waits for the agent. -/
theorem settle_of_noStart {s : State} (hout : s.stc.startState ≠ .reset) (hstart : startChoice s = s)
    (hrequests : s.fst.requests = []) (hwaiting : s.mga.waiting = []) : settle s = txArbitrate s := by
  simp [settle, hout, hstart, mgaWork_idle hrequests hwaiting]

theorem startChoice_of_mayNot {s : State} {q : TestReq} (hqueue : s.tsq.queue = [q]) (h : mayStart s q = false) :
    startChoice s = s := by
  simp [startChoice, hqueue, h]

section
variable {s : State} {b : BinderId} {y : StationId} {phase duration : Byte} {held : Bool}

theorem claimArrives_own (hphase : (s.claim b).phase ≠ .free) (hown : (s.claim b).own = true) :
    claimArrives y b phase duration s = tellSequencer (meetOwnClaim b y (phase == 1) duration s) := by
  simp only [claimArrives, takeClaim, hphase, hown, if_true, if_false]

theorem meetOwnClaim_pending_kept (hphase : (s.claim b).phase = .pending)
    (hkeep : keepsFirst false held s.stc.station y = true) : meetOwnClaim b y held duration s = (s, .nothing) := by
  have hpending : ((s.claim b).phase == .held) = false := by rw [hphase]; rfl
  simp only [meetOwnClaim, hpending, hkeep, Bool.not_false, if_true]

/-- Where a peer's CLAIM wins against an own PENDING one, the own claim is withdrawn (R109, R110). -/
theorem meetOwnClaim_pending_lost (hphase : (s.claim b).phase = .pending)
    (hlost : keepsFirst false held s.stc.station y = false) :
    meetOwnClaim b y held duration s =
      ({ s with
        clt := { entries := tset s.clt.entries b (peerClaim y held duration), own := none }
        bau := { s.bau with ctrl := ctrlRemoveClaim b s.bau.ctrl } }, .lost) := by
  have hpending : ((s.claim b).phase == .held) = false := by rw [hphase]; rfl
  have hclaimed : (withdrawClaim b s).claimed b = true := (claimed_eq_phase s b).trans (by rw [hphase]; rfl)
  simp only [meetOwnClaim, hpending, hlost, Bool.not_false, if_true, Bool.false_eq_true, if_false,
    setClaim_of_claimed hclaimed (peerClaim_phase_ne_free y _ _)]
  rfl

/-- An own HELD claim is repeated against a PENDING one (R109). -/
theorem meetOwnClaim_held_pending (hphase : (s.claim b).phase = .held) :
    meetOwnClaim b y false duration s = (s.modCtrl (ctrlPlaceClaim (.claim b true 20)), .nothing) := by
  have hheld : ((s.claim b).phase == .held) = true := by rw [hphase]; rfl
  simp only [meetOwnClaim, hheld, Bool.not_true, Bool.not_false, if_true, Bool.false_eq_true, if_false]
  rfl

theorem meetOwnClaim_held_kept (hphase : (s.claim b).phase = .held)
    (hkeep : keepsFirst true true s.stc.station y = true) :
    meetOwnClaim b y true duration s = ((noteClash s).modCtrl (ctrlPlaceClaim (.claim b true 20)), .nothing) := by
  have hheld : ((s.claim b).phase == .held) = true := by rw [hphase]; rfl
  simp only [meetOwnClaim, hheld, hkeep, Bool.not_true, if_true, Bool.false_eq_true, if_false]
  rfl

/-- The card as an own HELD claim is lost to a peer's HELD one, before the sequencer hears of it (R109). -/
def clashLost (b : BinderId) (e : ClaimEntry) (s : State) : State :=
  { noteClash s with clt := { entries := tset s.clt.entries b e, own := some (b, .lost) } }

theorem meetOwnClaim_held_lost (hphase : (s.claim b).phase = .held)
    (hlost : keepsFirst true true s.stc.station y = false) :
    meetOwnClaim b y true duration s = (clashLost b (peerClaim y true duration) s, .clash) := by
  have hheld : ((s.claim b).phase == .held) = true := by rw [hphase]; rfl
  have hclaimed : (setOwnClaim (some (b, .lost)) (noteClash s)).claimed b = true := by
    have hsame : (setOwnClaim (some (b, .lost)) (noteClash s)).claimed b = s.claimed b := by
      simp [State.claimed, setOwnClaim]
    rw [hsame, claimed_eq_phase, hphase]
    rfl
  simp only [meetOwnClaim, hheld, hlost, Bool.not_true, Bool.false_eq_true, if_false,
    setClaim_of_claimed hclaimed (peerClaim_phase_ne_free y _ _)]
  simp only [clashLost, setOwnClaim, noteClash_clt]

theorem clashLost_keeps (b : BinderId) (e : ClaimEntry) (s : State) :
    let t := clashLost b e s
    t.tsq = s.tsq ∧ t.ports = s.ports ∧ t.msu = s.msu ∧ t.bau = s.bau ∧ t.stc = s.stc ∧
      t.fst.requests = s.fst.requests := by
  simp [clashLost]

end

/-- A clash that reaches a test in a quiet stage ends that stage (R125). -/
theorem claimClashed_quiet {s : State} {run : Running} (hrun : s.tsq.running = some run) (hst : run.st = .measuring)
    (hstage : run.stage = some .reflection ∨ run.stage = some .noise) :
    claimClashed s = enterRestoring (stopStage (setRunning (some { run with clash := true }) s)) := by
  obtain h | h := hstage <;> simp [claimClashed, hrun, hst, h, Stage.quiet]

/-- In any other stage or state a clash is marked (R125). -/
theorem claimClashed_marks {s : State} {run : Running} (hrun : s.tsq.running = some run)
    (h : ¬(run.st = .measuring ∧ (run.stage = some .reflection ∨ run.stage = some .noise))) :
    claimClashed s = setRunning (some { run with clash := true }) s := by
  unfold claimClashed
  simp only [hrun]
  split
  · next st hst hstage =>
    have hloud : st.quiet = false := by
      cases st <;> simp_all [Stage.quiet]
    simp [hloud]
  · rfl

/-- Settles O24: the rows of R109 by the entry's phase, the frame's and the station order. -/
theorem ownClaimMeetsPeerClaim : Obligations.OwnClaimMeetsPeerClaim := by
  unfold Obligations.OwnClaimMeetsPeerClaim
  intro s y b step phase duration run hu hy hown hentry hrun hkind hbinder
  have harrives : (s.claim b).phase ≠ .free → exec (.claimReceived y b phase duration) s =
      .next (settle (tellSequencer (meetOwnClaim b y (phase == 1) duration s))) := fun hphase => by
    rw [exec_claimReceived_peer b phase duration hu.1 hy, claimArrives_own hphase hentry]
  refine ⟨fun hphase hst => ⟨fun hpending hlt => ?_, fun hwins => ?_⟩, fun hphase => ⟨fun hpending => ?_, fun hheld => ?_⟩⟩
  · have hkeep : keepsFirst false (phase == 1) s.stc.station y = true := by
      rw [keepsFirst_iff, beq_eq_false_iff_ne.2 hpending]
      simp [hlt]
    rw [harrives (by simp [hphase]), meetOwnClaim_pending_kept hphase hkeep]
    exact congrArg Host.Outcome.next (settle_unburdened hu)
  · have hlost : keepsFirst false (phase == 1) s.stc.station y = false := by
      rw [← Bool.not_eq_true, keepsFirst_iff]
      obtain h | h := hwins
      · subst h
        simp
      · simp [not_lt_of_gt h]
    rw [harrives (by simp [hphase]), meetOwnClaim_pending_lost hphase hlost, peerClaim_eq_claimedBy]
    simp only [tellSequencer, claimLost, hrun, hst, if_true, hu.2.1, insertByArrival]
    refine congrArg Host.Outcome.next (settle_of_noStart hu.1 (startChoice_of_mayNot rfl ?_) hu.2.2.1 hu.2.2.2)
    have hclaimed : (claimedBy y phase duration).phase ≠ .free := by
      rw [← peerClaim_eq_claimedBy]
      exact peerClaim_phase_ne_free _ _ _
    have hport : (tget s.ports run.req.port).binder = b := hbinder
    simp [mayStart, hkind, State.port, hport, State.claimed, hclaimed]
  · rw [harrives (by simp [hphase]), beq_eq_false_iff_ne.2 hpending, meetOwnClaim_held_pending hphase]
    exact congrArg Host.Outcome.next (settle_unburdened hu)
  · rw [harrives (by simp [hphase]), beq_iff_eq.2 hheld]
    by_cases hlt : s.stc.station < y
    · have hkeep : keepsFirst true true s.stc.station y = true := by simp [keepsFirst_iff, hlt]
      rw [meetOwnClaim_held_kept hphase hkeep]
      let u := (noteClash s).modCtrl (ctrlPlaceClaim (.claim b true 20))
      have hquiet : Quiet u := ⟨by simpa [u] using hu.1, .inl (by simpa [u] using hu.2.1), by simpa [u] using hu.2.2.1⟩
      obtain ⟨_, _, _, _, _, hoffered⟩ := offered_eq u
      refine ⟨offered u, congrArg Host.Outcome.next hquiet.settle_eq, ?_⟩
      rw [hoffered]
      refine ⟨noteClash_claimClashes s, noteClash_flagSet s, fun _ => ?_, fun hgt => absurd hgt (not_lt_of_gt hlt)⟩
      simp [u, State.modCtrl]
    · have hlost : keepsFirst true true s.stc.station y = false := by
        rw [← Bool.not_eq_true, keepsFirst_iff]
        simp [hlt]
      have hclaimedBy : peerClaim y true duration = claimedBy y phase duration := by
        rw [← peerClaim_eq_claimedBy, beq_iff_eq.2 hheld]
      rw [meetOwnClaim_held_lost hphase hlost, hclaimedBy]
      obtain ⟨htsq, hports, hmsu, hbau, hstc, hrequests⟩ := clashLost_keeps b (claimedBy y phase duration) s
      have hcount : (clashLost b (claimedBy y phase duration) s).cardCounter .claimClashes =
          (s.cardCounter .claimClashes).rise 1 := noteClash_claimClashes s
      have hflag : (clashLost b (claimedBy y phase duration) s).flagSet .claimClash = true := noteClash_flagSet s
      have hclaim : (clashLost b (claimedBy y phase duration) s).claim b = claimedBy y phase duration :=
        tget_tset_self _ _ _
      have hlostown : (clashLost b (claimedBy y phase duration) s).clt.own = some (b, .lost) := rfl
      generalize clashLost b (claimedBy y phase duration) s = v at *
      let u := claimClashed v
      have hvrun : v.tsq.running = some run := by rw [htsq, hrun]
      have hukeeps : u.clt = v.clt ∧ u.mga = v.mga ∧ u.bau = v.bau ∧ u.stc = v.stc ∧ u.fst = v.fst ∧
          u.tsq.running ≠ none := by
        by_cases hquietStage : run.st = .measuring ∧ (run.stage = some .reflection ∨ run.stage = some .noise)
        · have hu' : u = _ := claimClashed_quiet hvrun hquietStage.1 hquietStage.2
          rw [hu', enterRestoring_eq (run := { run with clash := true }) (by simp)]
          simp [openTest]
        · have hu' : u = _ := claimClashed_marks hvrun hquietStage
          rw [hu']
          exact ⟨rfl, rfl, rfl, rfl, rfl, by simp⟩
      obtain ⟨huclt, humga, hubau, hustc, hufst, hurun⟩ := hukeeps
      have hquiet : Quiet u := ⟨by rw [hustc, hstc]; exact hu.1, .inr hurun, by rw [hufst, hrequests]; exact hu.2.2.1⟩
      obtain ⟨_, _, _, _, _, hoffered⟩ := offered_eq u
      refine ⟨offered u, congrArg Host.Outcome.next hquiet.settle_eq, ?_⟩
      have hsame : (offered u).tsq = u.tsq ∧ (offered u).msu = u.msu ∧ (offered u).ports = u.ports := by
        rw [hoffered]
        exact ⟨rfl, rfl, rfl⟩
      obtain ⟨hotsq, homsu, hoports⟩ := hsame
      refine ⟨?_, ?_, fun h => absurd h hlt, fun _ => ⟨?_, ?_, ?_, fun hloud => ?_, fun hquietStage => ?_⟩⟩
      · rw [hoffered]
        simpa only [State.cardCounter, humga] using hcount
      · rw [hoffered]
        simpa only [State.flagSet, humga] using hflag
      · rw [hoffered]
        simpa only [State.claim, huclt] using hclaim
      · rw [hoffered, ← hlostown]
        exact congrArg Clt.own huclt
      · rw [hoffered]
        exact (congrArg Bau.ctrl hubau).trans (congrArg Bau.ctrl hbau)
      · have hu' : u = _ := claimClashed_marks hvrun hloud
        rw [hotsq, homsu, hoports, hu']
        exact ⟨rfl, hports, hmsu⟩
      · have hu' : u = _ := claimClashed_quiet hvrun hquietStage.1 hquietStage.2
        refine EntersRestoring.congr ?_ hotsq homsu hoports
        rw [hu']
        exact entersRestoring_of (by simp) (by simp [hports]) (stopStage_run _) (stopStage_drive _)

/-! ## The settled claim (R108, R118, R119) -/

theorem exec_settleExpiry (s : State) : exec .settleExpiry s = event (fun t => tellSequencer (settleExpires t)) s := rfl

theorem exec_renewalExpiry (s : State) : exec .renewalExpiry s = event renewalExpires s := rfl

/-- The card as its own claim is confirmed, before the sequencer hears of it (R108). -/
def confirmed (b : BinderId) (s : State) : State :=
  { s with
    clt := { entries := tset s.clt.entries b (ownClaim s.stc.station true), own := some (b, .held) }
    bau := { s.bau with ctrl := ctrlPlaceClaim (.claim b true 20) s.bau.ctrl } }

theorem settleExpires_confirms {s : State} {b : BinderId} (hown : s.clt.own = some (b, .settling))
    (hphase : (s.claim b).phase = .pending) : settleExpires s = (confirmed b s, .held) := by
  have hclaimed : (placeOwnClaim b true (setOwnClaim (some (b, .held)) s)).claimed b = true :=
    (claimed_eq_phase s b).trans (by rw [hphase]; rfl)
  simp only [settleExpires, hown, setClaim_of_claimed hclaimed (e := ownClaim s.stc.station true) (by simp [ownClaim])]
  rfl

/-- What the entry to ISOLATING writes of its port (R119). -/
theorem enterIsolating_spec {s : State} {run : Running} (h : s.tsq.running = some run) :
    let t := enterIsolating s
    (t.port run.req.port).lineState = .testing ∧ (t.port run.req.port).serviceClosed = false ∧
      (t.port run.req.port).profile = none ∧
      t.tsq.running = some { run with
        st := .isolating, fromFaulted := (s.port run.req.port).lineState == .faulted, deadTimer := true } ∧
      t.tsq.queue = s.tsq.queue ∧ tget t.fst.down run.req.port = [] ∧ (∀ q, q ≠ run.req.port → t.port q = s.port q) ∧
      t.clt = s.clt ∧ t.bau = s.bau ∧ t.stc = s.stc ∧ t.fst.requests = s.fst.requests := by
  rw [enterIsolating_eq h]
  have hprofile : (((s.port run.req.port).leave .testing false).enter .testing false).profile = none := by
    simp only [Port.enter, Port.powerTo, powerModeOf, Port.leave, Port.send]
    repeat' split
    all_goals simp_all
  refine ⟨?_, ?_, ?_, rfl, ?_, ?_, fun q hq => ?_, ?_, ?_, ?_, ?_⟩
  · simp [openService]
  · simp [openService]
  · simp only [setRunning_port, openService, modPort_port_self, changeState_port_self]
    exact hprofile
  · simp [openService, setRunning]
  · simp [openService, setRunning, changeState_down, LineState.flushes]
  · simp only [setRunning_port, openService, modPort_port_ne _ _ hq.symm]
    exact changeState_others _ _ _ _ _ _ hq.symm
  · simp [openService, setRunning]
  · simp [openService, setRunning]
  · simp [openService, setRunning]
  · simp [openService, setRunning, changeState_requests]

/-- Settles O26: the confirmation, the test's move to ISOLATING, and the renewal. -/
theorem settledClaimIsHeldAndRenewed : Obligations.SettledClaimIsHeldAndRenewed := by
  unfold Obligations.SettledClaimIsHeldAndRenewed
  intro s b hu
  refine ⟨fun run hown hrun hst hphase => ?_, fun hown => ?_⟩
  · have htold : tellSequencer (settleExpires s) = enterIsolating (confirmed b s) := by
      rw [settleExpires_confirms hown hphase]
      have hrunning : (confirmed b s).tsq.running = some run := hrun
      simp only [tellSequencer, claimHeld, hrunning, hst, if_true]
    obtain ⟨hline, hservice, hprofile, hrunning, hqueue, hdown, hothers, hclt, hbau, hstc, hrequests⟩ :=
      enterIsolating_spec (s := confirmed b s) (run := run) hrun
    generalize enterIsolating (confirmed b s) = u at *
    have hquiet : Quiet u := ⟨by rw [hstc]; exact hu.1, .inr (by rw [hrunning]; simp), by rw [hrequests]; exact hu.2.2.1⟩
    obtain ⟨_, _, _, _, _, hoffered⟩ := offered_eq u
    refine ⟨offered u, ?_, ?_⟩
    · rw [exec_settleExpiry, event, htold, hquiet.settle_eq]
      rfl
    · rw [hoffered]
      refine ⟨?_, ?_, congrArg Bau.ctrl hbau, hline, hservice, hprofile, hrunning, hdown, hothers⟩
      · simp only [State.claim, hclt, confirmed, tget_tset_self]
        rfl
      · simp only [hclt, confirmed]
  · refine event_whole (f := renewalExpires) ?_ hu
    simp only [renewalExpires, hown]
    rfl

end Sys2Proof.Machine
end

section
/-! SUPPORT. Proofs about the transmitter's moves, the control list, the arbiter and the scheduler (R49, R53, R55, R56, R60, R62,
R90, R93, R94). -/

namespace Sys2Proof.Machine

/-! ## The transmitter (R49, R53, R55, R56) -/

/-- The arbiter chooses in IDLE alone (R62). -/
theorem txArbitrate_of_busy {s : State} (h : s.bau.tx.st ≠ .idle) : txArbitrate s = s := if_neg h

theorem event_busy {f : State → State} {s t : State} (h : f s = t) (hu : Unburdened t) (hbusy : t.bau.tx.st ≠ .idle) :
    event f s = .next t := by
  rw [event_whole h hu, txArbitrate_of_busy hbusy]

theorem countCard_of_below {c : CardCounter} {s : State} (h : (s.cardCounter c).saturates 1 = false) :
    countCard c s = riseCard c s := by
  simp [countCard_eq, h]

theorem countCard_setTx_of_below (x : Tx) {c : CardCounter} {s : State} (h : (s.cardCounter c).saturates 1 = false) :
    countCard c (setTx x s) = riseCard c (setTx x s) :=
  countCard_of_below (s := setTx x s) h

theorem setTx_riseCard (x : Tx) (c : CardCounter) (s : State) : setTx x (riseCard c s) = riseCard c (setTx x s) := rfl

/-- The jam's end below the twelfth collision (R55, R56). -/
theorem jamEnds_backsOff {s : State} {draw : Byte} {straps : Straps} (hst : s.bau.tx.st = .sending)
    (hjam : s.bau.tx.jamming = true) (hn : s.bau.tx.collisions < 11)
    (hbelow : (s.cardCounter .collisions).saturates 1 = false) :
    jamEnds draw straps s = countCard .collisions (setTx
      { s.bau.tx with
        st := if draw.toNat % 2 ^ min (s.bau.tx.collisions + 1) 8 = 0 then .deferring else .backingOff
        collisions := s.bau.tx.collisions + 1
        backoff := 64 * (draw.toNat % 2 ^ min (s.bau.tx.collisions + 1) 8)
        jamming := false
        gapCounting := if draw.toNat % 2 ^ min (s.bau.tx.collisions + 1) 8 = 0 then true else s.bau.tx.gapCounting } s) := by
  have hlt : s.bau.tx.collisions + 1 < 12 := by omega
  rw [countCard_setTx_of_below _ hbelow, ← setTx_riseCard, ← countCard_of_below hbelow]
  simp only [jamEnds, hst, hjam, and_self, if_true, hlt, backoffOf]
  by_cases h : draw.toNat % 2 ^ min (s.bau.tx.collisions + 1) 8 = 0 <;> simp [h, setTx]

/-- Settles O27: each event is one branch of its function, and a busy transmitter makes no choice. -/
theorem transmitterMovesByItsEvents : Obligations.TransmitterMovesByItsEvents := by
  unfold Obligations.TransmitterMovesByItsEvents
  refine ⟨fun s hu => ⟨fun hst hgap hhand => ?_, fun f rest hst hgap hhand hresponses => ?_, fun hst => ?_,
    fun hst hjam => ?_, fun hst => ?_⟩, fun s draw straps hu hst hjam hn hbelow => ?_, fun n slots hn hslots => ?_⟩
  · refine event_busy (f := gapCompletes) ?_ hu (by simp)
    simp only [gapCompletes, hst, hgap, hhand, and_self, if_true, if_false]
    rfl
  · refine event_busy (f := gapCompletes) ?_ hu (by simp)
    simp [gapCompletes, hst, hgap, hhand, setTx, hresponses, markHead]
  · refine event_busy (f := carrierInGap) ?_ hu (by simp [hst])
    simp only [carrierInGap, hst, if_true]
    rfl
  · refine event_busy (f := collides) ?_ hu (by simp [hst])
    simp only [collides, State.sendsFrame, hst, hjam]
    rfl
  · refine event_busy (f := backoffEnds) ?_ hu (by simp)
    simp only [backoffEnds, hst, if_true]
    rfl
  · refine event_busy (f := jamEnds draw straps) (jamEnds_backsOff hst hjam hn hbelow) ?_ ?_
    · show Unburdened (countCard .collisions (setTx _ s))
      rw [countCard_setTx_of_below _ hbelow]
      exact hu
    · simp only [countCard_bau]
      split <;> simp
  · have hmax : 2 ^ min n 8 ≤ 2 ^ 8 := Nat.pow_le_pow_right (by decide) (Nat.min_le_right _ _)
    refine ⟨u8 slots, ?_⟩
    have hbyte : (u8 slots).toNat = slots := by
      simp only [u8, BitVec.toNat_ofNat]
      omega
    rw [hbyte, Nat.mod_eq_of_lt hslots]

/-! ## The control list (R60) -/

section
variable {sort : CtrlItem → Bool} {item x : CtrlItem} {pre post l : List CtrlItem}

theorem replaceOrAppend_of_none (h : ∀ y, y ∈ l → sort y = false) : replaceOrAppend sort item l = l ++ [item] := by
  induction l with
  | nil => rfl
  | cons y l ih =>
    simp [replaceOrAppend, h y (by simp), ih fun z hz => h z (by simp [hz])]

theorem replaceOrAppend_of_first (hx : sort x = true) (h : ∀ y, y ∈ pre → sort y = false) :
    replaceOrAppend sort item (pre ++ x :: post) = pre ++ item :: post := by
  induction pre with
  | nil => simp [replaceOrAppend, hx]
  | cons y pre ih =>
    simp [replaceOrAppend, h y (by simp), ih fun z hz => h z (by simp [hz])]

theorem dropFirst_of_first (hx : sort x = true) (h : ∀ y, y ∈ pre → sort y = false) :
    dropFirst sort (pre ++ x :: post) = pre ++ post := by
  induction pre with
  | nil => simp [dropFirst, hx]
  | cons y pre ih =>
    simp [dropFirst, h y (by simp), ih fun z hz => h z (by simp [hz])]

end

/-- A RELEASE that replaces a pending one for its binder (R60). -/
theorem ctrlPlaceRelease_replaces {b : BinderId} {retried : Bool} {l pre post : List CtrlItem} {r : CtrlItem}
    (hleft : ctrlRemoveClaim b l = pre ++ r :: post) (hr : r.isReleaseFor b = true)
    (hpre : ∀ y, y ∈ pre → y.isReleaseFor b = false) :
    ctrlPlaceRelease b retried l = pre ++ .release b retried :: post := by
  have hany : (pre ++ r :: post).any (CtrlItem.isReleaseFor b) = true := by simp [hr]
  simp only [ctrlPlaceRelease, hleft, hany, if_true, replaceOrAppend_of_first hr hpre]

theorem ctrlPlaceRelease_appends {b : BinderId} {retried : Bool} {l : List CtrlItem}
    (hnone : ∀ y, y ∈ ctrlRemoveClaim b l → y.isReleaseFor b = false) :
    ctrlPlaceRelease b retried l =
      if 2 ≤ (ctrlRemoveClaim b l).countP CtrlItem.isRelease then
        dropFirst CtrlItem.isRelease (ctrlRemoveClaim b l) ++ [.release b retried]
      else ctrlRemoveClaim b l ++ [.release b retried] := by
  have hany : (ctrlRemoveClaim b l).any (CtrlItem.isReleaseFor b) = false := by simpa using hnone
  simp only [ctrlPlaceRelease, hany, Bool.false_eq_true, if_false]

/-! ## The arbiter (R62, R93) -/

theorem txArbitrate_control {s : State} {item : CtrlItem} {rest : List CtrlItem} (hidle : s.bau.tx.st = .idle)
    (hctrl : s.bau.ctrl = item :: rest) :
    txArbitrate s = takeInHand (.control item) { s with bau := { s.bau with ctrl := rest } } := by
  simp [txArbitrate, hidle, hctrl]

theorem txArbitrate_below {s : State} (hidle : s.bau.tx.st = .idle) (hctrl : s.bau.ctrl = []) :
    txArbitrate s = chooseBelowControl s := by
  simp [txArbitrate, hidle, hctrl]

theorem dataWaits_iff (s : State) : s.dataWaits = true ↔ 0 < s.shu.credit ∧ s.usc.active ≠ [] := by
  simp [State.dataWaits]

/-- USC's choice from the head port of the list (R93). -/
theorem uscChoose_eq {s : State} {p : PortId} {others : List PortId} {f : Frame} {rest : List Frame}
    (hactive : s.usc.active = p :: others) (hup : tget s.fst.up p = f :: rest) :
    uscChoose s = some (p, chooseHead p
      ((if (s.uscPort p).turnOpen then (s.uscPort p).deficit else (s.uscPort p).deficit + 24 * s.weightOf p) - f.blocks)
      s) := by
  simp only [uscChoose, hactive, hup]
  rfl

theorem takeData_of_choice {s t : State} {p : PortId} (h : uscChoose s = some (p, t)) :
    takeData s = takeInHand (.data p) t := by
  simp only [takeData, h]

theorem takeData_eq {s : State} {p : PortId} {others : List PortId} {f : Frame} {rest : List Frame}
    (hactive : s.usc.active = p :: others) (hup : tget s.fst.up p = f :: rest) :
    ∃ deficit, takeData s = takeInHand (.data p) (chooseHead p deficit s) :=
  ⟨_, takeData_of_choice (uscChoose_eq hactive hup)⟩

/-- Settles O30: the placements on lists, and the arbiter's branches. -/
theorem arbiterChoosesByClass : Obligations.ArbiterChoosesByClass := by
  unfold Obligations.ArbiterChoosesByClass
  refine ⟨fun l pre post x item => ⟨replaceOrAppend_of_none, replaceOrAppend_of_none, ?_, ?_⟩,
    fun l pre post b r retried => ⟨ctrlPlaceRelease_replaces, fun hnone => ⟨fun hfew => ?_, fun hleft htwo hr hpre => ?_⟩⟩,
    fun s hidle => ?_⟩
  · rintro rfl hx hpre
    exact replaceOrAppend_of_first hx hpre
  · rintro rfl hx hpre
    exact replaceOrAppend_of_first hx hpre
  · rw [ctrlPlaceRelease_appends hnone]
    exact if_neg (Nat.not_le.2 hfew)
  · refine (ctrlPlaceRelease_appends hnone).trans ((if_pos htwo).trans (congrArg (· ++ _) ?_))
    exact (congrArg (dropFirst CtrlItem.isRelease) hleft).trans (dropFirst_of_first hr hpre)
  · dsimp only
    rw [← dataWaits_iff]
    refine ⟨fun item rest hctrl => ?_, fun hctrl hno hempty => ?_, fun hctrl hmgmt hother => ?_,
      fun hctrl hmgmt hdata hequal hlast => ?_, fun p others hctrl hcredit hactive hup hchosen => ?_⟩
    · rw [txArbitrate_control hidle hctrl]
      exact ⟨rfl, rfl, rfl, rfl, rfl⟩
    · rw [txArbitrate_below hidle hctrl]
      simp [chooseBelowControl, not_not.1 hempty, Bool.not_eq_true _ ▸ hno]
    · have hchoice : txArbitrate s = takeInHand .mgmt s := by
        rw [txArbitrate_below hidle hctrl]
        obtain h | h := hother
        · simp [chooseBelowControl, hmgmt, Bool.not_eq_true _ ▸ h]
        · simp [chooseBelowControl, hmgmt, h]
      rw [hchoice]
      exact ⟨rfl, rfl, rfl⟩
    · have hchoice : txArbitrate s = takeInHand .mgmt (recordWinner .mgmt s) := by
        rw [txArbitrate_below hidle hctrl]
        simp [chooseBelowControl, hmgmt, hdata, hequal, hlast, otherWinner]
      rw [hchoice]
      exact ⟨rfl, rfl, rfl⟩
    · have hdata : s.dataWaits = true := (dataWaits_iff s).2 ⟨hcredit, by simp [hactive]⟩
      obtain ⟨f, rest, hqueue⟩ := List.exists_cons_of_ne_nil hup
      by_cases hmgmt : s.fst.responses = []
      · obtain ⟨deficit, htake⟩ := takeData_eq hactive hqueue
        have hchoice : txArbitrate s = takeInHand (.data p) (chooseHead p deficit s) := by
          rw [txArbitrate_below hidle hctrl, ← htake]
          simp [chooseBelowControl, hmgmt, hdata]
        rw [hchoice]
        exact ⟨rfl, fun h => absurd hmgmt h, rfl⟩
      · obtain ⟨hequal, hlast⟩ := hchosen.resolve_left (not_not.2 hmgmt)
        obtain ⟨deficit, htake⟩ := takeData_eq (s := recordWinner .data s) hactive hqueue
        have hchoice : txArbitrate s = takeInHand (.data p) (chooseHead p deficit (recordWinner .data s)) := by
          rw [txArbitrate_below hidle hctrl, ← htake]
          simp [chooseBelowControl, hmgmt, hdata, hequal, hlast, otherWinner]
        rw [hchoice]
        exact ⟨rfl, fun _ => rfl, rfl⟩

/-! ## The scheduler's turns (R90, R93, R94) -/

/-- A port that is no longer eligible leaves the list (R90). -/
theorem uscSettled_leaves {s : State} {p : PortId} {others : List PortId} (hactive : s.usc.active = p :: others)
    (hp : p ∉ others) (helig : s.eligible p = false) :
    (uscSettled p s).usc.active = others ∧
      (uscSettled p s).uscPort p = { s.uscPort p with deficit := 0, turnOpen := false } := by
  let u : State := { s with usc := { s.usc with chosen := none } }
  have helig' : u.eligible p = false := helig
  have hcontains : u.usc.active.contains p = true := by simp [u, hactive]
  have hleave : uscSettled p s = uscLeave p u := by
    show uscUpdate p u = uscLeave p u
    simp only [uscUpdate, helig', hcontains, if_true, Bool.false_eq_true, if_false]
  have hlist : (uscLeave p u).usc.active = others := by
    have hfilter : others.filter (· != p) = others := List.filter_eq_self.2 fun q hq => by
      simpa using fun h : q = p => hp (h ▸ hq)
    simp [u, hactive, hfilter]
  rw [hleave]
  exact ⟨hlist, tget_tset_self _ _ _⟩

/-- An eligible port at the head of the list stays there as the list is brought up to it (R90). -/
theorem uscSettled_stays {s : State} {p : PortId} {others : List PortId} (hactive : s.usc.active = p :: others)
    (helig : s.eligible p = true) : uscSettled p s = { s with usc := { s.usc with chosen := none } } := by
  let u : State := { s with usc := { s.usc with chosen := none } }
  have helig' : u.eligible p = true := helig
  have hcontains : u.usc.active.contains p = true := by simp [u, hactive]
  show uscUpdate p u = u
  simp only [uscUpdate, helig', hcontains, if_true]

/-- Settles O31: the choice's writes, and the three ends of a turn. -/
theorem schedulerServesTurns : Obligations.SchedulerServesTurns := by
  unfold Obligations.SchedulerServesTurns
  refine ⟨fun s p others f rest hactive hup => ⟨_, uscChoose_eq hactive hup, rfl, rfl, ?_, ?_, rfl, fun q hq => ⟨?_, ?_⟩⟩,
    fun s p others hactive hp => ⟨fun helig => ?_, fun f rest helig hup hopen => ?_⟩⟩
  · refine (tget_tset_self _ _ _).trans ?_
    show markHead (tget s.fst.up p) = _
    rw [hup]
    rfl
  · exact tget_tset_self _ _ _
  · exact tget_tset_ne _ _ hq.symm
  · exact tget_tset_ne _ _ hq.symm
  · obtain ⟨hlist, hport⟩ := uscSettled_leaves hactive hp helig
    have hend : uscAfterEnd p s = uscSettled p s := by
      obtain h | ⟨rest, hhead, -⟩ := uscAfterEnd_cases p s
      · exact h
      · exact absurd (hlist ▸ hhead ▸ List.mem_cons_self : p ∈ others) hp
    rw [hend]
    exact ⟨hlist, hport⟩
  · have hsettled : uscSettled p s = { s with usc := { s.usc with chosen := none } } := uscSettled_stays hactive helig
    have hend : uscAfterEnd p s =
        if (s.uscPort p).deficit < f.blocks then toTail p others (uscSettled p s) else uscSettled p s := by
      have hactive' : (uscSettled p s).usc.active = p :: others := by rw [hsettled, ← hactive]
      have hup' : tget (uscSettled p s).fst.up p = f :: rest := by rw [hsettled, ← hup]
      have hport' : (uscSettled p s).uscPort p = s.uscPort p := by rw [hsettled]; rfl
      unfold uscAfterEnd
      simp only [show uscUpdate p { s with usc := { s.usc with chosen := none } } = uscSettled p s from rfl, hactive', hup',
        hport', hopen, beq_self_eq_true, Bool.true_and, decide_eq_true_eq]
      rfl
    refine ⟨fun henough => ?_, fun hshort => ?_⟩
    · rw [hend, if_neg (Nat.not_lt.2 henough), hsettled]
      exact ⟨hactive, rfl⟩
    · rw [hend, if_pos hshort, hsettled]
      exact ⟨rfl, tget_tset_self _ _ _⟩

end Sys2Proof.Machine
end

section
/-! SUPPORT. Proofs about the ends of DATA frames and of control items (R45, R54, R55, R57, R58, R61, R81, R83, R89, R107). -/

namespace Sys2Proof.Machine

/-! ## The end of a DATA frame (R45, R94) -/

/-- At a frame's end nothing is chosen any more, and the figures of the other ports stand (R94, R95). -/
theorem uscAfterEnd_others (p : PortId) (s : State) :
    (uscAfterEnd p s).usc.chosen = none ∧ ∀ q, q ≠ p → (uscAfterEnd p s).uscPort q = s.uscPort q := by
  have hsettled : (uscSettled p s).usc.chosen = none ∧ ∀ q, q ≠ p → (uscSettled p s).uscPort q = s.uscPort q := by
    unfold uscSettled uscUpdate uscLeave
    dsimp only
    repeat' split
    · exact ⟨rfl, fun _ _ => rfl⟩
    · exact ⟨rfl, fun q hq => tget_tset_ne _ _ hq.symm⟩
    · exact ⟨rfl, fun q hq => tget_tset_ne _ _ hq.symm⟩
    · exact ⟨rfl, fun _ _ => rfl⟩
  obtain ⟨hchosen, hports⟩ := hsettled
  obtain h | ⟨rest, -, h⟩ := uscAfterEnd_cases p s <;> rw [h]
  · exact ⟨hchosen, hports⟩
  · exact ⟨hchosen, fun q hq => (tget_tset_ne _ _ hq.symm).trans (hports q hq)⟩

theorem removeUpHead_eq {p : PortId} {f : Frame} {rest : List Frame} {s : State} (h : tget s.fst.up p = f :: rest) :
    removeUpHead p s = { s with fst := (s.fst.giveBack f).setQueue p .up rest } := by
  simp only [removeUpHead, h]

section
variable {s : State} {p : PortId} {f : Frame} {rest : List Frame}

theorem dataEnd_sent (h : tget s.fst.up p = f :: rest) :
    dataEnd true p s = uscAfterEnd p (chargeBlocks p f.blocks
      (countPort p .upBlocks f.blocks (countPort p .upFrames 1 (removeUpHead p s)))) := by
  simp only [dataEnd, h, if_true]

theorem dataEnd_aborted (h : tget s.fst.up p = f :: rest) :
    dataEnd false p s = uscAfterEnd p (countPort p .txAbort 1 (removeUpHead p s)) := by
  simp only [dataEnd, h, Bool.false_eq_true, if_false]

/-- What the end of a sent frame counts (R45). -/
theorem dataEnd_sent_counters (h : tget s.fst.up p = f :: rest) :
    (dataEnd true p s).portCounter p .upFrames = (s.portCounter p .upFrames).rise 1 ∧
      (dataEnd true p s).portCounter p .upBlocks = (s.portCounter p .upBlocks).rise f.blocks ∧
      (dataEnd true p s).portCounter p .txAbort = s.portCounter p .txAbort := by
  have hremoved : ∀ c, (removeUpHead p s).portCounter p c = s.portCounter p c := fun c => by simp [State.portCounter]
  rw [dataEnd_sent h]
  generalize removeUpHead p s = u at hremoved
  have hcounter : ∀ c, (uscAfterEnd p (chargeBlocks p f.blocks
      (countPort p .upBlocks f.blocks (countPort p .upFrames 1 u)))).portCounter p c =
      (countPort p .upBlocks f.blocks (countPort p .upFrames 1 u)).portCounter p c := fun c => by
    generalize countPort p .upBlocks f.blocks (countPort p .upFrames 1 u) = v
    rw [State.portCounter, uscAfterEnd_mga]
    rfl
  rw [hcounter, hcounter, hcounter]
  refine ⟨?_, ?_, ?_⟩
  · rw [countPort_portCounter, if_neg (by simp), countPort_portCounter, if_pos ⟨rfl, rfl⟩, hremoved]
  · rw [countPort_portCounter, if_pos ⟨rfl, rfl⟩, countPort_portCounter, if_neg (by simp), hremoved]
  · rw [countPort_portCounter, if_neg (by simp), countPort_portCounter, if_neg (by simp), hremoved]

/-- What the end of an aborted frame counts, and that nothing is charged (R45, R81). -/
theorem dataEnd_aborted_spec (h : tget s.fst.up p = f :: rest) :
    (dataEnd false p s).shu = s.shu ∧ ((dataEnd false p s).uscPort p).tokens = (s.uscPort p).tokens ∧
      (dataEnd false p s).portCounter p .txAbort = (s.portCounter p .txAbort).rise 1 ∧
      (dataEnd false p s).portCounter p .upFrames = s.portCounter p .upFrames := by
  have hremoved : ∀ c, (removeUpHead p s).portCounter p c = s.portCounter p c := fun c => by simp [State.portCounter]
  have hcharge := (dataEnd_charge false p p s).2.1
  have hshu : (removeUpHead p s).shu = s.shu := removeUpHead_shu s p
  have htokens : ((dataEnd false p s).uscPort p).tokens = (s.uscPort p).tokens := by
    rw [hcharge, h]
    simp [chargedAt]
  refine ⟨?_, htokens, ?_⟩
  · rw [dataEnd_aborted h, uscAfterEnd_shu, countPort_shu, hshu]
  · rw [dataEnd_aborted h]
    generalize removeUpHead p s = u at hremoved
    have hcounter : ∀ c, (uscAfterEnd p (countPort p .txAbort 1 u)).portCounter p c =
        (countPort p .txAbort 1 u).portCounter p c := fun c => by
      generalize countPort p .txAbort 1 u = v
      rw [State.portCounter, uscAfterEnd_mga]
      rfl
    rw [hcounter, hcounter]
    constructor
    · rw [countPort_portCounter, if_pos ⟨rfl, rfl⟩, hremoved]
    · rw [countPort_portCounter, if_neg (by simp), hremoved]

end

@[simp] theorem countPort_requests (p : PortId) (c : PortCounter) (k : Nat) (s : State) :
    (countPort p c k s).fst.requests = s.fst.requests := by
  obtain ⟨_, _, _, h⟩ := countPort_fst p c k s
  rw [h]

@[simp] theorem countPort_cardCounters (p : PortId) (c : PortCounter) (k : Nat) (s : State) :
    (countPort p c k s).mga.cardCounters = s.mga.cardCounters := by
  unfold countPort
  dsimp only
  split <;> simp

theorem countCard_fst (c : CardCounter) (s : State) : ∃ cells records responses, (countCard c s).fst =
    { s.fst with freeCells := cells, freeRecords := records, responses := responses } := by
  rw [countCard_eq]
  split
  · exact raiseNotice_fst _ _
  · exact ⟨_, _, _, rfl⟩

@[simp] theorem countCard_portCounters (c : CardCounter) (s : State) :
    (countCard c s).mga.portCounters = s.mga.portCounters := by
  rw [countCard_eq]
  split
  · exact raiseNotice_portCounters _ _
  · rfl

theorem countPort_flags (p : PortId) (c : PortCounter) (k : Nat) (d : Cause) {s : State} (h : s.flagSet d = true) :
    (countPort p c k s).flagSet d = true := by
  rw [countPort_eq]
  split
  · exact (raiseNotice_flagSet _ _ _).2 (.inr h)
  · exact h

theorem removeUpHead_requests (p : PortId) (s : State) : (removeUpHead p s).fst.requests = s.fst.requests := by
  unfold removeUpHead
  split <;> rfl

theorem dataEnd_requests (ok : Bool) (p : PortId) (s : State) : (dataEnd ok p s).fst.requests = s.fst.requests :=
  dataEnd_frame (fun t => t.fst.requests) (by simp) (fun _ _ _ => rfl) removeUpHead_requests (by simp) ok p s

theorem dataEnd_cardCounters (ok : Bool) (p : PortId) (s : State) :
    (dataEnd ok p s).mga.cardCounters = s.mga.cardCounters :=
  dataEnd_frame (fun t => t.mga.cardCounters) (by simp) (fun _ _ _ => rfl) (by simp) (by simp) ok p s

theorem dataEnd_flags (ok : Bool) (p : PortId) (d : Cause) {s : State} (h : s.flagSet d = true) :
    (dataEnd ok p s).flagSet d = true :=
  dataEnd_keeps (P := fun t => t.flagSet d = true) ok p s (fun c k _ => countPort_flags p c k d) (fun _ _ => id)
    (by simpa [State.flagSet] using h) (fun t ht => by simpa [State.flagSet] using ht) h

/-- The figures of the other ports have no part in a frame's end (R94). -/
theorem dataEnd_uscPort_ne (ok : Bool) {p q : PortId} (hq : q ≠ p) (s : State) : (dataEnd ok p s).uscPort q = s.uscPort q :=
  dataEnd_keeps (P := fun t => t.uscPort q = s.uscPort q) ok p s (fun c k t ht => by simpa [State.uscPort] using ht)
    (fun n t ht => (tget_tset_ne _ _ hq.symm).trans ht) (by simp [State.uscPort])
    (fun t ht => ((uscAfterEnd_others p t).2 q hq).trans ht) rfl

theorem dataEnd_chosen (ok : Bool) (p : PortId) (s : State) : (dataEnd ok p s).usc.chosen = none := by
  unfold dataEnd
  dsimp only
  repeat' split
  all_goals exact (uscAfterEnd_others p _).1

/-! ## The end of the step after a transmission -/

theorem Quiet.settle_sent {s : State} (h : Quiet s) : (settle s).bau.sent = s.bau.sent := by
  have hdata : ∀ s : State, (takeData s).bau.sent = s.bau.sent := by
    intro s
    obtain h | ⟨_, _, _, _, _, _, _, h⟩ := takeData_cases s <;> rw [h]
    rfl
  have harbiter : ∀ s : State, (txArbitrate s).bau.sent = s.bau.sent := by
    intro s
    unfold txArbitrate
    split
    · split
      · rfl
      · unfold chooseBelowControl
        repeat' split
        all_goals first
          | exact hdata _
          | rfl
    · rfl
  obtain ⟨_, _, _, _, _, ho⟩ := offered_eq s
  rw [h.settle_eq, harbiter]
  exact congrArg (fun t => t.bau.sent) ho

/-- The choice of a frame leaves the tokens alone (R93). -/
theorem Quiet.settle_tokens {s : State} (h : Quiet s) (p : PortId) :
    ((settle s).uscPort p).tokens = (s.uscPort p).tokens := by
  have hdata : ∀ s : State, ((takeData s).uscPort p).tokens = (s.uscPort p).tokens := by
    intro s
    obtain h | ⟨q, _, _, _, deficit, _, _, h⟩ := takeData_cases s <;> rw [h]
    exact modUsc_keeps UscPort.tokens (f := fun v => { v with deficit := deficit, turnOpen := true }) (fun _ => rfl) s q p
  have harbiter : ∀ s : State, ((txArbitrate s).uscPort p).tokens = (s.uscPort p).tokens := by
    intro s
    unfold txArbitrate
    split
    · split
      · rfl
      · unfold chooseBelowControl
        repeat' split
        all_goals first
          | exact hdata _
          | rfl
    · rfl
  obtain ⟨_, _, _, _, _, ho⟩ := offered_eq s
  rw [h.settle_eq, harbiter]
  exact congrArg (fun t => (t.uscPort p).tokens) ho

/-- What the end of the step leaves of the payloads of a queue (R93). -/
theorem Quiet.settle_payloads {s : State} (h : Quiet s) (p : PortId) :
    (tget (settle s).fst.up p).map Frame.payload = (tget s.fst.up p).map Frame.payload := by
  obtain hs | hs := h.settle_up p
  · rw [hs]
  · rw [hs, map_payload_markHead]

theorem exec_successfulEnd (straps : Straps) (s : State) : exec (.successfulEnd straps) s = event (sendingEnds straps) s :=
  rfl

theorem exec_jamEnd (draw : Byte) (straps : Straps) (s : State) :
    exec (.jamEnd draw straps) s = event (jamEnds draw straps) s := rfl

theorem exec_lateCollision (s : State) : exec .lateCollision s = event collidesLate s := rfl

theorem sendsFrame_iff (s : State) : s.sendsFrame = true ↔ s.bau.tx.st = .sending ∧ s.bau.tx.jamming = false := by
  simp [State.sendsFrame]

section
variable {s : State} {straps : Straps} {draw : Byte}

theorem sendingEnds_eq (hst : s.bau.tx.st = .sending) (hjam : s.bau.tx.jamming = false) :
    sendingEnds straps s = txEnd true straps (putOut [.frame s.inHandBytes] s) :=
  if_pos ((sendsFrame_iff s).2 ⟨hst, hjam⟩)

/-- The twelfth collision ends the frame (R55). -/
theorem jamEnds_twelfth (hst : s.bau.tx.st = .sending) (hjam : s.bau.tx.jamming = true) (hn : s.bau.tx.collisions = 11) :
    jamEnds draw straps s = txEnd false straps (countCard .collisions s) := by
  simp only [jamEnds, hst, hjam, hn, and_self, if_true]
  rfl

theorem collidesLate_long (hst : s.bau.tx.st = .sending) (hjam : s.bau.tx.jamming = false)
    (hlong : 64 < s.inHandBytes.length) :
    collidesLate s = txEnd false s.pins.straps (raiseNotice .busFault (countCard .lateCollisions (putOut [.jam] s))) := by
  have hlate : (s.sendsFrame && decide (collisionWindow < s.inHandBytes.length)) = true := by
    rw [(sendsFrame_iff s).2 ⟨hst, hjam⟩]
    exact decide_eq_true hlong
  simp only [collidesLate, hlate, if_true]

/-- A frame of 64 bytes meets no late collision (log 15). -/
theorem collidesLate_short (h : s.inHandBytes.length ≤ 64) : collidesLate s = s := by
  have hlate : (s.sendsFrame && decide (collisionWindow < s.inHandBytes.length)) = false :=
    Bool.and_eq_false_iff.2 (.inr (decide_eq_false (Nat.not_lt.2 h)))
  simp only [collidesLate, hlate, Bool.false_eq_true, if_false]

theorem inHandBytes_data {p : PortId} {f : Frame} {rest : List Frame} (hhand : s.bau.tx.hand = some (.data p))
    (hup : tget s.fst.up p = f :: rest) : s.inHandBytes = busFrame .data 0 s.stationNumber p.val f.payload := by
  simp only [State.inHandBytes, hhand, wireOf, hup]

theorem txEnd_data {ok : Bool} {p : PortId} (hhand : s.bau.tx.hand = some (.data p)) :
    txEnd ok straps s = dataEnd ok p (setTx Tx.initial s) := by
  simp only [txEnd, hhand]

theorem txEnd_control {ok : Bool} {item : CtrlItem} (hhand : s.bau.tx.hand = some (.control item)) :
    txEnd ok straps s = controlEnd ok item (setTx Tx.initial s) := by
  simp only [txEnd, hhand]

end

/-- An aborted DATA frame after counts and notices: what the whole step leaves (R45, R55, R57). -/
theorem dataEnd_aborted_settled {s u : State} {p : PortId} {f : Frame} {rest : List Frame} (hu : Unburdened s)
    (hup : tget s.fst.up p = f :: rest) (hfst : u.fst = { s.fst with
      freeCells := u.fst.freeCells, freeRecords := u.fst.freeRecords, responses := u.fst.responses })
    (hshu : u.shu = s.shu) (husc : u.usc = s.usc) (hports : u.ports = s.ports) (hstc : u.stc = s.stc) (htsq : u.tsq = s.tsq)
    (hcounters : u.mga.portCounters = s.mga.portCounters) :
    let t := settle (dataEnd false p u)
    Quiet (dataEnd false p u) ∧ t.bau.sent = u.bau.sent ∧
      (tget t.fst.up p).map Frame.payload = rest.map Frame.payload ∧ t.shu = s.shu ∧
      (t.uscPort p).tokens = (s.uscPort p).tokens ∧
      t.portCounter p .txAbort = (s.portCounter p .txAbort).rise 1 ∧
      t.portCounter p .upFrames = s.portCounter p .upFrames ∧ (∀ c, t.cardCounter c = u.cardCounter c) ∧
      t.ports = s.ports := by
  have huup : tget u.fst.up p = f :: rest := by rw [hfst]; exact hup
  have hcounter : ∀ c, u.portCounter p c = s.portCounter p c := fun c => by simp only [State.portCounter, hcounters]
  obtain ⟨hdshu, htokens, habort, hframes⟩ := dataEnd_aborted_spec huup
  have hrequests : u.fst.requests = [] := by rw [hfst]; exact hu.2.2.1
  have hquiet : Quiet (dataEnd false p u) := by
    refine ⟨?_, .inl ?_, ?_⟩
    · rw [dataEnd_stc, hstc]
      exact hu.1
    · rw [dataEnd_tsq, htsq]
      exact hu.2.1
    · rw [dataEnd_requests, hrequests]
  refine ⟨hquiet, ?_, ?_, ?_, ?_, ?_, ?_, fun c => ?_, ?_⟩
  · rw [hquiet.settle_sent, dataEnd_bau]
  · rw [hquiet.settle_payloads, dataEnd_up, tget_tset_self, huup]
    rfl
  · rw [hquiet.settle_shu, hdshu, hshu]
  · rw [hquiet.settle_tokens, htokens, State.uscPort, husc]
    rfl
  · rw [hquiet.settle_portCounter, habort, hcounter]
  · rw [hquiet.settle_portCounter, hframes, hcounter]
  · rw [hquiet.settle_cardCounter, State.cardCounter, dataEnd_cardCounters]
    rfl
  · rw [hquiet.settle_ports, dataEnd_ports, hports]

/-- Settles O28: the sent frame's charge, and the two aborts. -/
theorem dataFramesEndSentOrAborted : Obligations.DataFramesEndSentOrAborted := by
  unfold Obligations.DataFramesEndSentOrAborted
  refine ⟨fun s p f rest straps hu hst hjam hhand hup => ?_, fun s p f rest draw straps hu hst hhand hup => ?_⟩
  · let v := setTx Tx.initial (putOut [.frame (busFrame .data 0 s.stationNumber p.val f.payload)] s)
    have hends : sendingEnds straps s = dataEnd true p v := by
      rw [sendingEnds_eq hst hjam, inHandBytes_data hhand hup]
      exact txEnd_data hhand
    have hvup : tget v.fst.up p = f :: rest := hup
    have hquiet : Quiet (dataEnd true p v) := by
      refine ⟨?_, .inl ?_, ?_⟩
      · rw [dataEnd_stc]
        exact hu.1
      · rw [dataEnd_tsq]
        exact hu.2.1
      · rw [dataEnd_requests]
        exact hu.2.2.1
    obtain ⟨hframes, hblocks, habort⟩ := dataEnd_sent_counters hvup
    obtain ⟨hcredit, htokens, -⟩ := dataEnd_charge true p p v
    rw [hvup] at hcredit htokens
    rw [if_pos rfl] at htokens
    have hothers := fun q hq => dataEnd_uscPort_ne true (p := p) (q := q) hq v
    have hchosen := dataEnd_chosen true p v
    have hbau := dataEnd_bau true p v
    have hports := dataEnd_ports true p v
    have hqueues := dataEnd_up true p v
    generalize dataEnd true p v = u at *
    obtain ⟨_, _, _, _, _, hoffered⟩ := offered_eq u
    refine ⟨offered u, ?_, ?_⟩
    · rw [exec_successfulEnd, event, hends]
      exact congrArg Host.Outcome.next hquiet.settle_eq
    · rw [hoffered]
      refine ⟨congrArg Bau.tx hbau, congrArg Bau.sent hbau, ?_, hcredit, htokens, hframes, hblocks, habort, hchosen,
        fun q hq => ⟨hothers q hq, ?_⟩, hports⟩
      · show tget u.fst.up p = rest
        rw [hqueues, tget_tset_self, hvup]
        rfl
      · show tget u.fst.up q = _
        rw [hqueues, tget_tset_ne _ _ hq.symm]
        rfl
  · have hbytes := inHandBytes_data hhand hup
    have hlength : s.inHandBytes.length = max 60 (8 + f.payload.length) + 4 := by rw [hbytes, length_busFrame]
    refine ⟨fun hjam hn => ?_, fun hjam hlong => ?_, fun hjam hshort => ?_⟩
    · let u := setTx Tx.initial (countCard .collisions s)
      have hends : jamEnds draw straps s = dataEnd false p u := by
        rw [jamEnds_twelfth hst hjam hn]
        exact txEnd_data (by simpa using hhand)
      obtain ⟨_, _, _, hcount⟩ := countCard_fst .collisions s
      obtain ⟨-, hsent, hrest, hshu, htokens, habort, hframes, hcards, hports⟩ :=
        dataEnd_aborted_settled (u := u) hu hup (by simp [u, hcount]) (by simp [u]) (by simp [u]) (by simp [u])
          (by simp [u]) (by simp [u]) (by simp [u])
      refine ⟨settle (dataEnd false p u), by rw [exec_jamEnd, event, hends], ?_, hrest, hshu, htokens, habort, hframes, ?_,
        hports⟩
      · rw [hsent]
        simp [u, setTx]
      · rw [hcards]
        exact (countCard_cardCounter s .collisions .collisions).trans (if_pos rfl)
    · let u := setTx Tx.initial (raiseNotice .busFault (countCard .lateCollisions (putOut [.jam] s)))
      have hends : collidesLate s = dataEnd false p u := by
        rw [collidesLate_long hst hjam (by omega)]
        exact txEnd_data (by simpa [putOut] using hhand)
      obtain ⟨_, _, _, hcount⟩ := countCard_fst .lateCollisions (putOut [.jam] s)
      obtain ⟨_, _, _, hraise⟩ := raiseNotice_fst .busFault (countCard .lateCollisions (putOut [.jam] s))
      obtain ⟨hquiet, hsent, hrest, hshu, htokens, habort, hframes, hcards, hports⟩ :=
        dataEnd_aborted_settled (u := u) hu hup (by simp only [u, setTx, hraise, hcount]; rfl) (by simp [u, putOut])
          (by simp [u, putOut]) (by simp [u, putOut]) (by simp [u, putOut]) (by simp [u, putOut]) (by simp [u, putOut])
      have hcard : ∀ c, u.cardCounter c = (countCard .lateCollisions (putOut [.jam] s)).cardCounter c := fun c =>
        raiseNotice_cardCounter _ _ _
      have hexec : exec .lateCollision s = .next (settle (dataEnd false p u)) := by rw [exec_lateCollision, event, hends]
      refine ⟨⟨_, hexec, ?_, hrest, hshu, htokens, habort, hframes, ?_, hports⟩, fun t ht => ?_⟩
      · rw [hsent]
        simp [u, setTx, putOut]
      · rw [hcards, hcard]
        exact (countCard_cardCounter _ .lateCollisions .lateCollisions).trans (if_pos rfl)
      · rw [hexec] at ht
        obtain rfl := Host.Outcome.next.inj ht
        refine ⟨?_, ?_⟩
        · rw [State.flagSet, hquiet.settle_flags]
          exact dataEnd_flags false p .busFault (raiseNotice_flagSet_self .busFault _)
        · rw [hcards, hcard]
          exact (countCard_cardCounter _ .lateCollisions .collisions).trans (if_neg (by decide))
    · exact event_busy (collidesLate_short (by omega)) hu (by simp [hst])

end Sys2Proof.Machine
end

section
/-! SUPPORT. Proofs about the ends of control items (R57, R58, R61, R83, R107, R110, R116, R118). -/

namespace Sys2Proof.Machine

/-! ## The withdrawn claim (R107, R110, R118) -/

/-- The end of a step that takes no request: the start choice, the waiting items, and the arbiter. -/
theorem settle_of_noRequests {s : State} (hout : s.stc.startState ≠ .reset)
    (hrequests : (startChoice s).fst.requests = []) : settle s = txArbitrate (offered (startChoice s)) := by
  simp [settle, hout, mgaWork, hrequests, mgaRun, offered]

/-- The start choice takes the only request where it may start (R116). -/
theorem startChoice_takes {s : State} {q : TestReq} (hqueue : s.tsq.queue = [q]) (hrun : s.tsq.running = none)
    (hstart : s.stc.startState = .running) (h : mayStart s q = true) : startChoice s = startTest q s := by
  simp [startChoice, hrun, hstart, hqueue, h]

/-- The card with a request as the running test (R117). -/
def testTaken (q : TestReq) (s : State) : State :=
  { s with tsq := { s.tsq with
      queue := s.tsq.queue.erase q
      seq := (s.tsq.seq + 1) % 65536
      running := some (newRunning q ((s.tsq.seq + 1) % 65536)) } }

theorem requestClaim_free {s : State} {b : BinderId} (hown : s.clt.own = none) (hfree : s.claimed b = false) :
    requestClaim b s =
      some (setClaim b (ownClaim s.stc.station false) (placeOwnClaim b false (setOwnClaim (some (b, .sending)) s))) := by
  simp [requestClaim, hown, hfree]

/-- A free binder is claimed for a LINE_CHECK (R106, R117). -/
theorem startTest_lineCheck {s : State} {q : TestReq} (hkind : q.kind = .lineCheck) (hown : s.clt.own = none)
    (hfree : s.claimed (s.port q.port).binder = false) :
    startTest q s = setClaim (s.port q.port).binder (ownClaim s.stc.station false)
      (placeOwnClaim (s.port q.port).binder false
        (setOwnClaim (some ((s.port q.port).binder, .sending)) (testTaken q s))) := by
  have hrequest := requestClaim_free (s := testTaken q s) (b := (s.port q.port).binder) hown hfree
  simp only [startTest, hkind, if_true]
  show (match requestClaim _ (testTaken q s) with | some s2 => s2 | none => claimLost (testTaken q s)) = _
  rw [hrequest]
  rfl

/-- A LINE_CHECK may start in MAINS where its binder is free and its port out of traffic, or the request intrusive (R116). -/
theorem mayStart_lineCheck {s : State} {q : TestReq} (hkind : q.kind = .lineCheck)
    (hfree : s.claimed (s.port q.port).binder = false) :
    mayStart s q = true ↔ s.smn.cabinet = .mains ∧ (q.intrusive = true ∨ (s.port q.port).lineState.engaged = false) := by
  cases hc : s.smn.cabinet <;> simp [mayStart, kindMayStart, hkind, hfree, hc]

theorem engaged_iff (ls : LineState) : ls.engaged = false ↔ ls ≠ .inService ∧ ls ≠ .training ∧ ls ≠ .hold := by
  cases ls <;> simp [LineState.engaged]

/-- What becomes FREE leaves a port engaged or not as it was: a HOLD port trains (R33). -/
theorem freedRecord_engaged (b : BinderId) (r : Port) : (freedRecord b r).lineState.engaged = r.lineState.engaged := by
  unfold freedRecord
  split
  · next h => rw [h.2]; rfl
  · rfl

theorem freedRecord_binder (b : BinderId) (r : Port) : (freedRecord b r).binder = r.binder := by
  unfold freedRecord
  split <;> rfl

/-- What the release of an entry does to a port that matters to the start choice, whatever the entry was (R33, R100). -/
theorem setClaim_vacant_port (b : BinderId) (s : State) (p : PortId) :
    ((setClaim b ClaimEntry.vacant s).port p).binder = (s.port p).binder ∧
      ((setClaim b ClaimEntry.vacant s).port p).lineState.engaged = (s.port p).lineState.engaged := by
  by_cases hphase : (s.claim b).phase = .free
  · have hfree : s.claimed b = false := by simp [claimed_eq_phase, hphase]
    have ht : ({ s with clt := { s.clt with entries := tset s.clt.entries b ClaimEntry.vacant } } : State).claimed b = false :=
      by simp [State.claimed, ClaimEntry.vacant]
    simp only [setClaim, hfree, ht, Bool.false_eq_true, if_false]
    exact ⟨rfl, rfl⟩
  · rw [setClaim_port_vacant hphase]
    exact ⟨freedRecord_binder _ _, freedRecord_engaged _ _⟩

/-- The card with its own claim withdrawn and its test's request back in the empty queue (R107, R110, R118). -/
def claimWithdrawn (b : BinderId) (q : TestReq) (s : State) : State :=
  let t := setClaim b ClaimEntry.vacant (withdrawClaim b s)
  { t with tsq := { t.tsq with queue := [q], running := none } }

theorem claimSent_withdraws {s : State} {b : BinderId} {run : Running} (hown : s.clt.own = some (b, .sending))
    (hqueue : s.tsq.queue = []) (hrun : s.tsq.running = some run) (hst : run.st = .claiming) :
    tellSequencer (claimSent false b false s) = claimWithdrawn b run.req s := by
  have htsq : (setClaim b ClaimEntry.vacant (withdrawClaim b s)).tsq = s.tsq := by simp [withdrawClaim, setOwnClaim, State.modCtrl]
  have hfails : claimSent false b false s = (setClaim b ClaimEntry.vacant (withdrawClaim b s), .lost) := by
    simp [claimSent, hown]
  rw [hfails]
  simp only [tellSequencer, claimLost, htsq, hrun, hst, if_true, hqueue, insertByArrival]
  simp only [claimWithdrawn, htsq]

/-- What the withdrawal leaves for the start choice (R116, R118). -/
theorem claimWithdrawn_spec (b : BinderId) (q : TestReq) (s : State) :
    let w := claimWithdrawn b q s
    w.tsq = { s.tsq with queue := [q], running := none } ∧ w.clt.own = none ∧ w.claim b = ClaimEntry.vacant ∧
      w.bau = { s.bau with ctrl := ctrlRemoveClaim b s.bau.ctrl } ∧ w.stc = s.stc ∧ w.smn = s.smn ∧
      w.fst.requests = s.fst.requests ∧
      ∀ p, (w.port p).binder = (s.port p).binder ∧ (w.port p).lineState.engaged = (s.port p).lineState.engaged := by
  refine ⟨?_, ?_, ?_, ?_, ?_, ?_, ?_, fun p => setClaim_vacant_port b (withdrawClaim b s) p⟩
  · simp [claimWithdrawn, withdrawClaim, setOwnClaim, State.modCtrl]
  · simp [claimWithdrawn, withdrawClaim, setOwnClaim, State.modCtrl]
  · exact setClaim_claim_self _ _ _
  · simp [claimWithdrawn, withdrawClaim, setOwnClaim, State.modCtrl]
  · simp [claimWithdrawn, withdrawClaim, setOwnClaim, State.modCtrl]
  · simp [claimWithdrawn, withdrawClaim, setOwnClaim, State.modCtrl]
  · exact setClaim_requests _ _ _

/-- What the start choice makes of the request that went back: a new claim where it may start, and nothing else (R106, R116). -/
theorem startChoice_claimWithdrawn {b : BinderId} {q : TestReq} {s : State} (hkind : q.kind = .lineCheck)
    (hbinder : (s.port q.port).binder = b) :
    let w := claimWithdrawn b q s
    let again := s.smn.cabinet = .mains ∧ s.stc.startState = .running ∧
      (q.intrusive = true ∨ (s.port q.port).lineState.engaged = false)
    (¬again → startChoice w = w) ∧
      (again → startChoice w = setClaim b (ownClaim s.stc.station false)
        (placeOwnClaim b false (setOwnClaim (some (b, .sending)) (testTaken q w)))) := by
  obtain ⟨htsq, hown, hclaim, -, hstc, hsmn, -, hport⟩ := claimWithdrawn_spec b q s
  generalize claimWithdrawn b q s = w at *
  obtain ⟨hwbinder, hengaged⟩ := hport q.port
  have hb : (w.port q.port).binder = b := by rw [hwbinder, hbinder]
  have hfree : w.claimed (w.port q.port).binder = false := by rw [hb, claimed_eq_phase, hclaim]; rfl
  have hmay := mayStart_lineCheck hkind hfree
  rw [hsmn, hengaged] at hmay
  have hqueue : w.tsq.queue = [q] := by rw [htsq]
  have hrun : w.tsq.running = none := by rw [htsq]
  intro v again
  refine ⟨fun hno => ?_, fun ⟨hmains, hrunning, hport⟩ => ?_⟩
  · by_cases hstart : w.stc.startState = .running
    · refine startChoice_of_mayNot hqueue ?_
      rw [← Bool.not_eq_true, hmay]
      exact fun h => hno ⟨h.1, hstc ▸ hstart, h.2⟩
    · simp [v, startChoice, hstart]
  · rw [← hstc] at hrunning
    show startChoice w = _
    rw [startChoice_takes hqueue hrun hrunning (hmay.2 ⟨hmains, hport⟩), startTest_lineCheck hkind hown hfree, hb, hstc]

/-! ## Control items (R58, R61) -/

/-- The card after a control item has gone out, before its kind counts (log 13). -/
def itemSent (item : CtrlItem) (s : State) : State :=
  { s with bau := { s.bau with tx := Tx.initial, sent := s.bau.sent ++ [.frame (wireOf (.control item) s)] } }

section
variable {s : State} {item : CtrlItem} {straps : Straps} {draw : Byte}

theorem sendingEnds_control (hst : s.bau.tx.st = .sending) (hjam : s.bau.tx.jamming = false)
    (hhand : s.bau.tx.hand = some (.control item)) : sendingEnds straps s = controlEnd true item (itemSent item s) := by
  have hbytes : s.inHandBytes = wireOf (.control item) s := by simp only [State.inHandBytes, hhand]
  rw [sendingEnds_eq hst hjam, hbytes]
  exact txEnd_control hhand

/-- A control item has no late collision (log 15). -/
theorem inHandBytes_control (hhand : s.bau.tx.hand = some (.control item)) : s.inHandBytes.length ≤ 64 := by
  have hbytes : s.inHandBytes = wireOf (.control item) s := by simp only [State.inHandBytes, hhand]
  rw [hbytes, wireOf, length_busFrame]
  cases item <;> simp [CtrlItem.wire, u16]

/-- The card after a control item's twelfth collision, before its kind counts (R55). -/
def itemAborted (s : State) : State := countCard .collisions (setTx Tx.initial s)

theorem itemAborted_eq (hbelow : (s.cardCounter .collisions).saturates 1 = false) :
    itemAborted s = riseCard .collisions (setTx Tx.initial s) := countCard_setTx_of_below _ hbelow

theorem jamEnds_control (hst : s.bau.tx.st = .sending) (hjam : s.bau.tx.jamming = true) (hn : s.bau.tx.collisions = 11)
    (hhand : s.bau.tx.hand = some (.control item)) (hbelow : (s.cardCounter .collisions).saturates 1 = false) :
    jamEnds draw straps s = controlEnd false item (itemAborted s) := by
  rw [jamEnds_twelfth hst hjam hn, txEnd_control (by simpa using hhand), itemAborted_eq hbelow, countCard_of_below hbelow]
  rfl

/-- The aborted item with the control list that its end leaves. -/
theorem unburdened_itemAborted (hu : Unburdened s) (hbelow : (s.cardCounter .collisions).saturates 1 = false)
    (l : List CtrlItem) : (itemAborted s).modCtrl (fun _ => l) =
      countCard .collisions { s with bau := { s.bau with tx := Tx.initial, ctrl := l } } ∧
      Unburdened ((itemAborted s).modCtrl fun _ => l) := by
  have hbelow' : (({ s with bau := { s.bau with tx := Tx.initial, ctrl := l } } : State).cardCounter .collisions).saturates 1 =
      false := hbelow
  rw [itemAborted_eq hbelow, countCard_of_below hbelow']
  exact ⟨rfl, hu⟩

end

/-- Settles O29: the ends by kind; where a claim is withdrawn, its request goes back and the start choice sees it. -/
theorem controlItemsEndByKind : Obligations.ControlItemsEndByKind := by
  unfold Obligations.ControlItemsEndByKind
  refine ⟨fun s item straps hu hst hjam hhand => ?_, fun s item draw straps hu hst hjam hn hhand hbelow => ?_⟩
  · have hends : exec (.successfulEnd straps) s = event (fun _ => controlEnd true item (itemSent item s)) s := by
      rw [exec_successfulEnd, event, event, sendingEnds_control hst hjam hhand]
    have hsent : Unburdened (itemSent item s) := hu
    refine ⟨event_busy (collidesLate_short (inHandBytes_control hhand)) hu (by simp [hst]), fun hadvert hbelow => ?_,
      fun hrelease => ?_, fun b held d hclaim => ?_⟩
    · have hcount := countCard_of_below (c := .advertsSent) (s := itemSent item s) hbelow
      rw [hends]
      refine event_whole (t := countCard .advertsSent (itemSent item s)) ?_ (by rw [hcount]; exact hu)
      cases item <;> simp [CtrlItem.isAdvert] at hadvert
      rfl
    · rw [hends]
      refine event_whole (t := itemSent item s) ?_ hsent
      cases item <;> simp [CtrlItem.isRelease] at hrelease
      rfl
    · rw [hends]
      subst hclaim
      by_cases hown : held = false ∧ s.clt.own = some (b, .sending)
      · rw [if_pos hown]
        refine event_whole ?_ hu
        simp [controlEnd, claimSent, itemSent, hown.1, hown.2, tellSequencer, setOwnClaim]
      · rw [if_neg hown]
        refine event_whole ?_ hsent
        have hno : ¬((!held) = true ∧ (itemSent (.claim b held d) s).clt.own = some (b, .sending)) := by
          simpa [itemSent] using hown
        simp only [controlEnd, claimSent, hno, if_false, tellSequencer]
        rfl
  · have hends : exec (.jamEnd draw straps) s = event (fun _ => controlEnd false item (itemAborted s)) s := by
      rw [exec_jamEnd, event, event, jamEnds_control hst hjam hn hhand hbelow]
    have hwhole : ∀ l : List CtrlItem, controlEnd false item (itemAborted s) = (itemAborted s).modCtrl (fun _ => l) →
        exec (.jamEnd draw straps) s =
          .next (txArbitrate (countCard .collisions { s with bau := { s.bau with tx := Tx.initial, ctrl := l } })) := by
      intro l hl
      obtain ⟨heq, hquiet⟩ := unburdened_itemAborted hu hbelow l
      rw [hends, ← heq]
      exact event_whole (f := fun _ => controlEnd false item (itemAborted s)) hl hquiet
    have hctrl : (itemAborted s).bau.ctrl = s.bau.ctrl := by simp [itemAborted, setTx]
    have hsame : (itemAborted s).modCtrl (fun _ => s.bau.ctrl) = itemAborted s := by
      rw [← hctrl]
      rfl
    refine ⟨fun hadvert => hwhole _ ?_, fun b retried hrelease => hwhole _ ?_, fun b held d hclaim => ⟨fun hother => hwhole _ ?_,
      fun run hheld hown hrun hstate hkind hbinder => ?_⟩⟩
    · rw [hsame]
      cases item <;> simp [CtrlItem.isAdvert] at hadvert
      rfl
    · subst hrelease
      cases retried
      · simp only [Bool.false_eq_true, if_false, ← hctrl]
        rfl
      · rw [if_pos rfl, hsame]
        rfl
    · subst hclaim
      have hno : ¬((!held) = true ∧ (itemAborted s).clt.own = some (b, .sending)) := by
        obtain h | h := hother
        · simp [h]
        · simp [itemAborted, h]
      rw [hsame]
      simp only [controlEnd, claimSent, hno, if_false, tellSequencer]
    · subst hclaim hheld
      have haborted : (itemAborted s).tsq = s.tsq ∧ (itemAborted s).clt = s.clt ∧ (itemAborted s).stc = s.stc ∧
          (itemAborted s).smn = s.smn ∧ (itemAborted s).fst.requests = s.fst.requests ∧ (itemAborted s).bau.tx = Tx.initial ∧
          (itemAborted s).port = s.port := by
        rw [itemAborted_eq hbelow]
        exact ⟨rfl, rfl, rfl, rfl, rfl, rfl, rfl⟩
      obtain ⟨hatsq, haclt, hastc, hasmn, harequests, hatx, haport⟩ := haborted
      generalize itemAborted s = a at *
      have hlost : controlEnd false (.claim b false d) a = claimWithdrawn b run.req a :=
        claimSent_withdraws (by rw [haclt, hown]) (by rw [hatsq]; exact hu.2.1) (by rw [hatsq, hrun]) hstate
      obtain ⟨hsame, hnew⟩ := startChoice_claimWithdrawn (s := a) (b := b) (q := run.req) hkind (by rw [haport, hbinder])
      obtain ⟨hwtsq, hwown, hwclaim, hwbau, hwstc, -, hwrequests, -⟩ := claimWithdrawn_spec b run.req a
      rw [haport, hasmn, hastc, engaged_iff] at hsame hnew
      generalize claimWithdrawn b run.req a = w at *
      have hrequests : (startChoice w).fst.requests = [] := by
        by_cases hagain : s.smn.cabinet = .mains ∧ s.stc.startState = .running ∧ (run.req.intrusive = true ∨
            ((s.port run.req.port).lineState ≠ .inService ∧ (s.port run.req.port).lineState ≠ .training ∧
              (s.port run.req.port).lineState ≠ .hold))
        · rw [hnew hagain, setClaim_requests]
          exact (hwrequests.trans harequests).trans hu.2.2.1
        · rw [hsame hagain]
          exact (hwrequests.trans harequests).trans hu.2.2.1
      obtain ⟨_, _, _, _, _, hoffered⟩ := offered_eq (startChoice w)
      refine ⟨offered (startChoice w), ?_, ?_⟩
      · rw [hends, event, hlost, settle_of_noRequests (by rw [hwstc, hastc]; exact hu.1) hrequests]
      · rw [hoffered]
        refine ⟨?_, fun hno => ?_, fun hagain => ?_⟩
        · by_cases hagain : s.smn.cabinet = .mains ∧ s.stc.startState = .running ∧ (run.req.intrusive = true ∨
              ((s.port run.req.port).lineState ≠ .inService ∧ (s.port run.req.port).lineState ≠ .training ∧
                (s.port run.req.port).lineState ≠ .hold))
          · rw [hnew hagain]
            simp [placeOwnClaim, setOwnClaim, State.modCtrl, testTaken, hwbau, hatx]
          · rw [hsame hagain]
            simp only [hwbau, hatx]
        · rw [hsame hno]
          refine ⟨hwown, hwclaim, ?_, ?_, ?_⟩
          · rw [hwbau, ← hctrl]
            rfl
          · rw [hwtsq]
          · rw [hwtsq]
        · rw [hnew hagain]
          refine ⟨?_, ?_, ?_, ?_, ?_⟩
          · simp [placeOwnClaim, setOwnClaim, State.modCtrl]
          · exact setClaim_claim_self _ _ _
          · simp [placeOwnClaim, setOwnClaim, State.modCtrl, testTaken, hwbau, hctrl]
            rfl
          · simp [placeOwnClaim, setOwnClaim, State.modCtrl, testTaken, hwtsq]
          · simp [placeOwnClaim, setOwnClaim, State.modCtrl, testTaken, hwtsq, newRunning, hatsq]

end Sys2Proof.Machine
end

section
/-! SUPPORT. Proofs about the requests and the evaluation of supply samples (R130, R144 to R148). -/

namespace Sys2Proof.Machine

/-! ## Requests (R130, R144, R145) -/

section
variable {s : State}

/-- A request beside one that waits or is in progress is the same request (R130). -/
theorem requestSupply_again (h : s.msu.holder = .supply ∨ s.msu.supplyWaiting = true) : requestSupply s = s := if_pos h

/-- A free converter begins the conversion at once (R130). -/
theorem requestSupply_free (hholder : s.msu.holder = .none) (hwaiting : s.msu.supplyWaiting = false) :
    requestSupply s = { s with msu := { s.msu with holder := .supply, pairSelect := .dcBus } } := by
  simp [requestSupply, grantConverter, hholder, hwaiting]

/-- A stage that holds the converter lets the conversion wait (R130). -/
theorem requestSupply_behindStage (hholder : s.msu.holder = .stage) (hwaiting : s.msu.supplyWaiting = false) :
    requestSupply s = { s with msu := { s.msu with supplyWaiting := true } } := by
  simp [requestSupply, grantConverter, hholder, hwaiting]

theorem debounceExpires_loading (hdebounce : s.smn.debounce = true) (hloading : s.stc.startState = .loading) :
    debounceExpires s = { s with smn := { s.smn with mainsSeen := s.pins.mains, debounce := false } } := by
  simp [debounceExpires, hdebounce, State.joined, hloading]

theorem debounceExpires_joined (hdebounce : s.smn.debounce = true)
    (hjoined : s.stc.startState = .joining ∨ s.stc.startState = .running) :
    debounceExpires s =
      requestSupply { s with smn := { s.smn with mainsSeen := s.pins.mains, debounce := false, sampleTimer := none } } := by
  have hj : ({ s with smn := { s.smn with mainsSeen := s.pins.mains, debounce := false } } : State).joined = true :=
    (joined_iff _).2 hjoined
  simp only [debounceExpires, hdebounce, if_true, hj, requestSample]

theorem sampleTimerExpires_running (h : s.smn.sampleTimer ≠ none) :
    sampleTimerExpires s = requestSupply { s with smn := { s.smn with sampleTimer := none } } :=
  if_pos (Option.isSome_iff_ne_none.2 h)

end

/-- Settles O34: each event's whole next state, by what the converter does with the request. -/
theorem supplySamplesAreRequested : Obligations.SupplySamplesAreRequested := by
  unfold Obligations.SupplySamplesAreRequested
  intro s hu
  refine ⟨fun present => event_whole ?_ hu, fun hd hloading => event_whole (debounceExpires_loading hd hloading) hu,
    fun hd hjoined hwaiting => ⟨fun hnone => ?_, fun hstage => ?_⟩, fun hd hjoined hagain => ?_, fun htimer hagain => ?_,
    fun htimer hwaiting => ⟨fun hnone => ?_, fun hstage => ?_⟩⟩
  · simp only [mainsInputChanges, if_neg hu.1]
  · exact event_whole ((debounceExpires_joined hd hjoined).trans (requestSupply_free hnone hwaiting)) hu
  · exact event_whole ((debounceExpires_joined hd hjoined).trans (requestSupply_behindStage hstage hwaiting)) hu
  · exact event_whole ((debounceExpires_joined hd hjoined).trans (requestSupply_again hagain)) hu
  · exact event_whole ((sampleTimerExpires_running htimer).trans (requestSupply_again hagain)) hu
  · exact event_whole ((sampleTimerExpires_running htimer).trans (requestSupply_free hnone hwaiting)) hu
  · exact event_whole ((sampleTimerExpires_running htimer).trans (requestSupply_behindStage hstage hwaiting)) hu

/-! ## The work that waits (R47, R116, R156) -/

/-- What the end of a step looks at first: the start state, the queued tests and the requests of management. -/
def State.work (s : State) : Stc × List TestReq × List Frame := (s.stc, s.tsq.queue, s.fst.requests)

theorem Unburdened.quiet_of_work {s t : State} (hu : Unburdened s) (h : t.work = s.work) : Quiet t := by
  simp only [State.work, Prod.mk.injEq] at h
  obtain ⟨hstc, hqueue, hrequests⟩ := h
  exact ⟨hstc ▸ hu.1, .inl (hqueue.trans hu.2.1), hrequests.trans hu.2.2.1⟩

section
variable (s : State) (p : PortId)

@[simp] theorem setRunning_work (r : Option Running) : (setRunning r s).work = s.work := rfl

@[simp] theorem openTest_work : (openTest p s).work = s.work := by simp [State.work]

@[simp] theorem openService_work : (openService p s).work = s.work := by simp [State.work]

@[simp] theorem closeTest_work : (closeTest p s).work = s.work := by simp [State.work]

@[simp] theorem closeService_work : (closeService p s).work = s.work := by simp [State.work]

@[simp] theorem grantConverter_work : (grantConverter s).work = s.work := by simp [State.work]

@[simp] theorem releaseStage_work : (releaseStage s).work = s.work := rfl

@[simp] theorem stopStage_work : (stopStage s).work = s.work := grantConverter_work (releaseStage s)

@[simp] theorem startStage_work (st : Stage) (tone : Option ToneSpec) : (startStage st tone s).work = s.work := by
  obtain ⟨_, _, h⟩ := OnlyTests.startStage st tone s
  simp [State.work]

@[simp] theorem raiseNotice_work (c : Cause) : (raiseNotice c s).work = s.work := by
  simp [State.work, raiseNotice_requests]

@[simp] theorem countPort_work (c : PortCounter) (n : Nat) : (countPort p c n s).work = s.work := by simp [State.work]

@[simp] theorem changeState_work (ns : LineState) (w l : Bool) : (changeState p ns w l s).work = s.work := by
  simp [State.work, changeState_requests]

@[simp] theorem toWaiting_work (l : Bool) : (toWaiting p l s).work = s.work := changeState_work ..

@[simp] theorem setClaim_work (b : BinderId) (e : ClaimEntry) : (setClaim b e s).work = s.work := by
  simp [State.work, setClaim_requests]

@[simp] theorem setOwnClaim_work (c : Option (BinderId × ClaimStep)) : (setOwnClaim c s).work = s.work := rfl

@[simp] theorem withdrawClaim_work (b : BinderId) : (withdrawClaim b s).work = s.work := rfl

@[simp] theorem placeRelease_work (b : BinderId) (retried : Bool) : (placeRelease b retried s).work = s.work := rfl

@[simp] theorem giveUpClaim_work : (giveUpClaim s).work = s.work := by
  unfold giveUpClaim
  split <;> try split
  all_goals simp

@[simp] theorem noticesOfEnd_work (o : TestOutcome) : (noticesOfEnd o s).work = s.work := by
  cases o <;> simp [noticesOfEnd]

@[simp] theorem portAfterTest_work (r : Running) (o : TestOutcome) : (portAfterTest r o s).work = s.work := by
  unfold portAfterTest
  dsimp only
  split <;> try split <;> try split
  all_goals simp

@[simp] theorem endTest_work : (endTest s).work = s.work := by
  unfold endTest
  split
  · rfl
  · next run hrun =>
    refine (portAfterTest_work _ _ _).trans ((noticesOfEnd_work _ _).trans ?_)
    change (if run.req.kind = .lineCheck then giveUpClaim s else s).work = s.work
    split <;> simp

@[simp] theorem enterRestoring_work : (enterRestoring s).work = s.work := by
  cases h : s.tsq.running with
  | none => simp [enterRestoring, h]
  | some run => simp [enterRestoring_eq h]

@[simp] theorem hazardShutdown_work : (hazardShutdown s).work = s.work := by
  unfold hazardShutdown
  split <;> simp

@[simp] theorem abortTest_work (cause : AbortCause) : (abortTest cause s).work = s.work := by
  unfold abortTest
  split <;> try split
  all_goals simp

@[simp] theorem setWakeWatch_work (w : Bool) : (setWakeWatch w p s).work = s.work := by simp [State.work]

@[simp] theorem shedForLow_work : (shedForLow p s).work = s.work := by
  unfold shedForLow
  dsimp only
  split <;> try split
  all_goals simp

@[simp] theorem lsvSupply_work (new : Supply) : (lsvSupply new s).work = s.work := by
  unfold lsvSupply
  cases new <;> refine forPorts_keeps State.work _ (fun p t => ?_) _ s
  · unfold supplyReturns
    split <;> simp
  · unfold supplyReturns
    split <;> simp
  · exact shedForLow_work t p
  · unfold shedForCritical
    dsimp only
    split <;> try split
    all_goals simp

@[simp] theorem supplyAborts_work (new : Supply) : (supplyAborts new s).work = s.work := by
  unfold supplyAborts
  split <;> try split <;> try split
  all_goals simp

@[simp] theorem recomputeCabinet_work : (recomputeCabinet s).work = s.work := by
  unfold recomputeCabinet
  dsimp only
  split
  · rfl
  · rw [supplyAborts_work, lsvSupply_work, raiseNotice_work]
    rfl

@[simp] theorem releaseSupply_work : (releaseSupply s).work = s.work := by
  unfold releaseSupply
  split
  · rw [grantConverter_work]
    rfl
  · exact grantConverter_work s

end

/-! ## Notice flags (R161) -/

/-- No notice flag of one state is clear in another. -/
structure FlagsRise (s t : State) : Prop where
  flag : ∀ c, s.flagSet c = true → t.flagSet c = true

theorem FlagsRise.refl (s : State) : FlagsRise s s := ⟨fun _ h => h⟩

theorem FlagsRise.trans {s t u : State} (h : FlagsRise s t) (k : FlagsRise t u) : FlagsRise s u :=
  ⟨fun c hc => k.flag c (h.flag c hc)⟩

theorem FlagsRise.of_mga {s t : State} (h : t.mga = s.mga) : FlagsRise s t := ⟨fun c hc => by rwa [State.flagSet, h]⟩

theorem FlagsRise.ite {c : Prop} [Decidable c] {s t u : State} (ht : FlagsRise s t) (hu : FlagsRise s u) :
    FlagsRise s (if c then t else u) := by
  split
  · exact ht
  · exact hu

theorem FlagsRise.raiseNotice (c : Cause) (s : State) : FlagsRise s (raiseNotice c s) :=
  ⟨fun d hd => (raiseNotice_flagSet c d s).2 (.inr hd)⟩

theorem FlagsRise.countPort (p : PortId) (c : PortCounter) (n : Nat) (s : State) : FlagsRise s (countPort p c n s) :=
  ⟨fun _ hd => countPort_flags p c n _ hd⟩

theorem FlagsRise.forPorts {f : PortId → State → State} (h : ∀ p t, FlagsRise t (f p t)) (ps : List PortId) (s : State) :
    FlagsRise s (forPorts ps f s) := by
  induction ps generalizing s with
  | nil => exact .refl s
  | cons p ps ih => exact (h p s).trans (ih (f p s))

theorem FlagsRise.flushPort (p : PortId) (s : State) : FlagsRise s (flushPort p s) := by
  unfold Machine.flushPort
  refine .trans ?_ (.countPort p .flushed _ _)
  exact .of_mga rfl

theorem FlagsRise.changeState (p : PortId) (ns : LineState) (w l : Bool) (s : State) :
    FlagsRise s (changeState p ns w l s) := by
  have enter (t : State) : FlagsRise t (if ns = .inService then uscEnterService p t else t) :=
    .ite (.of_mga (by simp)) (.refl t)
  have shed (t : State) : FlagsRise t (if ns = .shed then Machine.countPort p .sheds 1 t else t) :=
    .ite (.countPort p .sheds 1 t) (.refl t)
  have flush (t : State) : FlagsRise t (if ns.flushes then Machine.flushPort p t else t) := .ite (.flushPort p t) (.refl t)
  have left (t : State) (h : t.mga = s.mga) : FlagsRise s (if (s.port p).lineState = .inService then
      { uscLeave p t with fst := { (uscLeave p t).fst with pull := tset (uscLeave p t).fst.pull p false } } else t) :=
    .ite (.of_mga (by simpa using h)) (.of_mga h)
  unfold Machine.changeState
  refine .trans ?_ (enter _)
  refine .trans ?_ (shed _)
  refine .trans ?_ (flush _)
  exact left _ rfl

theorem FlagsRise.shedForLow (p : PortId) (s : State) : FlagsRise s (shedForLow p s) := by
  unfold Machine.shedForLow
  dsimp only
  split <;> try split
  all_goals first
    | exact .changeState _ _ _ _ _
    | exact .of_mga (by simp)

theorem FlagsRise.shedForCritical (p : PortId) (s : State) : FlagsRise s (shedForCritical p s) := by
  unfold Machine.shedForCritical
  dsimp only
  split <;> try split
  · exact .shedForLow p s
  all_goals first
    | exact .changeState _ _ _ _ _
    | exact .of_mga (by simp)

theorem FlagsRise.lsvSupply (new : Supply) (s : State) : FlagsRise s (lsvSupply new s) := by
  unfold Machine.lsvSupply
  cases new <;> refine .forPorts (fun p t => ?_) _ s
  · exact .ite (.changeState _ _ _ _ _) (.refl t)
  · exact .ite (.changeState _ _ _ _ _) (.refl t)
  · exact .shedForLow p t
  · exact .shedForCritical p t

theorem FlagsRise.beginAttempt (p : PortId) (s : State) : FlagsRise s (beginAttempt p s) := by
  have training : FlagsRise s (if (s.port p).lineState = .training then s else Machine.changeState p .training false false s) :=
    .ite (.refl s) (.changeState _ _ _ _ _)
  exact .ite (.changeState _ _ _ _ _) (training.trans (.of_mga rfl))

theorem FlagsRise.setClaim (b : BinderId) (e : ClaimEntry) (s : State) : FlagsRise s (setClaim b e s) := by
  have hentry (es : Tbl ClaimEntry 32) : FlagsRise s { s with clt := { s.clt with entries := es } } := .of_mga rfl
  have freed (t : State) : FlagsRise t (claimFreed b t) := by
    unfold claimFreed
    exact .forPorts (fun p t => .ite (.beginAttempt p t) (.refl t)) _ _
  have entered (t : State) : FlagsRise t (claimEntered b t) := by
    unfold claimEntered
    exact .forPorts (fun p t => .ite (.changeState _ _ _ _ _) (.refl t)) _ _
  unfold Machine.setClaim
  dsimp only
  split <;> split
  · exact hentry _
  · exact (hentry _).trans (freed _)
  · exact (hentry _).trans (entered _)
  · exact hentry _

theorem FlagsRise.giveUpClaim (s : State) : FlagsRise s (giveUpClaim s) := by
  have set (b : BinderId) {t : State} (h : t.mga = s.mga) : FlagsRise s (Machine.setClaim b ClaimEntry.vacant t) :=
    .trans (.of_mga h) (.setClaim b _ t)
  unfold Machine.giveUpClaim
  split
  · exact .refl s
  · exact .ite (set _ rfl) (set _ rfl)
  · exact set _ rfl
  · exact set _ rfl
  · exact .of_mga rfl

theorem FlagsRise.noticesOfEnd (o : TestOutcome) (s : State) : FlagsRise s (noticesOfEnd o s) := by
  have done : FlagsRise s (Machine.raiseNotice .testDone s) := .raiseNotice _ s
  cases o
  case hazard => exact done.trans (.raiseNotice _ _)
  case fault => exact done.trans (.raiseNotice _ _)
  all_goals exact done

theorem FlagsRise.portAfterTest (r : Running) (o : TestOutcome) (s : State) : FlagsRise s (portAfterTest r o s) := by
  refine .ite (.ite (.changeState _ _ _ _ _) (.ite ?_ (.changeState _ _ _ _ _))) (.refl s)
  exact .changeState _ _ _ _ _

theorem FlagsRise.endTest (s : State) : FlagsRise s (endTest s) := by
  unfold Machine.endTest
  split
  · exact .refl s
  · next run hrun =>
    refine .trans (t := Machine.portAfterTest run _ (Machine.noticesOfEnd _ _)) ?_ (.of_mga rfl)
    refine .trans ?_ (.portAfterTest _ _ _)
    refine .trans ?_ (.noticesOfEnd _ _)
    refine .trans (t := if run.req.kind = .lineCheck then Machine.giveUpClaim s else s) ?_ (.of_mga rfl)
    exact .ite (.giveUpClaim s) (.refl s)

theorem FlagsRise.enterRestoring (s : State) : FlagsRise s (enterRestoring s) := by
  unfold Machine.enterRestoring
  split <;> exact .of_mga rfl

theorem FlagsRise.abortTest (cause : AbortCause) (s : State) : FlagsRise s (abortTest cause s) := by
  unfold Machine.abortTest
  split <;> try split
  · exact .refl s
  · refine .trans ?_ (.endTest _)
    exact .of_mga rfl
  · refine .trans ?_ (.enterRestoring _)
    exact .of_mga rfl
  · refine .trans ?_ (.enterRestoring _)
    exact .of_mga (by simp [Machine.setRunning])
  · exact .refl s

theorem FlagsRise.supplyAborts (new : Supply) (s : State) : FlagsRise s (supplyAborts new s) := by
  unfold Machine.supplyAborts
  split
  · exact .refl s
  · cases new
    case low => exact .ite (.refl s) (.abortTest _ s)
    case critical => exact .abortTest _ s
    all_goals exact .refl s

/-! ## The cabinet supply state (R148) -/

theorem recomputeCabinet_changed {s : State} (h : worstSupply s ≠ s.smn.cabinet) : recomputeCabinet s =
    supplyAborts (worstSupply s) (lsvSupply (worstSupply s)
      (raiseNotice .supplyChange { s with smn := { s.smn with cabinet := worstSupply s } })) := if_neg h

theorem recomputeCabinet_smn (s : State) : (recomputeCabinet s).smn = { s.smn with cabinet := worstSupply s } := by
  by_cases h : worstSupply s = s.smn.cabinet
  · rw [recomputeCabinet_same h, h]
  · simp [recomputeCabinet_changed h]

theorem recomputeCabinet_flag {s : State} (h : worstSupply s ≠ s.smn.cabinet) :
    (recomputeCabinet s).flagSet .supplyChange = true := by
  rw [recomputeCabinet_changed h]
  exact ((FlagsRise.lsvSupply _ _).trans (.supplyAborts _ _)).flag _ (raiseNotice_flagSet_self _ _)

/-! ## Samples (R130, R145 to R147) -/

section
variable {s : State} {code : Nat}

/-- The candidate of a sample (R146). -/
def State.candidate (s : State) (code : Nat) : Supply := candidateOf s.cfg s.smn.own s.smn.mainsSeen (decivolts code)

theorem candidate_eq (s : State) (code : Nat) : s.candidate code =
    if s.smn.mainsSeen = true ∧ (if s.smn.own = .mains then s.cfg.vLow else s.cfg.vLow + 5) ≤ code / 5 then .mains
    else if (if s.smn.own = .mains ∨ s.smn.own = .battery then s.cfg.vLow else s.cfg.vLow + 5) ≤ code / 5 then .battery
    else if (if s.smn.own = .critical then s.cfg.vCrit + 5 else s.cfg.vCrit) ≤ code / 5 then .low
    else .critical := by
  simp only [State.candidate, candidateOf, raisedFor, decivolts]
  cases s.smn.own <;> simp [Supply.rank]

/-- The converter is free again after a sample with nothing waiting for it (R130, log 35). -/
theorem releaseSupply_alone (hholder : s.msu.holder = .supply) (hsupply : s.msu.supplyWaiting = false)
    (hstage : s.msu.stageWaiting = false) :
    releaseSupply s = { s with msu := { s.msu with holder := .none, pairSelect := selectAfterSupply s.msu } } := by
  simp [releaseSupply, hholder, grantConverter, hsupply, hstage]

/-- A sample that leaves the own state (R147). -/
theorem supplySampled_kept (hholder : s.msu.holder = .supply)
    (h : (twoSample s.smn.own s.smn.differing (s.candidate code)).1 = s.smn.own) :
    supplySampled code s = releaseSupply
      { s with smn := { s.smn with
          differing := (twoSample s.smn.own s.smn.differing (s.candidate code)).2
          sampleTimer := some (sampleInterval s.smn.own) } } := by
  have h' : (twoSample s.smn.own s.smn.differing (candidateOf s.cfg s.smn.own s.smn.mainsSeen (decivolts code))).1 =
    s.smn.own := h
  simp only [supplySampled, hholder, if_true, h']
  rfl

/-- The second differing sample gives the own state its candidate (R147). -/
theorem supplySampled_taken (hholder : s.msu.holder = .supply) (hcand : s.candidate code ≠ s.smn.own)
    (hdiffering : s.smn.differing ≠ 0) :
    supplySampled code s =
      let t := recomputeCabinet { s with smn := { s.smn with own := s.candidate code, differing := 0 } }
      releaseSupply { t with smn := { t.smn with sampleTimer := some (sampleInterval t.smn.own) } } := by
  have hcand' : candidateOf s.cfg s.smn.own s.smn.mainsSeen (decivolts code) ≠ s.smn.own := hcand
  simp only [supplySampled, hholder, if_true, twoSample, if_neg hcand', if_neg hdiffering]
  rfl

/-- What such a sample leaves is the recomputed card's but for the timer and the converter (R145, R147). -/
theorem supplySampled_taken_spec (hholder : s.msu.holder = .supply) (hcand : s.candidate code ≠ s.smn.own)
    (hdiffering : s.smn.differing ≠ 0) :
    ∃ t, t = recomputeCabinet { s with smn := { s.smn with own := s.candidate code, differing := 0 } } ∧
      (supplySampled code s).smn = { s.smn with
        own := s.candidate code
        differing := 0
        sampleTimer := some (sampleInterval (s.candidate code))
        cabinet := worstSupply { s with smn := { s.smn with own := s.candidate code } } } ∧
      (supplySampled code s).ports = t.ports ∧ (supplySampled code s).tsq = t.tsq ∧
      (∀ c, (supplySampled code s).flagSet c = t.flagSet c) ∧
      ∃ u, u.msu = t.msu ∧ supplySampled code s = releaseSupply u := by
  have htaken := supplySampled_taken hholder hcand hdiffering
  generalize ht : recomputeCabinet { s with smn := { s.smn with own := s.candidate code, differing := 0 } } = t at htaken
  have hsmn : t.smn = { s.smn with
      own := s.candidate code
      differing := 0
      cabinet := worstSupply { s with smn := { s.smn with own := s.candidate code } } } := by
    rw [← ht, recomputeCabinet_smn]
    rfl
  refine ⟨t, rfl, ?_, ?_, ?_, fun c => ?_, _, ?_, htaken⟩
  · simp [htaken, hsmn]
  · simp [htaken]
  · simp [htaken]
  · simp [htaken, State.flagSet]
  · rfl

theorem supplySampled_work (code : Nat) (s : State) : (supplySampled code s).work = s.work := by
  unfold supplySampled
  dsimp only
  split
  · refine (releaseSupply_work _).trans ?_
    split
    · rfl
    · exact recomputeCabinet_work _
  · rfl

end

/-- Settles O35: by the three cases of the two-sample rule. -/
theorem supplySampleIsEvaluated : Obligations.SupplySampleIsEvaluated := by
  unfold Obligations.SupplySampleIsEvaluated
  intro s code hu hholder hsupply hstage
  have hexec (c : BitVec 12) : exec (.supplySampleComplete c) s = event (supplySampled c.toNat) s := rfl
  have hcand := candidate_eq s code.toNat
  intro v own mainsAt batteryAt lowAt cand interval answer
  have hcand : cand = s.candidate code.toNat := hcand.symm
  clear_value cand
  subst hcand
  refine ⟨fun hsame => ?_, fun hdiffers hfirst => ?_, fun hdiffers hsecond => ?_⟩
  · have hkept : (twoSample s.smn.own s.smn.differing (s.candidate code.toNat)) = (s.smn.own, 0) := by
      simp only [twoSample, hsame, own, if_true]
    refine event_whole ((supplySampled_kept hholder (by rw [hkept])).trans ?_) hu
    rw [hkept, releaseSupply_alone]
    · simp only [selectAfterSupply]
      cases s.msu.drive <;> rfl
    · exact hholder
    · exact hsupply
    · exact hstage
  · have hkept : (twoSample s.smn.own s.smn.differing (s.candidate code.toNat)) = (s.smn.own, 1) := by
      simp only [twoSample, if_neg hdiffers, hfirst, own, if_true]
    refine event_whole ((supplySampled_kept hholder (by rw [hkept])).trans ?_) hu
    rw [hkept, releaseSupply_alone]
    · simp only [selectAfterSupply]
      cases s.msu.drive <;> rfl
    · exact hholder
    · exact hsupply
    · exact hstage
  · obtain ⟨t, ht, hsmn, hports, -, hflags, -⟩ := supplySampled_taken_spec hholder hdiffers hsecond
    have hquiet : Quiet (supplySampled code.toNat s) := hu.quiet_of_work (supplySampled_work code.toNat s)
    refine ⟨_, rfl, ?_⟩
    rw [hquiet.settle_smn, hquiet.settle_ports, hports, State.flagSet, hquiet.settle_flags, ← State.flagSet, hflags, hsmn]
    have hworst : worstSupply { s with smn := { s.smn with own := s.candidate code.toNat, differing := 0 } } =
        worstSupply { s with smn := { s.smn with own := s.candidate code.toNat } } := worstSupply_congr rfl rfl rfl
    rw [← hworst]
    refine ⟨rfl, rfl, rfl, rfl, rfl, fun hchanged => ?_, fun hsame => ?_⟩
    · rw [ht]
      exact recomputeCabinet_flag hchanged
    · rw [ht, recomputeCabinet_same hsame]

end Sys2Proof.Machine
end

section
/-! SUPPORT. Proofs about the moves of the ports at a change of the cabinet supply state (R11, R123, R148, R150 to R152). -/

namespace Sys2Proof.Machine

/-! ## The record that a move leaves (R4, R11, R150 to R152) -/

theorem Port.powerTo_power (m : PowerMode) (r : Port) : (r.powerTo m).power = m := by
  unfold Port.powerTo
  dsimp only
  split
  · assumption
  · split <;> rfl

theorem Port.powerTo_wakeWatch (m : PowerMode) (r : Port) : (r.powerTo m).wakeWatch = r.wakeWatch := by
  unfold Port.powerTo
  dsimp only
  repeat' split
  all_goals rfl

theorem Port.enter_power (ns : LineState) (w : Bool) (r : Port) : (r.enter ns w).power = powerModeOf ns w :=
  Port.powerTo_power _ _

theorem Port.enter_shed_wakeWatch (w : Bool) (r : Port) : (r.enter .shed w).wakeWatch = w := by
  unfold Port.enter
  dsimp only
  rw [Port.powerTo_wakeWatch]
  rfl

/-- The record of a port that goes to another line state under its own power. -/
def Port.to (ns : LineState) (wake : Bool) (r : Port) : Port := (r.leave ns false).enter ns wake

/-- The record of a SHED port whose wake watch is set (R11). -/
def Port.watch (wake : Bool) (r : Port) : Port :=
  if r.wakeWatch = wake then r
  else ({ r with wakeWatch := wake, wakeArmed := false, reportAwaited := false } : Port).powerTo (powerModeOf .shed wake)

theorem Port.watch_spec (wake : Bool) (r : Port) : (r.watch wake).lineState = r.lineState ∧ (r.watch wake).wakeWatch = wake := by
  unfold Port.watch
  split
  · exact ⟨rfl, ‹_›⟩
  · exact ⟨Port.powerTo_lineState _ _, Port.powerTo_wakeWatch _ _⟩

/-- The record of a port after the move of LOW (R150). -/
def Port.shedLow (r : Port) : Port :=
  match r.lineState with
  | .waiting => r.to .shed true
  | .inService => if r.idleFlag then r.to .shed true else r
  | .shed => r.watch true
  | .disabled | .training | .hold | .testing | .faulted => r

/-- The record of a port after the move of CRITICAL (R151). -/
def Port.shedCritical (r : Port) : Port :=
  if r.priority then r.shedLow
  else
    match r.lineState with
    | .waiting | .training | .hold | .inService => r.to .shed false
    | .shed => r.watch false
    | .disabled | .testing | .faulted => r

/-- The record of a port after LSV's move (R150 to R152). -/
def Port.moved (new : Supply) (r : Port) : Port :=
  match new with
  | .low => r.shedLow
  | .critical => r.shedCritical
  | .mains | .battery => if r.lineState = .shed then r.to .waiting false else r

theorem Port.to_shed (w : Bool) (r : Port) :
    (r.to .shed w).lineState = .shed ∧ (r.to .shed w).wakeWatch = w ∧ (r.to .shed w).power = powerModeOf .shed w :=
  ⟨Port.enter_lineState .., Port.enter_shed_wakeWatch .., Port.enter_power ..⟩

theorem Port.shedLow_spec (r : Port) :
    (r.lineState = .waiting ∨ (r.lineState = .inService ∧ r.idleFlag = true) →
      r.shedLow.lineState = .shed ∧ r.shedLow.wakeWatch = true ∧ r.shedLow.power = .watch) ∧
    (r.lineState = .shed → r.shedLow.lineState = .shed ∧ r.shedLow.wakeWatch = true) ∧
    (r.lineState ≠ .waiting → r.lineState ≠ .shed → ¬(r.lineState = .inService ∧ r.idleFlag = true) → r.shedLow = r) := by
  refine ⟨?_, fun hl => ?_, fun hwaiting hshed hidle => ?_⟩
  · rintro (hl | ⟨hl, hidle⟩)
    · simpa [Port.shedLow, hl, powerModeOf] using r.to_shed true
    · simpa [Port.shedLow, hl, hidle, powerModeOf] using r.to_shed true
  · simpa [Port.shedLow, hl] using r.watch_spec true
  · cases hl : r.lineState <;> simp_all [Port.shedLow]

theorem Port.shedCritical_spec {r : Port} (hpriority : r.priority = false) :
    let t := r.moved .critical
    (r.lineState = .waiting ∨ r.lineState = .training ∨ r.lineState = .hold ∨ r.lineState = .inService →
      t.lineState = .shed ∧ t.wakeWatch = false ∧ t.power = .off) ∧
    (r.lineState = .shed → t.lineState = .shed ∧ t.wakeWatch = false) ∧
    (r.lineState = .disabled ∨ r.lineState = .testing ∨ r.lineState = .faulted → t = r) := by
  have hshed := r.to_shed false
  refine ⟨?_, fun hl => ?_, ?_⟩
  · rintro (hl | hl | hl | hl) <;> simpa [Port.moved, Port.shedCritical, hpriority, hl, powerModeOf] using hshed
  · simpa [Port.moved, Port.shedCritical, hpriority, hl] using r.watch_spec false
  · rintro (hl | hl | hl) <;> simp [Port.moved, Port.shedCritical, hpriority, hl]

theorem Port.returned_spec {new : Supply} (h : new = .mains ∨ new = .battery) {r : Port} :
    (r.lineState = .shed → (r.moved new).lineState = .waiting ∧ (r.moved new).power = .on) ∧
    (r.lineState ≠ .shed → r.moved new = r) := by
  have hmoved : r.moved new = if r.lineState = .shed then r.to .waiting false else r := by
    obtain rfl | rfl := h <;> rfl
  rw [hmoved]
  refine ⟨fun hl => ?_, fun hl => if_neg hl⟩
  rw [if_pos hl]
  exact ⟨Port.enter_lineState .., Port.enter_power ..⟩

/-! ## One port's move -/

/-- What a port's move writes: its record, and its count of entries to SHED (R11). -/
structure MovesPort (p : PortId) (r : Port) (s t : State) : Prop where
  self : t.port p = r
  others : ∀ q, p ≠ q → t.port q = s.port q
  sheds : ∀ q, t.portCounter q .sheds =
    if p = q ∧ (s.port q).lineState ≠ .shed ∧ r.lineState = .shed then (s.portCounter q .sheds).rise 1
    else s.portCounter q .sheds

theorem MovesPort.refl (p : PortId) (s : State) : MovesPort p (s.port p) s s where
  self := rfl
  others _ _ := rfl
  sheds q := by
    rw [if_neg]
    rintro ⟨rfl, hout, hin⟩
    exact hout hin

theorem MovesPort.changeState {p : PortId} {ns : LineState} {w : Bool} {s : State}
    (h : ns = .shed → (s.port p).lineState ≠ .shed) : MovesPort p ((s.port p).to ns w) s (changeState p ns w false s) where
  self := changeState_port_self ..
  others q hq := changeState_others p q ns w false s hq
  sheds q := by
    rw [changeState_portCounter _ _ _ _ _ _ (by decide), Port.to, Port.enter_lineState]
    by_cases hp : p = q
    · subst hp
      by_cases hns : ns = .shed
      · simp [hns, h hns]
      · simp [hns]
    · simp [hp]

theorem MovesPort.setWakeWatch {p : PortId} (w : Bool) {s : State} (h : (s.port p).lineState = .shed) :
    MovesPort p ((s.port p).watch w) s (setWakeWatch w p s) where
  self := by
    unfold Machine.setWakeWatch Port.watch
    dsimp only
    split
    · rfl
    · exact setPort_port_self ..
  others q hq := by
    unfold Machine.setWakeWatch
    dsimp only
    split
    · rfl
    · exact setPort_port_ne _ _ hq
  sheds q := by
    rw [if_neg]
    · simp [State.portCounter]
    · rintro ⟨rfl, hout, -⟩
      exact hout h

theorem shedForLow_moves (p : PortId) (s : State) : MovesPort p (s.port p).shedLow s (shedForLow p s) := by
  cases h : (s.port p).lineState <;> simp only [shedForLow, Port.shedLow, h]
  case waiting => exact .changeState fun _ => by simp [h]
  case shed => exact .setWakeWatch true h
  case inService =>
    split
    · exact .changeState fun _ => by simp [h]
    · exact .refl p s
  all_goals exact .refl p s

theorem shedForCritical_moves (p : PortId) (s : State) : MovesPort p (s.port p).shedCritical s (shedForCritical p s) := by
  by_cases hpriority : (s.port p).priority = true
  · simp only [shedForCritical, Port.shedCritical, if_pos hpriority]
    exact shedForLow_moves p s
  · cases h : (s.port p).lineState <;> simp only [shedForCritical, Port.shedCritical, if_neg hpriority, h]
    case shed => exact .setWakeWatch false h
    case disabled | testing | faulted => exact .refl p s
    all_goals exact .changeState fun _ => by simp [h]

theorem supplyReturns_moves (p : PortId) (s : State) :
    MovesPort p (if (s.port p).lineState = .shed then (s.port p).to .waiting false else s.port p) s (supplyReturns p s) := by
  unfold supplyReturns
  split
  · exact .changeState (by simp)
  · exact .refl p s

/-- A move of every port, each by its own record. -/
theorem forPorts_moves {f : PortId → State → State} {G : Port → Port} (h : ∀ p t, MovesPort p (G (t.port p)) t (f p t))
    (s : State) (q : PortId) :
    (forPorts allPorts f s).port q = G (s.port q) ∧
      (forPorts allPorts f s).portCounter q .sheds =
        if (s.port q).lineState ≠ .shed ∧ (G (s.port q)).lineState = .shed then (s.portCounter q .sheds).rise 1
        else s.portCounter q .sheds := by
  have hlist : ∀ (ps : List PortId) (u : State), ps.Nodup →
      (forPorts ps f u).port q = (if q ∈ ps then G (u.port q) else u.port q) ∧
        (forPorts ps f u).portCounter q .sheds =
          if q ∈ ps ∧ (u.port q).lineState ≠ .shed ∧ (G (u.port q)).lineState = .shed then (u.portCounter q .sheds).rise 1
          else u.portCounter q .sheds := by
    intro ps
    induction ps with
    | nil => exact fun u _ => by simp [forPorts]
    | cons p ps ih =>
      intro u hps
      obtain ⟨hp, hps⟩ := List.nodup_cons.1 hps
      obtain ⟨hself, hothers, hsheds⟩ := h p u
      obtain ⟨hport, hcount⟩ := ih (f p u) hps
      have hcons : forPorts (p :: ps) f u = forPorts ps f (f p u) := rfl
      rw [hcons, hport, hcount, hsheds]
      by_cases hq : p = q
      · subst hq
        simp [hp, hself]
      · simp [Ne.symm hq, hq, hothers q hq]
  simpa [mem_allPorts] using hlist allPorts s nodup_allPorts

/-- LSV's moves, port by port (R11, R150 to R152). -/
theorem lsvSupply_moves (new : Supply) (s : State) (p : PortId) :
    (lsvSupply new s).port p = (s.port p).moved new ∧
      (lsvSupply new s).portCounter p .sheds =
        if (s.port p).lineState ≠ .shed ∧ ((s.port p).moved new).lineState = .shed then (s.portCounter p .sheds).rise 1
        else s.portCounter p .sheds := by
  unfold lsvSupply
  cases new
  case low => exact forPorts_moves (G := Port.shedLow) shedForLow_moves s p
  case critical => exact forPorts_moves (G := Port.shedCritical) shedForCritical_moves s p
  all_goals
    exact forPorts_moves (G := fun r => if r.lineState = .shed then r.to .waiting false else r) supplyReturns_moves s p

theorem ports_ext {s t : State} (h : ∀ p, t.port p = s.port p) : t.ports = s.ports :=
  Vector.ext fun i hi => h ⟨i, hi⟩

/-! ## Aborts (R123) -/

section
variable {s : State} {run : Running} {cause : AbortCause}

theorem endTest_tsq (h : s.tsq.running = some run) : (endTest s).tsq = { s.tsq with
    running := none
    results := tset s.tsq.results run.req.port (some (recordOf run (run.outcome.getD (decideOutcome run)))) } := by
  have hclaim : (if run.req.kind = .lineCheck then giveUpClaim s else s).tsq = s.tsq := by split <;> simp
  simp only [endTest, h, setRunning, portAfterTest_tsq]
  simp [hclaim]

theorem abortTest_claiming (h : s.tsq.running = some run) (hst : run.st = .claiming) :
    abortTest cause s = endTest (setRunning (some { run with abort := some cause }) s) := by
  simp only [abortTest, h, hst]

theorem abortTest_isolating (h : s.tsq.running = some run) (hst : run.st = .isolating) :
    abortTest cause s = setRunning (some (restoringRun { run with abort := some cause })) (openTest run.req.port s) := by
  simp only [abortTest, h, hst]
  rw [enterRestoring_eq (run := { run with abort := some cause, st := .isolating }) (by simp [setRunning])]
  rfl

theorem abortTest_measuring (h : s.tsq.running = some run) (hst : run.st = .measuring) :
    abortTest cause s = setRunning (some (restoringRun { withToneMinutes s.msu.run run with abort := some cause }))
      (openTest run.req.port (stopStage s)) := by
  simp only [abortTest, h, hst]
  rw [enterRestoring_eq rfl, (withToneMinutes_req_st s.msu.run run).1]
  rfl

theorem abortTest_restoring (h : s.tsq.running = some run) (hst : run.st = .restoring) : abortTest cause s = s := by
  simp only [abortTest, h, hst]

end

/-! ## A change of the cabinet supply state (R123, R148) -/

/-- Whether a cabinet supply state aborts a running test (R123). -/
def Aborts (w : Supply) (run : Running) : Prop := w = .critical ∨ (w = .low ∧ run.req.kind ≠ .tone)

theorem supplyAborts_cases {w : Supply} {run : Running} {s : State} (h : s.tsq.running = some run) :
    (Aborts w run → supplyAborts w s = abortTest .supply s) ∧ (¬Aborts w run → supplyAborts w s = s) := by
  cases w
  case low => by_cases hk : run.req.kind = .tone <;> simp [Aborts, supplyAborts, h, hk]
  all_goals simp [Aborts, supplyAborts, h]

/-- What a change of the cabinet supply state brings beside its own field (R123, R148, R150 to R152). -/
structure SupplyMoved (w : Supply) (s t : State) : Prop where
  flag : t.flagSet .supplyChange = true
  idle : s.tsq.running = none → t.tsq.running = none ∧ ∀ p, t.port p = (s.port p).moved w
  stays : ∀ run, s.tsq.running = some run → ¬Aborts w run ∨ run.st = .restoring →
    t.tsq.running = some run ∧ ∀ p, t.port p = (s.port p).moved w
  isolating : ∀ run, s.tsq.running = some run → Aborts w run → run.st = .isolating →
    t.tsq.running = some (restoringRun { run with abort := some .supply }) ∧ (t.port run.req.port).testClosed = false ∧
      ∀ p, p ≠ run.req.port → t.port p = (s.port p).moved w
  measuring : ∀ run, s.tsq.running = some run → Aborts w run → run.st = .measuring →
    t.msu.run = .none ∧ t.msu.drive = .off ∧ (t.port run.req.port).testClosed = false ∧
      (∀ p, p ≠ run.req.port → t.port p = (s.port p).moved w) ∧
      ∃ run', t.tsq.running = some run' ∧ run'.st = .restoring ∧ run'.abort = some .supply ∧
        run'.outcome = some .aborted ∧ run'.req = run.req
  claiming : ∀ run, s.tsq.running = some run → Aborts w run → run.st = .claiming → run.outcome = none →
    t.tsq.running = none ∧ tget t.tsq.results run.req.port = some
      { seq := run.seq, kind := run.req.kind, origin := run.req.origin, outcome := .aborted, cause := some .supply,
        parts := run.parts }

theorem SupplyMoved.congr {w : Supply} {s r t u : State} (h : SupplyMoved w s t) (hsource : r.ports = s.ports ∧ r.tsq = s.tsq)
    (hflag : u.flagSet .supplyChange = t.flagSet .supplyChange) (htsq : u.tsq = t.tsq) (hports : u.ports = t.ports)
    (hmsu : t.msu.run = .none → t.msu.drive = .off → u.msu.run = .none ∧ u.msu.drive = .off) : SupplyMoved w r u := by
  obtain ⟨flag, idle, stays, isolating, measuring, claiming⟩ := h
  obtain ⟨hrports, hrtsq⟩ := hsource
  simp only [State.port, ← hports, ← htsq, ← hrports, ← hrtsq] at *
  refine ⟨hflag.trans flag, idle, stays, isolating, fun run hr ha hm => ?_, claiming⟩
  obtain ⟨hrun, hdrive, hrest⟩ := measuring run hr ha hm
  exact ⟨(hmsu hrun hdrive).1, (hmsu hrun hdrive).2, hrest⟩

/-- The recomputed card where the cabinet supply state changes. -/
theorem recomputeCabinet_moves {s : State} (h : worstSupply s ≠ s.smn.cabinet) :
    SupplyMoved (worstSupply s) s (recomputeCabinet s) := by
  have hflag := recomputeCabinet_flag h
  rw [recomputeCabinet_changed h] at hflag ⊢
  generalize worstSupply s = w at *
  generalize hv : lsvSupply w (raiseNotice .supplyChange { s with smn := { s.smn with cabinet := w } }) = v at *
  have htsq : v.tsq = s.tsq := by simp [← hv]
  have hport : ∀ p, v.port p = (s.port p).moved w := fun p => by
    rw [← hv, (lsvSupply_moves _ _ _).1, State.port, raiseNotice_ports]
    rfl
  refine ⟨hflag, fun hnone => ?_, fun run hrun hkeep => ?_, fun run hrun ha hst => ?_, fun run hrun ha hst => ?_,
    fun run hrun ha hst hout => ?_⟩
  · have hkeep : supplyAborts w v = v := by simp [supplyAborts, htsq, hnone]
    rw [hkeep, htsq]
    exact ⟨hnone, hport⟩
  all_goals
    have hvrun : v.tsq.running = some run := htsq ▸ hrun
    obtain ⟨haborts, hstays⟩ := supplyAborts_cases (w := w) hvrun
  · have hkeep : supplyAborts w v = v := by
      obtain hno | hst := hkeep
      · exact hstays hno
      · by_cases ha : Aborts w run
        · rw [haborts ha, abortTest_restoring hvrun hst]
        · exact hstays ha
    rw [hkeep]
    exact ⟨hvrun, hport⟩
  · rw [haborts ha, abortTest_isolating hvrun hst]
    refine ⟨rfl, ?_, fun p hp => ?_⟩
    · rw [setRunning_port, openTest, modPort_port_self]
    · rw [setRunning_port, openTest, modPort_port_ne _ _ hp.symm, hport]
  · rw [haborts ha, abortTest_measuring hvrun hst]
    have hstopped : ∀ q, (stopStage v).port q = v.port q := fun q => by simp [State.port]
    refine ⟨?_, ?_, ?_, fun p hp => ?_, _, rfl, rfl, rfl, ?_, ?_⟩
    · exact stopStage_run v
    · exact stopStage_drive v
    · rw [setRunning_port, openTest, modPort_port_self]
    · rw [setRunning_port, openTest, modPort_port_ne _ _ hp.symm, hstopped, hport]
    · simp [restoringRun]
    · exact (withToneMinutes_req_st v.msu.run run).1
  · rw [haborts ha, abortTest_claiming hvrun hst, endTest_tsq rfl]
    refine ⟨rfl, (tget_tset_self _ _ _).trans ?_⟩
    simp [recordOf, hout, decideOutcome]

/-- Where the event recomputes the cabinet supply state of a card like its own, its step moves the ports so. -/
theorem settle_supplyMoved {s r t : State} (hquiet : Quiet t) (hcabinet : t.smn.cabinet = worstSupply r)
    (hsame : r.ports = s.ports ∧ r.tsq = s.tsq ∧ r.smn.cabinet = s.smn.cabinet)
    (hflag : t.flagSet .supplyChange = (recomputeCabinet r).flagSet .supplyChange)
    (htsq : t.tsq = (recomputeCabinet r).tsq) (hports : t.ports = (recomputeCabinet r).ports)
    (hmsu : (recomputeCabinet r).msu.run = .none → (recomputeCabinet r).msu.drive = .off →
      t.msu.run = .none ∧ t.msu.drive = .off)
    (hchanged : (settle t).smn.cabinet ≠ s.smn.cabinet) : SupplyMoved (settle t).smn.cabinet s (settle t) := by
  obtain ⟨hsports, hstsq, hscabinet⟩ := hsame
  rw [hquiet.settle_smn, hcabinet] at hchanged ⊢
  refine (recomputeCabinet_moves (hscabinet ▸ hchanged)).congr ⟨hsports.symm, hstsq.symm⟩ ?_
    (hquiet.settle_tsq.trans htsq) (hquiet.settle_ports.trans hports) (hquiet.settle_msu ▸ hmsu)
  rw [← hflag, State.flagSet, hquiet.settle_flags, State.flagSet]

theorem releaseSupply_silent {s : State} (hrun : s.msu.run = .none) (hdrive : s.msu.drive = .off) :
    (releaseSupply s).msu.run = .none ∧ (releaseSupply s).msu.drive = .off := by
  unfold releaseSupply grantConverter atGrant
  repeat' split
  all_goals simp_all

theorem sample_moves {s : State} (code : Nat) (hu : Unburdened s)
    (hchanged : (settle (supplySampled code s)).smn.cabinet ≠ s.smn.cabinet) :
    SupplyMoved (settle (supplySampled code s)).smn.cabinet s (settle (supplySampled code s)) := by
  have hquiet : Quiet (supplySampled code s) := hu.quiet_of_work (supplySampled_work code s)
  by_cases htaken : s.msu.holder = .supply ∧ s.candidate code ≠ s.smn.own ∧ s.smn.differing ≠ 0
  · obtain ⟨hholder, hcand, hdiffering⟩ := htaken
    obtain ⟨t, rfl, hsmn, hports, htsq, hflags, u, humsu, hu⟩ := supplySampled_taken_spec hholder hcand hdiffering
    refine settle_supplyMoved (r := { s with smn := { s.smn with own := s.candidate code, differing := 0 } }) hquiet
      ?_ ⟨rfl, rfl, rfl⟩ (hflags _) htsq hports (fun hrun hdrive => ?_) hchanged
    · rw [hsmn]
      exact (worstSupply_congr rfl rfl rfl).symm
    · rw [hu]
      exact releaseSupply_silent (humsu ▸ hrun) (humsu ▸ hdrive)
  · refine absurd ?_ hchanged
    rw [hquiet.settle_smn]
    by_cases hholder : s.msu.holder = .supply
    · have hkept : (twoSample s.smn.own s.smn.differing (s.candidate code)).1 = s.smn.own := by
        unfold twoSample
        by_cases hcand : s.candidate code = s.smn.own
        · rw [if_pos hcand]
        · have hfirst : s.smn.differing = 0 := by
            by_contra hdiffering
            exact htaken ⟨hholder, hcand, hdiffering⟩
          rw [if_neg hcand, if_pos hfirst]
      rw [supplySampled_kept hholder hkept, releaseSupply_smn]
    · rw [supplySampled, if_neg hholder]

theorem countCard_work (c : CardCounter) (s : State) : (countCard c s).work = s.work := by
  obtain ⟨_, _, _, h⟩ := countCard_fst c s
  simp [State.work, h]

/-- The card with an ADVERT's entry and its counts taken, before the cabinet supply state follows (R71). -/
def advertCounted (y : StationId) (e : Peer) (s : State) : State :=
  countCard .advertsHeard (setPeer y e (if sequenceGap (s.peer y) e.lastSeq then countCard .advertGaps s else s))

theorem advertCounted_spec (y : StationId) (e : Peer) (s : State) :
    let r := advertCounted y e s
    r.work = s.work ∧ r.ports = s.ports ∧ r.tsq = s.tsq ∧ r.smn.cabinet = s.smn.cabinet := by
  unfold advertCounted
  split <;> simp [setPeer, State.work]

theorem takeAdvert_eq (y : StationId) (e : Peer) (s : State) :
    takeAdvert y e s = if s.joined then recomputeCabinet (advertCounted y e s) else s := rfl

theorem advert_moves {s : State} (y : StationId) (e : Peer) (hu : Unburdened s)
    (hchanged : (settle (takeAdvert y e s)).smn.cabinet ≠ s.smn.cabinet) :
    SupplyMoved (settle (takeAdvert y e s)).smn.cabinet s (settle (takeAdvert y e s)) := by
  rw [takeAdvert_eq] at hchanged ⊢
  by_cases hjoined : s.joined = true
  · rw [if_pos hjoined] at hchanged ⊢
    obtain ⟨hwork, hports, htsq, hcabinet⟩ := advertCounted_spec y e s
    generalize advertCounted y e s = r at *
    have hquiet : Quiet (recomputeCabinet r) := hu.quiet_of_work ((recomputeCabinet_work r).trans hwork)
    refine settle_supplyMoved (r := r) hquiet ?_ ⟨hports, htsq, hcabinet⟩ rfl rfl rfl And.intro hchanged
    rw [recomputeCabinet_smn]
  · rw [if_neg hjoined, hu.quiet.settle_smn] at hchanged
    exact absurd rfl hchanged

theorem ownSource_moves {s : State} (hu : Unburdened s)
    (hchanged : (settle (ownSource s)).smn.cabinet ≠ s.smn.cabinet) : False := by
  have hwork : (ownSource s).work = s.work := (raiseNotice_work _ _).trans (countCard_work _ _)
  rw [(hu.quiet_of_work hwork).settle_smn] at hchanged
  exact hchanged (by simp [ownSource])

/-- Settles O36: the moves port by port, and the recomputed card at a sample and at an ADVERT. -/
theorem supplyChangeMovesPorts : Obligations.SupplyChangeMovesPorts := by
  unfold Obligations.SupplyChangeMovesPorts
  refine ⟨fun s p => ?_, fun s new p => ?_, fun s i hu hi => ?_⟩
  · simp only [(lsvSupply_moves _ s p).1]
    generalize s.port p = r
    refine ⟨r.shedLow_spec, fun hpriority => ?_, fun hpriority => ?_, fun new hnew => ?_⟩
    · have hmoved : r.moved .critical = r.shedLow := if_pos hpriority
      rw [hmoved]
      exact r.shedLow_spec
    · exact Port.shedCritical_spec hpriority
    · exact Port.returned_spec hnew
  · obtain ⟨hport, hcount⟩ := lsvSupply_moves new s p
    rw [hport, hcount]
  · have hmoves : ∃ t, exec i s = .next t ∧
        (t.smn.cabinet ≠ s.smn.cabinet → SupplyMoved t.smn.cabinet s t) := by
      obtain ⟨code, rfl⟩ | ⟨y, d, w, x, j, q, rfl⟩ := hi
      · exact ⟨_, rfl, sample_moves _ hu⟩
      · by_cases hy : y = s.stc.station
        · subst hy
          refine ⟨settle (ownSource s), ?_, fun h => (ownSource_moves hu h).elim⟩
          show heard _ s = _
          rw [heard_running hu.1, event, if_pos rfl]
        · exact ⟨_, exec_advertReceived d w x j q hu.1 hy, advert_moves y _ hu⟩
    obtain ⟨t, hexec, hmoves⟩ := hmoves
    refine ⟨t, hexec, fun hchanged => ?_⟩
    obtain ⟨flag, idle, stays, isolating, measuring, claiming⟩ := hmoves hchanged
    have hport : ∀ p, (lsvSupply t.smn.cabinet s).port p = (s.port p).moved t.smn.cabinet := fun p =>
      (lsvSupply_moves _ s p).1
    have hports : (∀ p, t.port p = (s.port p).moved t.smn.cabinet) → t.ports = (lsvSupply t.smn.cabinet s).ports :=
      fun h => ports_ext fun p => (h p).trans (hport p).symm
    simp only [hport]
    refine ⟨flag, fun hnone => (idle hnone).imp_right hports, fun run hrun =>
      ⟨fun hk => (stays run hrun hk).imp_right hports, isolating run hrun, measuring run hrun, claiming run hrun⟩⟩

end Sys2Proof.Machine
end

section
/-! SUPPORT. Proofs about the dead times and the end of a test (R111, R119, R121, R126 to R128). -/

namespace Sys2Proof.Machine

/-! ## The claim given up (R111) -/

section
variable {s : State}

theorem giveUpClaim_held {b : BinderId} (h : s.clt.own = some (b, .held)) :
    giveUpClaim s = setClaim b ClaimEntry.vacant (placeRelease b false (setOwnClaim none s)) := by
  simp only [giveUpClaim, h]

theorem giveUpClaim_lost {b : BinderId} (h : s.clt.own = some (b, .lost)) :
    giveUpClaim s = placeRelease b false (setOwnClaim none s) := by
  simp only [giveUpClaim, h]

/-- The release of an entry moves HOLD ports alone (R33). -/
theorem setClaim_vacant_port_eq {q : PortId} (hq : (s.port q).lineState ≠ .hold) (b : BinderId) :
    (setClaim b ClaimEntry.vacant s).port q = s.port q := by
  by_cases hphase : (s.claim b).phase = .free
  · have hfree : s.claimed b = false := by simp [claimed_eq_phase, hphase]
    have ht : ({ s with clt := { s.clt with entries := tset s.clt.entries b ClaimEntry.vacant } } : State).claimed b = false :=
      by simp [State.claimed, ClaimEntry.vacant]
    simp only [setClaim, hfree, ht, Bool.false_eq_true, if_false]
    rfl
  · rw [setClaim_port_vacant hphase, freedRecord_other (.inr hq)]

theorem giveUpClaim_port_eq {q : PortId} (hq : (s.port q).lineState ≠ .hold) : (giveUpClaim s).port q = s.port q := by
  have hset (b : BinderId) (t : State) (ht : t.port q = s.port q) : (setClaim b ClaimEntry.vacant t).port q = s.port q :=
    (setClaim_vacant_port_eq (ht ▸ hq) b).trans ht
  unfold giveUpClaim
  split
  · rfl
  · split <;> exact hset _ _ rfl
  · exact hset _ _ rfl
  · exact hset _ _ rfl
  · rfl

/-- The card with the claim of an ended LINE_CHECK given up (R111, R128). -/
def claimGiven (run : Running) (s : State) : State := if run.req.kind = .lineCheck then giveUpClaim s else s

theorem claimGiven_tsq (run : Running) (s : State) : (claimGiven run s).tsq = s.tsq := by
  unfold claimGiven
  split <;> simp

theorem claimGiven_msu (run : Running) (s : State) : (claimGiven run s).msu = s.msu := by
  unfold claimGiven
  split <;> simp

theorem claimGiven_smn (run : Running) (s : State) : (claimGiven run s).smn = s.smn := by
  unfold claimGiven
  split <;> simp

theorem claimGiven_other {run : Running} (h : run.req.kind ≠ .lineCheck) (s : State) : claimGiven run s = s := if_neg h

theorem claimGiven_held {run : Running} {b : BinderId} (hkind : run.req.kind = .lineCheck)
    (hown : s.clt.own = some (b, .held)) :
    claimGiven run s = setClaim b ClaimEntry.vacant (placeRelease b false (setOwnClaim none s)) := by
  rw [claimGiven, if_pos hkind, giveUpClaim_held hown]

theorem claimGiven_lost {run : Running} {b : BinderId} (hkind : run.req.kind = .lineCheck)
    (hown : s.clt.own = some (b, .lost)) : claimGiven run s = placeRelease b false (setOwnClaim none s) := by
  rw [claimGiven, if_pos hkind, giveUpClaim_lost hown]

theorem claimGiven_held_port {run : Running} {b : BinderId} (hkind : run.req.kind = .lineCheck)
    (hown : s.clt.own = some (b, .held)) (hphase : (s.claim b).phase ≠ .free) (q : PortId) :
    (claimGiven run s).port q = freedRecord b (s.port q) := by
  rw [claimGiven_held hkind hown, setClaim_port_vacant]
  · rfl
  · exact hphase

theorem claimGiven_port_eq {run : Running} {q : PortId} (hq : (s.port q).lineState ≠ .hold) :
    (claimGiven run s).port q = s.port q := by
  unfold claimGiven
  split
  · exact giveUpClaim_port_eq hq
  · rfl

end

/-! ## Where the port goes (R12, R128) -/

/-- The record of a port at the end of its test (R128). -/
def Port.afterTest (cabinet : Supply) (faulted : Bool) (r : Port) : Port :=
  if faulted then r.to .faulted false
  else if r.admin then r.to (waitTarget cabinet r.priority).1 (waitTarget cabinet r.priority).2
  else r.to .disabled false

/-- Whether a test leaves its port FAULTED (R19, R128). -/
def leavesFaulted (run : Running) (o : TestOutcome) : Bool := o == .hazard || staysFaulted run

theorem portAfterTest_port {s : State} {run : Running} (o : TestOutcome) (h : (s.port run.req.port).lineState = .testing) :
    (portAfterTest run o s).port run.req.port =
      (s.port run.req.port).afterTest s.smn.cabinet (leavesFaulted run o) := by
  simp only [portAfterTest, if_pos h, Port.afterTest, leavesFaulted, Bool.or_eq_true, beq_iff_eq]
  split
  · exact changeState_port_self ..
  · split
    · exact changeState_port_self ..
    · exact changeState_port_self ..

theorem portAfterTest_port_ne (run : Running) (o : TestOutcome) (s : State) {q : PortId} (hq : q ≠ run.req.port) :
    (portAfterTest run o s).port q = s.port q := by
  obtain ⟨-, h⟩ | ⟨-, ns, w, -, -, h⟩ := portAfterTest_cases run o s <;> rw [h]
  exact changeState_others _ _ _ _ _ _ hq.symm

/-- What a change of line state leaves of a record beside the fields that it writes. -/
theorem Port.to_keeps (ns : LineState) (w : Bool) (r : Port) :
    (r.to ns w).loopEst = r.loopEst ∧ (r.to ns w).testCeiling = r.testCeiling ∧
      (r.to ns w).serviceClosed = r.serviceClosed ∧ (r.to ns w).testClosed = r.testClosed := by
  obtain ⟨hservice, htest⟩ := Port.change_relays ns w false r
  have hleave : (r.leave ns false).loopEst = r.loopEst ∧ (r.leave ns false).testCeiling = r.testCeiling := by
    unfold Port.leave
    dsimp only
    split <;> exact ⟨rfl, rfl⟩
  have hpower (m : PowerMode) (r : Port) :
      (r.powerTo m).loopEst = r.loopEst ∧ (r.powerTo m).testCeiling = r.testCeiling := by
    unfold Port.powerTo
    dsimp only
    repeat' split
    all_goals exact ⟨rfl, rfl⟩
  have henter (r : Port) : (r.enter ns w).loopEst = r.loopEst ∧ (r.enter ns w).testCeiling = r.testCeiling := by
    unfold Port.enter
    simp only [hpower]
    cases ns <;> exact ⟨rfl, rfl⟩
  obtain ⟨hloop, hceiling⟩ := henter (r.leave ns false)
  exact ⟨hloop.trans hleave.1, hceiling.trans hleave.2, hservice, htest⟩

theorem Port.afterTest_keeps (cabinet : Supply) (faulted : Bool) (r : Port) :
    let t := r.afterTest cabinet faulted
    t.loopEst = r.loopEst ∧ t.testCeiling = r.testCeiling ∧ t.serviceClosed = r.serviceClosed ∧ t.testClosed = r.testClosed := by
  unfold Port.afterTest
  split
  · exact Port.to_keeps ..
  · split <;> exact Port.to_keeps ..

/-- Where a port goes that is not to stay FAULTED (R12, R128). -/
theorem Port.afterTest_returns {cabinet : Supply} {r : Port} {admin priority : Bool} (hadmin : r.admin = admin)
    (hpriority : r.priority = priority) :
    let t := r.afterTest cabinet false
    (admin = false → t.lineState = .disabled) ∧
    (admin = true → cabinet = .mains ∨ cabinet = .battery → t.lineState = .waiting ∧ t.power = .on) ∧
    (admin = true → cabinet = .low ∨ (cabinet = .critical ∧ priority = true) →
      t.lineState = .shed ∧ t.wakeWatch = true ∧ t.power = .watch) ∧
    (admin = true → cabinet = .critical → priority = false →
      t.lineState = .shed ∧ t.wakeWatch = false ∧ t.power = .off) := by
  subst hadmin hpriority
  refine ⟨fun ha => ?_, fun ha hc => ?_, fun ha hc => ?_, fun ha hc hpriority => ?_⟩
  · simp only [Port.afterTest, ha, Bool.false_eq_true, if_false]
    exact Port.enter_lineState ..
  · have hto : r.afterTest cabinet false = r.to .waiting false := by
      obtain rfl | rfl := hc <;> simp [Port.afterTest, ha, waitTarget]
    rw [hto]
    exact ⟨Port.enter_lineState .., Port.enter_power ..⟩
  · have hto : r.afterTest cabinet false = r.to .shed true := by
      obtain rfl | ⟨rfl, hp⟩ := hc
      · simp [Port.afterTest, ha, waitTarget]
      · simp [Port.afterTest, ha, waitTarget, hp]
    rw [hto]
    exact r.to_shed true
  · have hto : r.afterTest cabinet false = r.to .shed false := by
      simp [Port.afterTest, ha, waitTarget, hc, hpriority]
    rw [hto]
    exact r.to_shed false

theorem Port.learn_keeps (parts : Parts) (r : Port) :
    (r.learn parts).lineState = r.lineState ∧ (r.learn parts).admin = r.admin ∧ (r.learn parts).priority = r.priority ∧
      (r.learn parts).serviceClosed = r.serviceClosed ∧ (r.learn parts).testClosed = r.testClosed := by
  unfold Port.learn
  dsimp only
  split <;> split <;> exact ⟨rfl, rfl, rfl, rfl, rfl⟩

theorem Port.learn_loopEst_measured {parts : Parts} {nf m : Nat} (h : parts.cap = some (.measured nf m)) (r : Port) :
    (r.learn parts).loopEst = some m := by
  simp only [Port.learn, h]
  split <;> rfl

theorem Port.learn_loopEst_same {parts : Parts} (h : ∀ nf m, parts.cap ≠ some (.measured nf m)) (r : Port) :
    (r.learn parts).loopEst = r.loopEst := by
  obtain ⟨fv, ins, cap, refl, noise, tone⟩ := parts
  have hcap : Port.learn { fv, ins, cap, refl, noise, tone } r = Port.learn { fv, ins, cap := none, refl, noise, tone } r := by
    obtain _ | (⟨nf, m⟩ | _) := cap
    · rfl
    · exact absurd rfl (h nf m)
    · rfl
  rw [hcap]
  cases noise <;> rfl

theorem Port.learn_testCeiling_noise {parts : Parts} {n : NoisePart} (h : parts.noise = some n) (r : Port) :
    (r.learn parts).testCeiling = if n.noisy = true then 1 else 0 := by
  simp only [Port.learn, h]

theorem Port.learn_testCeiling_same {parts : Parts} (h : parts.noise = none) (r : Port) :
    (r.learn parts).testCeiling = r.testCeiling := by
  simp only [Port.learn, h]
  split <;> rfl

/-! ## What an offer keeps (R157) -/

theorem offered_port (s : State) (q : PortId) : (offered s).port q = s.port q := by
  obtain ⟨_, _, _, _, _, h⟩ := offered_eq s
  rw [h]
  rfl

theorem offered_keeps (s : State) : (offered s).tsq = s.tsq ∧ (offered s).clt = s.clt ∧ (offered s).bau = s.bau ∧
    (offered s).msu = s.msu ∧ ∀ c, (offered s).flagSet c = s.flagSet c := by
  obtain ⟨_, _, _, _, _, h⟩ := offered_eq s
  rw [h]
  exact ⟨rfl, rfl, rfl, rfl, fun _ => rfl⟩

/-! ## The end of a test (R127, R128) -/

section
variable {s : State} {run : Running}

/-- The outcome under which a test ends (R126). -/
def endOutcome (run : Running) : TestOutcome := run.outcome.getD (decideOutcome run)

/-- The card as the port moves at the end of its test: the claim given up, the record stored, the port's figures written and
the notices raised (R128). -/
def endNoticed (run : Running) (s : State) : State :=
  let t := claimGiven run s
  noticesOfEnd (endOutcome run)
    (({ t with tsq := { t.tsq with
      results := tset t.tsq.results run.req.port (some (recordOf run (endOutcome run))) } } : State).modPort run.req.port
        (Port.learn run.parts))

theorem endTest_eq (h : s.tsq.running = some run) :
    endTest s =
      let t := portAfterTest run (endOutcome run) (endNoticed run s)
      setRunning none { t with msu := { t.msu with hazardArmed := false } } := by
  simp only [endTest, h]
  rfl

theorem endNoticed_port (q : PortId) : (endNoticed run s).port q =
    if q = run.req.port then ((claimGiven run s).port q).learn run.parts else (claimGiven run s).port q := by
  have hports : ∀ t : State, (noticesOfEnd (endOutcome run) t).port q = t.port q := fun t => by
    rw [State.port, noticesOfEnd_ports, State.port]
  rw [endNoticed, hports]
  split
  · next hq => subst hq; exact modPort_port_self _ _ _
  · next hq => exact modPort_port_ne _ _ (Ne.symm hq)

theorem endTest_port_ne (h : s.tsq.running = some run) {q : PortId} (hq : q ≠ run.req.port) :
    (endTest s).port q = (claimGiven run s).port q := by
  rw [endTest_eq h]
  refine (portAfterTest_port_ne _ _ _ hq).trans ?_
  rw [endNoticed_port, if_neg hq]

theorem endTest_port (h : s.tsq.running = some run) (htesting : (s.port run.req.port).lineState = .testing) :
    (endTest s).port run.req.port =
      ((s.port run.req.port).learn run.parts).afterTest s.smn.cabinet (leavesFaulted run (endOutcome run)) := by
  have hgiven : (claimGiven run s).port run.req.port = s.port run.req.port := claimGiven_port_eq (by simp [htesting])
  have hport : (endNoticed run s).port run.req.port = (s.port run.req.port).learn run.parts := by
    rw [endNoticed_port, if_pos rfl, hgiven]
  have hsmn : (endNoticed run s).smn = s.smn := by
    rw [endNoticed]
    cases endOutcome run <;> simp [noticesOfEnd, claimGiven_smn]
  rw [endTest_eq h]
  refine (portAfterTest_port _ ?_).trans ?_
  · rw [hport, (Port.learn_keeps _ _).1, htesting]
  · rw [hport, hsmn]

theorem endTest_msu (h : s.tsq.running = some run) : (endTest s).msu = { s.msu with hazardArmed := false } := by
  rw [endTest_eq h]
  have hmsu : (endNoticed run s).msu = s.msu := by
    rw [endNoticed]
    cases endOutcome run <;> simp [noticesOfEnd, claimGiven_msu]
  simp [setRunning, hmsu]

theorem endTest_claims (h : s.tsq.running = some run) :
    (endTest s).clt = (claimGiven run s).clt ∧ (endTest s).bau = (claimGiven run s).bau := by
  rw [endTest_eq h]
  have hclaims : (endNoticed run s).clt = (claimGiven run s).clt ∧ (endNoticed run s).bau = (claimGiven run s).bau := by
    rw [endNoticed]
    cases endOutcome run <;> simp [noticesOfEnd]
  simpa [setRunning] using hclaims

theorem endTest_flags (h : s.tsq.running = some run) :
    (endTest s).flagSet .testDone = true ∧ (endOutcome run = .fault → (endTest s).flagSet .portFault = true) ∧
      (endOutcome run = .hazard → (endTest s).flagSet .hazard = true) := by
  rw [endTest_eq h]
  generalize hu : endNoticed run s = u
  have hflags : u.flagSet .testDone = true ∧ (endOutcome run = .fault → u.flagSet .portFault = true) ∧
      (endOutcome run = .hazard → u.flagSet .hazard = true) := by
    rw [← hu, endNoticed]
    cases endOutcome run <;> simp [noticesOfEnd, raiseNotice_flagSet]
  have hrise : FlagsRise u (portAfterTest run (endOutcome run) u) := .portAfterTest ..
  obtain ⟨hdone, hfault, hhazard⟩ := hflags
  exact ⟨hrise.flag _ hdone, fun ho => hrise.flag _ (hfault ho), fun ho => hrise.flag _ (hhazard ho)⟩

end

/-! ## The dead times (R119, R121) -/

section
variable {s : State} {run : Running}

theorem exec_isolatingDeadTimeExpiry (above : Bool) (s : State) :
    exec (.isolatingDeadTimeExpiry above) s = event (isolatingExpires above) s := rfl

theorem exec_restoringDeadTimeExpiry (s : State) : exec .restoringDeadTimeExpiry s = event restoringExpires s := rfl

/-- The close command of a test relay is carried out (R5). -/
theorem closeTest_closes {p : PortId} (hservice : (s.port p).serviceClosed = false)
    (hothers : ∀ q, q ≠ p → (s.port q).testClosed = false) :
    closeTest p s = s.setPort p { s.port p with testClosed := true } := by
  refine if_neg ?_
  simp only [hservice, Bool.false_or, List.any_eq_true, not_exists, not_and]
  intro q _ hq
  simp only [Bool.and_eq_true, bne_iff_ne] at hq
  simp [hothers q hq.1] at hq

/-- The card as the test relay is commanded closed, the watch armed and a stage about to start (R119). -/
def stageEntered (run : Running) (st : Stage) (s : State) : State :=
  let t := setRunning (some { run with st := .measuring, deadTimer := false, stage := some st }) (closeTest run.req.port s)
  { t with msu := { t.msu with hazardArmed := true } }

theorem isolatingExpires_starts (above : Bool) (h : s.tsq.running = some run) (hst : run.st = .isolating)
    (htimer : run.deadTimer = true) {st : Stage} {rest : List Stage} (hstages : stagesOf run.req.kind = st :: rest) :
    isolatingExpires above s =
      reportIfAbove above (grantConverter (startStage st run.req.tone (stageEntered run st s))) := by
  simp only [isolatingExpires, h, hst, htimer, hstages, and_self, if_true]
  rfl

theorem stagesOf_of_ne_tone {k : TestKind} (h : k ≠ .tone) : ∃ rest, stagesOf k = .foreignVoltage :: rest := by
  cases k
  case tone => exact absurd rfl h
  all_goals exact ⟨_, rfl⟩

/-- RESTORING's dead time ends with the service relay's command and the test's end (R121, R128). -/
theorem restoringExpires_ends (h : s.tsq.running = some run) (hst : run.st = .restoring) (htimer : run.deadTimer = true) :
    restoringExpires s =
      let t := setRunning (some { run with deadTimer := false }) s
      endTest (if staysFaulted run then t else closeService run.req.port t) := by
  simp only [restoringExpires, h, hst, htimer, and_self, if_true]

end

section
variable {s : State} {run : Running}

/-- The card as a test ends in RESTORING: its dead time over, and the service relay commanded closed but where the port is to
stay FAULTED (R121). -/
def restored (run : Running) (s : State) : State :=
  let t := setRunning (some { run with deadTimer := false }) s
  if staysFaulted run then t else closeService run.req.port t

theorem restored_work (run : Running) (s : State) : (restored run s).work = s.work := by
  unfold restored
  dsimp only
  split <;> simp

theorem restored_spec (htest : (s.port run.req.port).testClosed = false) :
    let v := restored run s
    v.tsq.running = some { run with deadTimer := false } ∧ v.tsq.results = s.tsq.results ∧ v.clt = s.clt ∧ v.bau = s.bau ∧
      v.smn = s.smn ∧
      v.port run.req.port =
        (if staysFaulted run = true then s.port run.req.port else { s.port run.req.port with serviceClosed := true }) ∧
      ∀ q, q ≠ run.req.port → v.port q = s.port q := by
  have hcloses : ∀ t : State, t.port run.req.port = s.port run.req.port → closeService run.req.port t =
      t.setPort run.req.port { s.port run.req.port with serviceClosed := true } := fun t ht => by
    simp [closeService, ht, htest, State.modPort]
  unfold restored
  dsimp only
  split
  · exact ⟨rfl, rfl, rfl, rfl, rfl, rfl, fun _ _ => rfl⟩
  · rw [hcloses (setRunning (some { run with deadTimer := false }) s) rfl]
    refine ⟨rfl, rfl, rfl, rfl, rfl, setPort_port_self .., fun q hq => setPort_port_ne _ _ hq.symm⟩

end

/-- Settles O37: the first stage's start, and the end of the test. -/
theorem deadTimesMoveTheTest : Obligations.DeadTimesMoveTheTest := by
  unfold Obligations.DeadTimesMoveTheTest
  intro s run hu hrun htimer p
  refine ⟨fun hst hservice hothers hholder hstage => ⟨fun hkind => ?_, fun spec hkind hspec => ?_⟩,
    ?_⟩
  · obtain ⟨rest, hstages⟩ := stagesOf_of_ne_tone hkind
    refine event_whole (f := isolatingExpires false) ((isolatingExpires_starts false hrun hst htimer hstages).trans ?_) hu
    have hclosed := closeTest_closes hservice hothers
    obtain hsupply | ⟨hnone, hwaiting⟩ := hholder
    · simp [reportIfAbove, stageEntered, hclosed, startStage, grantConverter, setRunning, State.setPort, p, hsupply]
    · simp [reportIfAbove, stageEntered, hclosed, startStage, grantConverter, setRunning, State.setPort, p, hnone, hwaiting,
        atGrant]
  · have hstages : stagesOf run.req.kind = [.tone] := by rw [hkind]; rfl
    refine event_whole (f := isolatingExpires false) ((isolatingExpires_starts false hrun hst htimer hstages).trans ?_) hu
    have hclosed := closeTest_closes hservice hothers
    obtain hsupply | ⟨hnone, hwaiting⟩ := hholder
    · simp [reportIfAbove, stageEntered, hclosed, startStage, hspec, grantConverter, setRunning, State.setPort, p, hsupply]
    · simp [reportIfAbove, stageEntered, hclosed, startStage, hspec, grantConverter, setRunning, State.setPort, p, hnone,
        hwaiting, hstage]
  · intro o hst hout hhazard hline htest held lost hclaim
    obtain ⟨hvrun, hvresults, hvclt, hvbau, hvsmn, hvself, hvothers⟩ := restored_spec (run := run) htest
    have hends : restoringExpires s = endTest (restored run s) := restoringExpires_ends hrun hst htimer
    have hquiet : Quiet (restoringExpires s) := hu.quiet_of_work (by rw [hends, endTest_work, restored_work])
    generalize restored run s = v at *
    have hvline : (v.port p).lineState = .testing := by
      rw [hvself]
      split <;> exact hline
    have hout' : endOutcome { run with deadTimer := false } = o := by simp [endOutcome, hout]
    obtain ⟨hdone, hfault, -⟩ := endTest_flags hvrun
    have hclaims := endTest_claims hvrun
    obtain ⟨hclt, hbau⟩ : (endTest v).clt = (claimGiven run v).clt ∧ (endTest v).bau = (claimGiven run v).bau := hclaims
    have htsq := endTest_tsq hvrun
    have hself := endTest_port hvrun hvline
    have hothers : ∀ q, q ≠ p → (endTest v).port q = (claimGiven run v).port q :=
      fun q hq => (endTest_port_ne hvrun hq).trans rfl
    have hmsu := endTest_msu hvrun
    have hports : ∀ q, (offered (endTest v)).port q = (endTest v).port q := offered_port _
    obtain ⟨hutsq, huclt, hubau, humsu, huflags⟩ := offered_keeps (endTest v)
    refine ⟨offered (endTest v), by rw [exec_restoringDeadTimeExpiry, hquiet.event_eq, hends], ?_⟩
    generalize offered (endTest v) = u at *
    generalize endTest v = e at *
    have huclaim : ∀ c, u.claim c = (claimGiven run v).claim c := fun c => by rw [State.claim, huclt, hclt, State.claim]
    simp only [huclaim]
    rw [hutsq, htsq, humsu, hmsu, huflags, huflags, huclt, hubau, hclt, hbau]
    refine ⟨rfl, rfl, hdone, fun ho => hfault (hout'.trans ho), ?_, fun q hq => ?_, fun hkind => ?_, ?_, ?_, fun q hq => ?_, ?_⟩
    · exact (tget_tset_self _ _ _).trans (by rw [← endOutcome, hout']; rfl)
    · rw [← hvresults]
      exact tget_tset_ne _ _ hq.symm
    · rw [claimGiven_other hkind, hvclt, hvbau]
      exact ⟨rfl, rfl⟩
    · rintro b ⟨hkind, hown⟩
      rw [claimGiven_held hkind (hvclt ▸ hown)]
      refine ⟨?_, ?_, setClaim_claim_self _ _ _, fun c hc => (setClaim_claim_ne _ _ hc.symm).trans ?_⟩
      · simp [placeRelease, setOwnClaim, State.modCtrl]
      · simp [placeRelease, setOwnClaim, State.modCtrl, hvbau]
      · rw [State.claim, State.claim, ← hvclt]
        rfl
    · rintro b ⟨hkind, hown⟩
      rw [claimGiven_lost hkind (hvclt ▸ hown), ← hvclt, ← hvbau]
      exact ⟨rfl, rfl⟩
    · rw [hports, hothers q hq]
      obtain hkind | ⟨b, ⟨hkind, hown⟩, hphase⟩ | ⟨b, hkind, hown⟩ := hclaim
      · rw [claimGiven_other hkind, hvothers q hq]
        exact ⟨fun hheld => absurd hheld.1 hkind, fun _ => rfl⟩
      · rw [claimGiven_held_port hkind (hvclt ▸ hown) (by rwa [State.claim, hvclt]), hvothers q hq]
        have hbinder : held (s.port q).binder ↔ (s.port q).binder = b := by
          simp [held, hkind, hown, eq_comm]
        rw [hbinder]
        refine ⟨fun hb hl => ?_, fun hother => freedRecord_other hother⟩
        rw [freedRecord_hold hb hl]
        exact ⟨rfl, rfl⟩
      · rw [claimGiven_lost hkind (hvclt ▸ hown)]
        refine ⟨fun hheld => ?_, fun _ => hvothers q hq⟩
        have := hown.symm.trans hheld.2
        simp at this
    · have hfaulted : leavesFaulted { run with deadTimer := false } o = staysFaulted run := by
        simp [leavesFaulted, hhazard, staysFaulted]
      rw [hports, hself, hout', hfaulted, hvsmn]
      obtain ⟨hloop, hceiling, hservice, -⟩ :=
        Port.afterTest_keeps s.smn.cabinet (staysFaulted run) ((v.port p).learn run.parts)
      obtain ⟨-, hadmin, hpriority, hlservice, -⟩ := Port.learn_keeps run.parts (v.port p)
      have hvfields : (v.port p).loopEst = (s.port p).loopEst ∧ (v.port p).testCeiling = (s.port p).testCeiling ∧
          (v.port p).admin = (s.port p).admin ∧ (v.port p).priority = (s.port p).priority := by
        rw [hvself]
        split <;> exact ⟨rfl, rfl, rfl, rfl⟩
      obtain ⟨hvloop, hvceiling, hvadmin, hvpriority⟩ := hvfields
      rw [hvadmin] at hadmin
      rw [hvpriority] at hpriority
      rw [hloop, hceiling, hservice, hlservice]
      refine ⟨fun nf m h => Port.learn_loopEst_measured h _, fun h => (Port.learn_loopEst_same h _).trans hvloop,
        fun n h => Port.learn_testCeiling_noise h _, fun h => (Port.learn_testCeiling_same h _).trans hvceiling,
        fun hfree => ?_, fun hfrom hfv => ?_⟩
      · have hstays : staysFaulted run = false := by
          obtain h | h := hfree
          · simp [staysFaulted, h]
          · simp [staysFaulted, Option.isSome_iff_ne_none.2 h]
        have hclosed : (v.port p).serviceClosed = true := by rw [hvself, if_neg (by simp [hstays])]
        rw [hstays]
        exact ⟨hclosed, Port.afterTest_returns hadmin hpriority⟩
      · have hstays : staysFaulted run = true := by simp [staysFaulted, hfrom, hfv]
        have hopen : (v.port p).serviceClosed = (s.port p).serviceClosed := by rw [hvself, if_pos hstays]
        rw [hstays]
        refine ⟨?_, hopen⟩
        rw [Port.afterTest, if_pos rfl]
        exact Port.enter_lineState ..

end Sys2Proof.Machine
end

section
/-! SUPPORT. Proofs about the hazard shutdown (R19, R122, R126, R128, R134). -/

namespace Sys2Proof.Machine

theorem event_settle {f : State → State} {s t : State} (h : f s = t) : event f s = .next (settle t) := by
  rw [event, h]

/-! ## The hazard shutdown (R122) -/

/-- What a shutdown has done to the card whose test a hazard ends. -/
structure ShutDown (run : Running) (s t : State) : Prop where
  idle : t.tsq.running = none
  record : ∃ rec, tget t.tsq.results run.req.port = some rec ∧ rec.outcome = .hazard ∧ rec.seq = run.seq ∧ rec.cause = none
  flags : t.flagSet .hazard = true ∧ t.flagSet .testDone = true
  silent : t.msu.hazardArmed = false ∧ t.msu.drive = .off ∧ t.msu.run = .none ∧ t.msu.capRunning = false
  port : (t.port run.req.port).lineState = .faulted ∧ (t.port run.req.port).testClosed = false ∧
    (t.port run.req.port).power = .off ∧ (t.port run.req.port).serviceClosed = (s.port run.req.port).serviceClosed

theorem stopStage_capRunning (s : State) : (stopStage s).msu.capRunning = false := by
  unfold stopStage grantConverter atGrant
  repeat' split
  all_goals rfl

theorem withToneMinutes_seq (x : StageRun) (run : Running) : (withToneMinutes x run).seq = run.seq := by
  cases x <;> rfl

section
variable {s : State} {run : Running}

/-- The running test as a hazard ends it (R122). -/
def hazardRun (run : Running) (s : State) : Running :=
  { withToneMinutes s.msu.run run with deadTimer := false, outcome := some .hazard }

theorem hazardRun_req (run : Running) (s : State) : (hazardRun run s).req = run.req := (withToneMinutes_req_st _ _).1

theorem hazardShutdown_eq (h : s.tsq.running = some run) :
    hazardShutdown s = endTest (openTest run.req.port (setRunning (some (hazardRun run s)) (stopStage s))) := by
  simp only [hazardShutdown, h]
  rfl

/-- What a shutdown leaves, wherever the port stands (R122, R127). -/
theorem hazardShutdown_ends (h : s.tsq.running = some run) :
    let t := hazardShutdown s
    t.tsq.running = none ∧ tget t.tsq.results run.req.port = some (recordOf (hazardRun run s) .hazard) ∧
      (t.flagSet .hazard = true ∧ t.flagSet .testDone = true) ∧
      (t.msu.hazardArmed = false ∧ t.msu.drive = .off ∧ t.msu.run = .none ∧ t.msu.capRunning = false) ∧
      (t.port run.req.port).testClosed = false := by
  rw [hazardShutdown_eq h]
  generalize hv : openTest run.req.port (setRunning (some (hazardRun run s)) (stopStage s)) = v
  have hrun : v.tsq.running = some (hazardRun run s) := by rw [← hv]; rfl
  have hmsu : v.msu = (stopStage s).msu := by rw [← hv]; rfl
  have hopen : (v.port run.req.port).testClosed = false := by rw [← hv, openTest, modPort_port_self]
  obtain ⟨hdone, -, hhazard⟩ := endTest_flags hrun
  have hstopped : v.msu.run = .none := by rw [hmsu, stopStage_run]
  have hopens : Opens v (endTest v) := (Leads.endTest fun _ _ _ => hstopped).opens
  refine ⟨?_, ?_, ⟨hhazard rfl, hdone⟩, ?_, ?_⟩
  · rw [endTest_tsq hrun]
  · rw [endTest_tsq hrun, hazardRun_req]
    exact tget_tset_self _ _ _
  · rw [endTest_msu hrun, hmsu]
    exact ⟨rfl, stopStage_drive s, stopStage_run s, stopStage_capRunning s⟩
  · rw [← Bool.not_eq_true]
    exact fun hclosed => absurd (hopens.test _ hclosed) (by simp [hopen])

theorem hazardShutdown_port (h : s.tsq.running = some run) (hline : (s.port run.req.port).lineState = .testing) :
    (hazardShutdown s).port run.req.port =
      (Port.learn (hazardRun run s).parts { s.port run.req.port with testClosed := false }).to .faulted false := by
  rw [hazardShutdown_eq h]
  generalize hv : openTest run.req.port (setRunning (some (hazardRun run s)) (stopStage s)) = v
  have hreq := hazardRun_req run s
  have hrun : v.tsq.running = some (hazardRun run s) := by rw [← hv]; rfl
  have hport : v.port run.req.port = { s.port run.req.port with testClosed := false } := by
    rw [← hv, openTest, modPort_port_self, setRunning_port]
    simp [State.port]
  have hend := endTest_port hrun (by rw [hreq, hport, hline])
  have hfaulted : leavesFaulted (hazardRun run s) (endOutcome (hazardRun run s)) = true := rfl
  rwa [hfaulted, hreq, hport, Port.afterTest, if_pos rfl] at hend

theorem hazardShutdown_spec (h : s.tsq.running = some run) (hline : (s.port run.req.port).lineState = .testing) :
    ShutDown run s (hazardShutdown s) := by
  obtain ⟨hidle, hrecord, hflags, hsilent, hopen⟩ := hazardShutdown_ends h
  obtain ⟨-, -, -, hlservice, -⟩ := Port.learn_keeps (hazardRun run s).parts { s.port run.req.port with testClosed := false }
  obtain ⟨-, -, hservice, -⟩ := Port.to_keeps .faulted false
    (Port.learn (hazardRun run s).parts { s.port run.req.port with testClosed := false })
  refine ⟨hidle, ⟨_, hrecord, rfl, withToneMinutes_seq _ _, rfl⟩, hflags, hsilent, ?_, hopen, ?_, ?_⟩
  · rw [hazardShutdown_port h hline]
    exact Port.enter_lineState ..
  · rw [hazardShutdown_port h hline]
    exact Port.enter_power ..
  · rw [hazardShutdown_port h hline]
    exact hservice.trans hlservice

theorem ShutDown.congr {run' : Running} {v t : State} (h : ShutDown run v t) (hreq : run'.req = run.req)
    (hseq : run'.seq = run.seq) : ShutDown run' v t where
  idle := h.idle
  record := by simpa only [hreq, hseq] using h.record
  flags := h.flags
  silent := h.silent
  port := by simpa only [hreq] using h.port

theorem ShutDown.settle {s v t : State} (h : ShutDown run v t) (hq : Quiet t)
    (hservice : (v.port run.req.port).serviceClosed = (s.port run.req.port).serviceClosed) : ShutDown run s (settle t) := by
  obtain ⟨idle, record, flags, silent, port⟩ := h
  rw [hservice] at port
  refine ⟨hq.settle_tsq ▸ idle, hq.settle_tsq ▸ record, ?_, hq.settle_msu ▸ silent, ?_⟩
  · simp only [State.flagSet, hq.settle_flags]
    exact flags
  · rw [hq.settle_port]
    exact port

end

/-! ## The watch armed at the start of a stage (R119, R134) -/

theorem startStage_hazardArmed (st : Stage) (tone : Option ToneSpec) (s : State) :
    (startStage st tone s).msu.hazardArmed = s.msu.hazardArmed := by
  cases st <;> cases tone <;> rfl

theorem grantConverter_hazardArmed (s : State) : (grantConverter s).msu.hazardArmed = s.msu.hazardArmed := by
  unfold grantConverter atGrant
  repeat' split
  all_goals rfl

theorem stagesOf_ne_nil (k : TestKind) : ∃ st rest, stagesOf k = st :: rest := by
  cases k <;> exact ⟨_, _, rfl⟩

theorem closeTest_lineState_service (p q : PortId) (s : State) : ((closeTest p s).port q).lineState = (s.port q).lineState ∧
    ((closeTest p s).port q).serviceClosed = (s.port q).serviceClosed := by
  obtain h | ⟨-, -, h⟩ := closeTest_cases p s <;> rw [h]
  · exact ⟨rfl, rfl⟩
  · by_cases hq : p = q
    · subst hq
      rw [setPort_port_self]
      exact ⟨rfl, rfl⟩
    · rw [setPort_port_ne _ _ hq]
      exact ⟨rfl, rfl⟩

/-- Settles O38: the shutdown, at a report and at the arming of the watch. -/
theorem hazardReportShutsDown : Obligations.HazardReportShutsDown := by
  unfold Obligations.HazardReportShutsDown
  refine fun s hu => ⟨fun hdisarmed => ?_, fun run hrun hline => ?_⟩
  · exact event_whole (f := hazardReported) (if_neg (by simp [hdisarmed])) hu
  intro shutDown
  have hshut (i : Instr) (t : State) (hi : exec i s = .next t) : ShutDown run s t → shutDown i :=
    fun ⟨idle, record, ⟨hhazard, hdone⟩, ⟨harmed, hdrive, hrun, hcap⟩, port⟩ =>
      ⟨t, hi, idle, record, hhazard, hdone, harmed, hdrive, hrun, hcap, port⟩
  refine ⟨fun harmed => ?_, fun hst htimer => ?_⟩
  · have hreported : hazardReported s = hazardShutdown s := if_pos harmed
    refine hshut _ (settle (hazardShutdown s)) (event_settle hreported) ?_
    exact (hazardShutdown_spec hrun hline).settle (hu.quiet_of_work (hazardShutdown_work s)) rfl
  · obtain ⟨st, rest, hstages⟩ := stagesOf_ne_nil run.req.kind
    have hstarts := isolatingExpires_starts true hrun hst htimer hstages
    generalize hv : grantConverter (startStage st run.req.tone (stageEntered run st s)) = v at hstarts
    have harmed : v.msu.hazardArmed = true := by
      rw [← hv, grantConverter_hazardArmed, startStage_hazardArmed]
      rfl
    have hreported : isolatingExpires true s = hazardShutdown v := hstarts.trans (if_pos harmed)
    have hvrun : v.tsq.running = some { run with st := .measuring, deadTimer := false, stage := some st } := by
      rw [← hv]
      simp [stageEntered, setRunning]
    have hports : v.port run.req.port = (closeTest run.req.port s).port run.req.port := by
      rw [← hv]
      simp [stageEntered, setRunning, State.port]
    obtain ⟨hcline, hcservice⟩ := closeTest_lineState_service run.req.port run.req.port s
    have hwork : v.work = s.work := by
      rw [← hv, grantConverter_work, startStage_work]
      exact closeTest_work s run.req.port
    refine hshut _ (settle (hazardShutdown v)) (event_settle hreported) ?_
    have hdown := (hazardShutdown_spec hvrun (by rw [hports, hcline, hline])).congr (run' := run) rfl rfl
    exact hdown.settle
      (hu.quiet_of_work ((hazardShutdown_work v).trans hwork)) (by rw [hports, hcservice])

end Sys2Proof.Machine
end

section
/-! SUPPORT. Proofs about the samples and the end of a stage (R120, R121, R125, R129, R130, R136, R137, R141). -/

namespace Sys2Proof.Machine

/-! ## The end of a stage (R120, R121) -/

section
variable {s : State} {run : Running} {store : Running → Running}

@[simp] theorem stageDone_work (store : Running → Running) (s : State) : (stageDone store s).work = s.work := by
  unfold stageDone advance
  split
  · rfl
  · split
    · simp
    · split <;> simp

theorem grantConverter_silent (hrun : s.msu.run = .none) (hdrive : s.msu.drive = .off) :
    (grantConverter s).msu.run = .none ∧ (grantConverter s).msu.drive = .off := by
  unfold grantConverter atGrant
  repeat' split
  all_goals simp_all

theorem EntersRestoring.settle {t : State} (h : EntersRestoring run s t) (hq : Quiet t) :
    EntersRestoring run s (settle t) := EntersRestoring.congr h hq.settle_tsq hq.settle_msu hq.settle_ports

/-- The stage that follows starts, and the arbiter grants (R120, R130). -/
theorem stageDone_next {n : Stage} (h : s.tsq.running = some run) (hnext : nextStage (store run) = some n) :
    stageDone store s = grantConverter (startStage n (store run).req.tone
      (setRunning (some { store run with stage := some n }) (releaseStage s))) := by
  simp only [stageDone, h, advance, setRunning, hnext]

/-- After the last stage RESTORING is entered (R120, R121). -/
theorem stageDone_last (h : s.tsq.running = some run) (hnext : nextStage (store run) = none) :
    EntersRestoring (store run) s (stageDone store s) := by
  have hdone : stageDone store s = grantConverter (enterRestoring (setRunning (some (store run)) (releaseStage s))) := by
    simp only [stageDone, h, advance, setRunning, hnext]
  have hrest : EntersRestoring (store run) s (enterRestoring (setRunning (some (store run)) (releaseStage s))) :=
    entersRestoring_of rfl rfl rfl rfl
  rw [hdone]
  generalize enterRestoring (setRunning (some (store run)) (releaseStage s)) = u at *
  obtain ⟨hrun, hstage, hdrive, hself, hothers⟩ := hrest
  obtain ⟨hgrun, hgdrive⟩ := grantConverter_silent hstage hdrive
  refine ⟨?_, hgrun, hgdrive, ?_, fun q hq => ?_⟩
  · rw [grantConverter_tsq, hrun]
  · rw [State.port, grantConverter_ports]
    exact hself
  · rw [State.port, grantConverter_ports]
    exact hothers q hq

/-- A step whose event completes the last stage of a test. -/
theorem event_restores {f : State → State} (hu : Unburdened s) (hf : f s = stageDone store s)
    (h : s.tsq.running = some run) (hnext : nextStage (store run) = none) :
    ∃ t, event f s = .next t ∧ EntersRestoring (store run) s t :=
  ⟨_, event_settle hf, EntersRestoring.settle (stageDone_last h hnext) (hu.quiet_of_work (stageDone_work store s))⟩

end

/-! ## Figures (R136) -/

theorem foldl_max_spec (xs : List Int) (m : Nat) :
    let r := xs.foldl (fun m x => max m x.natAbs) m
    m ≤ r ∧ (∀ x ∈ xs, x.natAbs ≤ r) ∧ (r = m ∨ ∃ x ∈ xs, x.natAbs = r) := by
  induction xs generalizing m with
  | nil => simp
  | cons x xs ih =>
    obtain ⟨hm, hall, hsome⟩ := ih (max m x.natAbs)
    simp only [List.foldl_cons] at *
    generalize xs.foldl (fun m x => max m x.natAbs) (max m x.natAbs) = r at *
    refine ⟨(le_max_left _ _).trans hm, ?_, ?_⟩
    · intro y hy
      obtain rfl | hy := List.mem_cons.1 hy
      · exact (le_max_right _ _).trans hm
      · exact hall y hy
    · obtain h | ⟨y, hy, h⟩ := hsome
      · obtain hx | hx := le_total m x.natAbs
        · exact .inr ⟨x, List.mem_cons_self, (h.trans (max_eq_right hx)).symm⟩
        · exact .inl (h.trans (max_eq_left hx))
      · exact .inr ⟨y, List.mem_cons_of_mem _ hy, h⟩

/-- A peak is the largest magnitude among the samples (R136). -/
theorem peakOf_spec (x : Int) (xs : List Int) :
    (∀ y ∈ x :: xs, y.natAbs ≤ peakOf (x :: xs)) ∧ ∃ y ∈ x :: xs, y.natAbs = peakOf (x :: xs) := by
  obtain ⟨-, hall, hsome⟩ := foldl_max_spec (x :: xs) 0
  refine ⟨hall, ?_⟩
  obtain h | h := hsome
  · refine ⟨x, List.mem_cons_self, ?_⟩
    have := hall x List.mem_cons_self
    simp only [peakOf]
    omega
  · exact h

/-- Figures of two inputs or fewer are not yet three (R136, R137). -/
theorem threeOf_short {α : Type} {done : List α} (h : done.length < 2) (x : α) : threeOf (done ++ [x]) = none := by
  match done, h with
  | [], _ | [_], _ => rfl

theorem inputAt_next {α : Type} {done : List α} (h : done.length < 2) (x : α) :
    inputAt (done ++ [x]).length = if done.length = 0 then .ae else .be := by
  match done, h with
  | [], _ | [_], _ => rfl

/-- The resistance of R137 in the terms of a mean. -/
theorem insFigure_eq (c : Cfg) (xs : List Int) : insFigure c xs =
    let mean := (xs.sum + 32) / 64
    let ohms :=
      if mean ≤ 0 then 0
      else if (c.vS : Int) ≤ mean then 10000000
      else min 10000000 (c.rRef * mean.toNat / (c.vS - mean.toNat))
    { ohms := ohms, cls := if ohms < 200 then .short else if ohms < c.insulationThreshold then .leak else .good } := by
  have hohms : resistance c.rRef c.vS (meanOf 64 xs) =
      if (xs.sum + 32) / 64 ≤ 0 then 0
      else if (c.vS : Int) ≤ (xs.sum + 32) / 64 then 10000000
      else min 10000000 (c.rRef * ((xs.sum + 32) / 64).toNat / (c.vS - ((xs.sum + 32) / 64).toNat)) := by
    have hmean : meanOf 64 xs = (xs.sum + 32) / 64 := rfl
    rw [hmean]
    generalize (xs.sum + 32) / 64 = m
    unfold resistance
    by_cases hm : m ≤ 0
    · simp [hm]
    · have hsub : ((c.vS : Int) - m).toNat = c.vS - m.toNat := by omega
      have hle : (c.vS : Int) - m ≤ 0 ↔ (c.vS : Int) ≤ m := by omega
      simp only [hm, if_false, hle, hsub]
  simp only [insFigure, insClass, hohms]

theorem voltFigure_spec (x : Int) (xs : List Int) :
    let f := voltFigure (x :: xs)
    f.mean = ((x :: xs).sum + 32) / 64 ∧ (∀ y, y ∈ x :: xs → y.natAbs ≤ f.peak) ∧
      ∃ y, y ∈ x :: xs ∧ y.natAbs = f.peak := by
  obtain ⟨hall, hsome⟩ := peakOf_spec x xs
  exact ⟨rfl, hall, hsome⟩

/-! ## Samples (R129, R136, R137, R141) -/

section
variable {s : State} {x : Int} {xs : List Int}

theorem stageSampled_fv {done : List VoltFigure} (hholder : s.msu.holder = .stage) (hrun : s.msu.run = .fv xs done) :
    stageSampled x s = fvSample x xs done s := by
  simp only [stageSampled, hholder, if_true, hrun]

theorem stageSampled_ins {done : List InsFigure} (hholder : s.msu.holder = .stage) (hrun : s.msu.run = .ins false xs done) :
    stageSampled x s = insSample x xs done s := by
  simp only [stageSampled, hholder, if_true, hrun]

theorem stageSampled_settling {done : List InsFigure} (hrun : s.msu.run = .ins true xs done) : stageSampled x s = s := by
  simp [stageSampled, hrun]

theorem insulationSettled_settling {done : List InsFigure} (hholder : s.msu.holder = .stage)
    (hrun : s.msu.run = .ins true xs done) : insulationSettled s = setRun (.ins false [] done) s := by
  simp only [insulationSettled, hholder, hrun]

theorem stageSampled_noise (hholder : s.msu.holder = .stage) (hrun : s.msu.run = .noise xs) :
    stageSampled x s = noiseSample x xs s := by
  simp only [stageSampled, hholder, if_true, hrun]

theorem fvSample_joins {done : List VoltFigure} (h : xs.length < 63) : fvSample x xs done s = setRun (.fv (x :: xs) done) s :=
  if_pos (by simpa using Nat.succ_lt_succ h)

theorem fvSample_ends {done : List VoltFigure} (h : 63 ≤ xs.length) : fvSample x xs done s =
    match threeOf (done ++ [voltFigure (x :: xs)]) with
    | some v => fvDone v s
    | none => setRun (.fv [] (done ++ [voltFigure (x :: xs)]))
      { s with msu := { s.msu with pairSelect := inputAt (done ++ [voltFigure (x :: xs)]).length } } :=
  if_neg (by simpa using h)

theorem insSample_joins {done : List InsFigure} (h : xs.length < 63) :
    insSample x xs done s = setRun (.ins false (x :: xs) done) s := if_pos (by simpa using Nat.succ_lt_succ h)

theorem insSample_ends {done : List InsFigure} (h : 63 ≤ xs.length) : insSample x xs done s =
    match threeOf (done ++ [insFigure s.cfg (x :: xs)]) with
    | some v => insDone v s
    | none =>
      let i := inputAt (done ++ [insFigure s.cfg (x :: xs)]).length
      setRun (.ins true [] (done ++ [insFigure s.cfg (x :: xs)]))
        { s with msu := { s.msu with pairSelect := i, drive := .stimulus s.cfg.vS i } } :=
  if_neg (by simpa using h)

theorem noiseSample_joins (h : xs.length < 255) : noiseSample x xs s = setRun (.noise (x :: xs)) s :=
  if_pos (by simpa using Nat.succ_lt_succ h)

theorem noiseSample_ends (h : 255 ≤ xs.length) : noiseSample x xs s = noiseDone (noiseResult s.cfg (x :: xs)) s :=
  if_neg (by simpa using h)

end

/-! ## The end of FOREIGN_VOLTAGE (R120, R122, R136) -/

section
variable {s : State} {run : Running} {v : Three VoltFigure}

/-- The running test with FOREIGN_VOLTAGE's part stored (R120). -/
def fvStored (c : Cfg) (v : Three VoltFigure) (run : Running) : Running :=
  { run with
    parts := { run.parts with fv := some v }
    faultFound := run.faultFound || v.anyOf (fun f => decide (c.warningThreshold < f.mean.natAbs)) }

theorem fvDone_hazard (h : s.tsq.running = some run)
    (hhazard : v.anyOf (fun f => decide (s.cfg.hazardThreshold < f.peak)) = true) :
    fvDone v s = hazardShutdown (setRunning (some (fvStored s.cfg v run)) s) := by
  simp only [fvDone, hhazard, if_true, h]
  rfl

theorem fvDone_goesOn (hhazard : v.anyOf (fun f => decide (s.cfg.hazardThreshold < f.peak)) = false) :
    fvDone v s = stageDone (fvStored s.cfg v) s := by
  simp only [fvDone, hhazard]
  rfl

end

section
variable {s : State} {run : Running}

theorem nextStage_foreignVoltage (h : run.stage = some .foreignVoltage) (hkind : run.req.kind ≠ .tone) :
    nextStage run = some .insulation := by
  cases hk : run.req.kind
  case tone => exact absurd hk hkind
  all_goals simp [nextStage, h, hk, stagesOf, itemAfter, Stage.quiet]

theorem nextStage_insulation (h : run.stage = some .insulation) :
    (run.req.kind = .quickCheck → nextStage run = none) ∧ (run.req.kind = .lineCheck → nextStage run = some .capacitance) := by
  refine ⟨fun hk => ?_, fun hk => ?_⟩ <;> simp [nextStage, h, hk, stagesOf, itemAfter, Stage.quiet]

theorem nextStage_noise (h : run.stage = some .noise) : nextStage run = none := by
  cases hk : run.req.kind <;> simp [nextStage, h, hk, stagesOf, itemAfter]

/-- The running test with INSULATION's part stored (R120). -/
def insStored (v : Three InsFigure) (run : Running) : Running :=
  { run with
    parts := { run.parts with ins := some v }
    faultFound := run.faultFound || v.anyOf (fun f => f.cls != .good) }

theorem insDone_eq (v : Three InsFigure) (s : State) : insDone v s = stageDone (insStored v) s := rfl

/-- INSULATION asks for the converter that the ended stage held, behind a waiting supply sample (R130, R137). -/
theorem insulation_starts (hholder : s.msu.holder = .stage) (tone : Option ToneSpec) (r : Running) :
    let t := grantConverter (startStage .insulation tone (setRunning (some r) (releaseStage s)))
    t.ports = s.ports ∧ t.msu.run = .ins true [] [] ∧ t.tsq.running = some r ∧
      (s.msu.supplyWaiting = false → t.msu.holder = .stage ∧ t.msu.pairSelect = .ab ∧
        t.msu.drive = .stimulus s.cfg.vS .ab) ∧
      (s.msu.supplyWaiting = true → t.msu.holder = .supply ∧ t.msu.stageWaiting = true ∧
        t.msu.pairSelect = .dcBus ∧ t.msu.drive = .off) := by
  cases hsupply : s.msu.supplyWaiting <;>
    simp [startStage, setRunning, releaseStage, hholder, grantConverter, hsupply, atGrant]

end

theorem exec_stageSample (code : BitVec 12) (s : State) : exec (.stageSample code) s = event (stageSampled code.toInt) s := rfl

/-- Settles O39: sample by sample, and at the end of each stage. -/
theorem stageSamplesAreTaken : Obligations.StageSamplesAreTaken := by
  unfold Obligations.StageSamplesAreTaken
  intro s code xs hu hholder all mean nextInput ohms cls isFigure
  have hins : insFigure s.cfg all = { ohms := ohms, cls := cls } := insFigure_eq s.cfg all
  refine ⟨fun done hrun => ⟨fun hlen => ?_, fun hlen hdone => ⟨voltFigure all, voltFigure_spec _ _, ?_⟩⟩,
    fun done => ⟨fun hrun => ⟨?_, ?_⟩, fun hrun hlen => ?_, fun hrun hlen hdone => ?_⟩, fun hrun hlen => ?_,
    fun run hrunning => ⟨fun a b hrun hlen hstage hkind => ⟨voltFigure all, voltFigure_spec _ _, ?_⟩,
      fun a b hrun hlen hstage => ?_, fun hrun hlen hstage => ?_⟩⟩
  · exact event_whole ((stageSampled_fv hholder hrun).trans (fvSample_joins hlen)) hu
  · refine event_whole ((stageSampled_fv hholder hrun).trans ((fvSample_ends hlen).trans ?_)) hu
    rw [threeOf_short hdone, inputAt_next hdone]
    rfl
  · exact event_whole (stageSampled_settling hrun) hu
  · exact event_whole (insulationSettled_settling hholder hrun) hu
  · exact event_whole ((stageSampled_ins hholder hrun).trans (insSample_joins hlen)) hu
  · refine event_whole ((stageSampled_ins hholder hrun).trans ((insSample_ends hlen).trans ?_)) hu
    rw [threeOf_short hdone, inputAt_next hdone, hins]
    rfl
  · exact event_whole ((stageSampled_noise hholder hrun).trans (noiseSample_joins hlen)) hu
  · have hdone : stageSampled code.toInt s = fvDone { ab := a, ae := b, be := voltFigure all } s :=
      (stageSampled_fv hholder hrun).trans (fvSample_ends hlen)
    refine ⟨_, event_settle hdone, ?_⟩
    have hhazard : Three.anyOf (fun f => decide (s.cfg.hazardThreshold < f.peak)) ⟨a, b, voltFigure all⟩ = true ↔
        s.cfg.hazardThreshold < a.peak ∨ s.cfg.hazardThreshold < b.peak ∨ s.cfg.hazardThreshold < (voltFigure all).peak := by
      simp [Three.anyOf, or_assoc]
    refine ⟨fun h => ?_, fun h => ?_⟩
    · obtain ⟨hidle, hrecord, ⟨hflag, -⟩, ⟨-, hdrive, hnone, -⟩, hopen⟩ :=
        hazardShutdown_ends (s := setRunning (some (fvStored s.cfg ⟨a, b, voltFigure all⟩ run)) s) rfl
      have hquiet : Quiet (hazardShutdown (setRunning (some (fvStored s.cfg ⟨a, b, voltFigure all⟩ run)) s)) :=
        hu.quiet_of_work (hazardShutdown_work _)
      rw [fvDone_hazard hrunning (hhazard.2 h), State.flagSet, hquiet.settle_flags, hquiet.settle_tsq, hquiet.settle_msu,
        hquiet.settle_port]
      refine ⟨hidle, hflag, hnone, hdrive, ⟨_, hrecord, rfl, ?_⟩, hopen, fun hline => ?_⟩
      · simp only [recordOf, hazardRun, setRunning, hrun]
        rfl
      · exact (hazardShutdown_spec (s := setRunning (some (fvStored s.cfg ⟨a, b, voltFigure all⟩ run)) s) rfl hline).port.1
    · rw [fvDone_goesOn (by rwa [← Bool.not_eq_true, hhazard]),
        stageDone_next hrunning (nextStage_foreignVoltage (run := fvStored s.cfg ⟨a, b, voltFigure all⟩ run) hstage hkind)]
      have hquiet := hu.quiet_of_work (stageDone_work (fvStored s.cfg ⟨a, b, voltFigure all⟩) s)
      rw [stageDone_next hrunning (nextStage_foreignVoltage (run := fvStored s.cfg ⟨a, b, voltFigure all⟩ run) hstage hkind)]
        at hquiet
      obtain ⟨hports, hins, hkept, hfree, hbehind⟩ := insulation_starts hholder
        (fvStored s.cfg ⟨a, b, voltFigure all⟩ run).req.tone
        { fvStored s.cfg ⟨a, b, voltFigure all⟩ run with stage := some .insulation }
      rw [hquiet.settle_ports, hquiet.settle_tsq, hquiet.settle_msu]
      refine ⟨hports, hins, ⟨(fvStored s.cfg ⟨a, b, voltFigure all⟩ run).faultFound, ?_, hkept⟩, hfree, hbehind⟩
      simp [fvStored, Three.anyOf, or_assoc]
  · have hdone : stageSampled code.toInt s = insDone { ab := a, ae := b, be := { ohms := ohms, cls := cls } } s := by
      rw [← hins]
      exact (stageSampled_ins hholder hrun).trans (insSample_ends hlen)
    obtain ⟨hlast, hnext⟩ := nextStage_insulation (run := insStored ⟨a, b, { ohms := ohms, cls := cls }⟩ run) hstage
    have hquiet := hu.quiet_of_work (stageDone_work (insStored ⟨a, b, { ohms := ohms, cls := cls }⟩) s)
    refine ⟨(insStored ⟨a, b, { ohms := ohms, cls := cls }⟩ run).faultFound, ?_, _, event_settle (hdone.trans (insDone_eq _ _)), fun hkind => ?_, fun hkind => ?_⟩
    · simp [insStored, Three.anyOf, or_assoc]
    · exact EntersRestoring.settle (stageDone_last hrunning (hlast hkind)) hquiet
    · rw [hquiet.settle_tsq, hquiet.settle_ports, hquiet.settle_msu, stageDone_next hrunning (hnext hkind)]
      cases hsupply : s.msu.supplyWaiting <;>
        simp [startStage, setRunning, releaseStage, hholder, grantConverter, hsupply, insStored]
  · have hdone : stageSampled code.toInt s = noiseDone (noiseResult s.cfg all) s :=
      (stageSampled_noise hholder hrun).trans (noiseSample_ends hlen)
    exact event_restores hu hdone hrunning (nextStage_noise hstage)

end Sys2Proof.Machine
end

section
/-! SUPPORT. Proofs about CAPACITANCE and TONE (R120, R121, R125, R126, R133, R138, R142). -/

namespace Sys2Proof.Machine

theorem exec_dischargeEnd (s : State) : exec .dischargeEnd s = event dischargeEnds s := rfl

theorem exec_captureComparatorChange (above : Bool) (tick : BitVec 16) (s : State) :
    exec (.captureComparatorChange above tick) s = event (comparatorChanges above tick.toNat) s := rfl

theorem exec_crossingConfirmed (code : BitVec 12) (s : State) :
    exec (.crossingConfirmed code) s = event (crossingCounts code.toInt) s := rfl

theorem exec_captureLimit (s : State) : exec .captureLimit s = event captureLimitReached s := rfl

/-! ## The capture timer (R133) -/

section
variable {s : State}

theorem countedCrossing_some {tick : Nat} (hrunning : s.msu.capRunning = true) (hcandidate : s.msu.candidate = some tick)
    (hconfirms : tick + s.cfg.filterLength ≤ captureLimitOf s) : countedCrossing s = some tick := by
  simp [countedCrossing, hrunning, hcandidate, confirmsBy, hconfirms]

theorem countedCrossing_none (h : ∀ tick, s.msu.candidate = some tick → captureLimitOf s < tick + s.cfg.filterLength) :
    countedCrossing s = none := by
  cases hc : s.msu.candidate with
  | none => simp [countedCrossing, hc]
  | some tick => simp [countedCrossing, hc, confirmsBy, Nat.not_le.2 (h tick hc)]

theorem captureLimitOf_cap {x : CapPhase} (h : s.msu.run = .cap x) : captureLimitOf s = 65535 := by
  simp only [captureLimitOf, h]

theorem comparatorChanges_eq (above : Bool) (tick : Nat) (s : State) : comparatorChanges above tick s =
    { s with msu := { s.msu with
        capAbove := above
        candidate :=
          if s.msu.capRunning = false ∨ s.msu.blanked = false then s.msu.candidate
          else if above = false then none
          else if s.msu.capAbove = false ∧ (s.msu.capFast = false ∨ 25 * s.cfg.pulseWidth + 50 ≤ tick) then some tick
          else s.msu.candidate } } := by
  simp only [comparatorChanges, beginsUnblanked, blankingTicks]
  by_cases hblanking : 25 * s.cfg.pulseWidth + 50 ≤ tick <;>
    cases s.msu.capRunning <;> cases s.msu.blanked <;> cases above <;> simp [hblanking]

/-! ## CAPACITANCE (R138) -/

theorem nextStage_capacitance {run : Running} (h : run.stage = some .capacitance) (hkind : run.req.kind = .lineCheck) :
    nextStage run = if run.clash = true then none else some .reflection := by
  cases hc : run.clash <;> simp [nextStage, h, hkind, hc, stagesOf, itemAfter, Stage.quiet]

/-- The running test with CAPACITANCE's part stored (R120). -/
def capStored (v : CapPart) (run : Running) : Running := { run with parts := { run.parts with cap := some v } }

theorem dischargeEnds_opening (h : s.msu.run = .cap .opening) :
    dischargeEnds s = startCapture false (capReference s.cfg) (applyToAB (setRun (.cap .running) s)) := by
  simp only [dischargeEnds, h]

theorem dischargeEnds_closing {v : CapPart} (h : s.msu.run = .cap (.closing v)) :
    dischargeEnds s = stageDone (capStored v) s := by
  simp only [dischargeEnds, h]
  rfl

theorem crossingCounts_cap {code : Int} {tick : Nat} (hrun : s.msu.run = .cap .running)
    (hcounted : countedCrossing s = some tick) : crossingCounts code s = capRunEnds (capFigures s.cfg tick) s := by
  simp only [crossingCounts, hcounted, hrun]

theorem captureLimitReached_cap (hrun : s.msu.run = .cap .running) (hrunning : s.msu.capRunning = true)
    (hcounted : countedCrossing s = none) : captureLimitReached s = capRunEnds .aboveRange s := by
  simp [captureLimitReached, hrunning, hcounted, hrun]

/-- REFLECTION takes the free converter (R130, R139). -/
theorem reflection_starts (hholder : s.msu.holder = .none) (hsupply : s.msu.supplyWaiting = false)
    (tone : Option ToneSpec) (r : Running) :
    let t := grantConverter (startStage .reflection tone (setRunning (some r) (releaseStage s)))
    t.tsq.running = some r ∧ t.msu.run = .refl 0 [] ∧ t.msu.drive = .off ∧ t.msu.holder = .stage ∧ t.ports = s.ports := by
  simp [startStage, setRunning, releaseStage, hholder, grantConverter, hsupply, atGrant]

end

/-- Settles O40: the opening, the comparator, the run's two ends, and the closing. -/
theorem capacitanceRunsBetweenDischarges : Obligations.CapacitanceRunsBetweenDischarges := by
  unfold Obligations.CapacitanceRunsBetweenDischarges
  intro s hu closing
  refine ⟨fun hrun => event_whole (dischargeEnds_opening hrun) hu,
    fun above tick => event_whole (comparatorChanges_eq above tick.toNat s) hu,
    fun code tau hrun hrunning hcandidate hconfirms => ?_, fun hrun hrunning hnone => ?_,
    fun v run hrun hrunning hkind hstage => ?_⟩
  · have hcounted : countedCrossing s = some tau :=
      countedCrossing_some hrunning hcandidate (by rwa [captureLimitOf_cap hrun])
    exact event_whole (f := crossingCounts code.toInt) (crossingCounts_cap hrun hcounted) hu
  · have hcounted : countedCrossing s = none := countedCrossing_none (by rwa [captureLimitOf_cap hrun])
    exact event_whole (captureLimitReached_cap hrun hrunning hcounted) hu
  · have hdone := dischargeEnds_closing hrun
    have hnext := nextStage_capacitance (run := capStored v run) hstage hkind
    intro kept
    refine ⟨fun hclash hholder hsupply => ⟨_, event_settle hdone, ?_⟩, fun hclash => ?_⟩
    · have hquiet := hu.quiet_of_work (stageDone_work (capStored v) s)
      rw [hquiet.settle_tsq, hquiet.settle_msu, hquiet.settle_ports,
        stageDone_next hrunning (hnext.trans (if_neg (by simp [capStored, hclash])))]
      exact reflection_starts hholder hsupply _ _
    · exact event_restores hu hdone hrunning (hnext.trans (if_pos hclash))

/-! ## TONE (R142) -/

/-- The running test with TONE's part stored (R120). -/
def toneStored (spec : ToneSpec) (run : Running) : Running :=
  { run with parts := { run.parts with tone := some spec.minutes } }

/-- Settles O42: the envelope's next eighth, and RESTORING at the duration's end. -/
theorem toneStepsThroughItsDuration : Obligations.ToneStepsThroughItsDuration := by
  unfold Obligations.ToneStepsThroughItsDuration
  intro s spec k hu hrun
  refine ⟨?_, fun run hrunning hkind hstage habort hfault hclash => ?_⟩
  · refine event_whole (f := toneSteps) ?_ hu
    simp only [toneSteps, hrun, setDrive, setRun, toneDrive]
  · have hdone : toneExpires s = stageDone (toneStored spec) s := by
      simp only [toneExpires, hrun]
      rfl
    have hlast : nextStage (toneStored spec run) = none := by
      simp [nextStage, toneStored, hstage, hkind, stagesOf, itemAfter]
    obtain ⟨t, hexec, hrestoring, hstopped, hdrive, hself, hothers⟩ := event_restores hu hdone hrunning hlast
    refine ⟨t, hexec, ?_, hstopped, hdrive, ?_, hothers⟩
    · rw [hrestoring]
      simp [restoringRun, toneStored, habort, hfault, hclash, hkind]
    · exact congrArg Port.testClosed hself

end Sys2Proof.Machine
end

section
/-! SUPPORT. Proofs about REFLECTION (R120, R125, R133, R139, R140). -/

namespace Sys2Proof.Machine

/-! ## The result of four shots (R140) -/

theorem countP_polarities (es : List Echo) :
    es.countP (fun e => e.polarity == .openEnd) + es.countP (fun e => e.polarity == .short) = es.length := by
  induction es with
  | nil => rfl
  | cons e es ih =>
    cases h : e.polarity <;> simp only [List.countP_cons, h, List.length_cons, beq_self_eq_true, if_true] <;> simp <;> omega

/-- The polarity of the majority (R140). -/
theorem majorityPolarity_spec (es : List Echo) (hne : es ≠ []) :
    let opens := es.countP (fun e => e.polarity == .openEnd)
    (es.length < 2 * opens → majorityPolarity es = .openEnd) ∧ (2 * opens < es.length → majorityPolarity es = .short) ∧
      (2 * opens = es.length → es.head?.map Echo.polarity = some (majorityPolarity es)) := by
  have hsum := countP_polarities es
  unfold majorityPolarity
  dsimp only
  generalize es.countP (fun e => e.polarity == .openEnd) = opens at *
  generalize es.countP (fun e => e.polarity == .short) = shorts at *
  refine ⟨fun h => if_pos (by omega), fun h => ?_, fun h => ?_⟩
  · rw [if_neg (by omega), if_pos (by omega)]
  · rw [if_neg (by omega), if_neg (by omega)]
    cases es with
    | nil => exact absurd rfl hne
    | cons e es => rfl

theorem reflClass_lineEnd (distance : Nat) (estimate : Option Nat) :
    reflClass distance estimate = .lineEnd ↔
      ∃ m, estimate = some m ∧ distance ≤ m + m / 20 ∧ m ≤ distance + m / 20 := by
  cases estimate with
  | none => simp [reflClass]
  | some m =>
    have hdiff : absDiff distance m ≤ m / 20 ↔ distance ≤ m + m / 20 ∧ m ≤ distance + m / 20 := by
      unfold absDiff
      omega
    by_cases h : absDiff distance m ≤ m / 20
    · simp [reflClass, h, hdiff.1 h]
    · simp only [reflClass, h, if_false, Option.some.injEq]
      refine ⟨fun hclass => absurd hclass (by simp), ?_⟩
      rintro ⟨_, rfl, hm⟩
      exact absurd (hdiff.2 hm) h

section
variable {c : Cfg} {estimate : Option Nat} {shots : List (Option Echo)}

theorem reflResult_few : ((echoesOf shots).length = 0 → reflResult c estimate shots = .noReflection) ∧
    ((echoesOf shots).length = 1 ∨ (echoesOf shots).length = 2 → reflResult c estimate shots = .inconsistent) := by
  refine ⟨fun h => ?_, ?_⟩
  · simp only [reflResult, h]
  · rintro (h | h) <;> simp only [reflResult, h]

theorem reflResult_located (h : 3 ≤ (echoesOf shots).length) :
    let hits := echoesOf shots
    let distance := ((hits.map Echo.ticks).sum / hits.length * c.velocity + 25) / 50
    reflResult c estimate shots = .located distance (reflClass distance estimate) (majorityPolarity hits) := by
  unfold reflResult
  dsimp only
  split
  · omega
  · omega
  · omega
  · rfl

end

/-! ## Shots (R133, R139) -/

section
variable {s : State} {run : Running} {n : Nat} {es : List (Option Echo)}

theorem captureLimitOf_refl (h : s.msu.run = .refl n es) :
    captureLimitOf s = (s.cfg.maxDistance * 50 + s.cfg.velocity - 1) / s.cfg.velocity := by
  simp only [captureLimitOf, h, windowEnd]

theorem launchShot_launches (hrun : s.msu.run = .refl n es) (hholder : s.msu.holder = .stage)
    (hidle : s.msu.capRunning = false) (hn : n < 4) : launchShot s =
      startCapture true (reflReference s.cfg) (setDrive (.pulse s.cfg.vS s.cfg.pulseWidth) (setRun (.refl (n + 1) es) s)) := by
  simp only [launchShot, hholder, hrun, hidle, hn]
  rfl

theorem blankingEnds_reads (above : Bool) (hrun : s.msu.run = .refl n es) (hrunning : s.msu.capRunning = true)
    (hblanked : s.msu.blanked = false) : blankingEnds above s =
      { s with msu := { s.msu with blanked := true, capAbove := above, candidate := none, drive := .off } } := by
  simp only [blankingEnds, hrun, hrunning, hblanked]
  rfl

theorem crossingCounts_refl {code : Int} {tick : Nat} (hrun : s.msu.run = .refl n es)
    (hcounted : countedCrossing s = some tick) :
    crossingCounts code s = shotEnds n (es ++ [some { ticks := tick, polarity := polarityOf code }]) s := by
  simp only [crossingCounts, hcounted, hrun]

theorem captureLimitReached_refl (hrun : s.msu.run = .refl n es) (hrunning : s.msu.capRunning = true)
    (hcounted : countedCrossing s = none) : captureLimitReached s = shotEnds n (es ++ [none]) s := by
  simp [captureLimitReached, hrunning, hcounted, hrun]

/-- The card as a shot's run ends (R139; log 37). -/
def shotEnded (n : Nat) (echoes : List (Option Echo)) (s : State) : State :=
  { s with msu := { s.msu with run := .refl n echoes, drive := .off, capRunning := false, candidate := none } }

theorem shotEnds_early {echoes : List (Option Echo)} (h : echoes.length < 4) : shotEnds n echoes s = shotEnded n echoes s :=
  if_pos h

/-- The running test with REFLECTION's part stored (R120). -/
def reflStored (part : ReflPart) (run : Running) : Running :=
  { run with parts := { run.parts with refl := some part }, faultFound := run.faultFound || part.isFault }

/-- The fourth shot completes the stage (R140). -/
theorem shotEnds_fourth {echoes : List (Option Echo)} (h : 4 ≤ echoes.length) (hrunning : s.tsq.running = some run) :
    shotEnds n echoes s =
      stageDone (reflStored (reflResult s.cfg (estimateFor run s) echoes)) (shotEnded n echoes s) := by
  have hdone : shotEnds n echoes s = reflDone echoes (shotEnded n echoes s) := if_neg (by omega)
  have hrun : (shotEnded n echoes s).tsq.running = some run := hrunning
  rw [hdone]
  simp only [reflDone, hrun]
  rfl

theorem nextStage_reflection (h : run.stage = some .reflection) (hkind : run.req.kind = .lineCheck) :
    nextStage run = if run.clash = true then none else some .noise := by
  cases hc : run.clash <;> simp [nextStage, h, hkind, hc, stagesOf, itemAfter, Stage.quiet]

theorem grantConverter_drive {xs : List Int} (h : s.msu.run = .noise xs) : (grantConverter s).msu.drive = s.msu.drive := by
  unfold grantConverter atGrant
  simp only [h]
  repeat' split
  all_goals rfl

/-- NOISE asks for the converter (R130, R141). -/
theorem noise_starts (tone : Option ToneSpec) (r : Running) (s : State) :
    let t := grantConverter (startStage .noise tone (setRunning (some r) (releaseStage s)))
    t.tsq.running = some r ∧ t.msu.run = .noise [] ∧ t.msu.drive = .off ∧ t.ports = s.ports := by
  refine ⟨by simp [startStage, setRunning], by simp [startStage], grantConverter_drive rfl, by simp [startStage, setRunning]⟩

end

theorem polarityOf_eq (code : Int) : polarityOf code = if 0 ≤ code then .openEnd else .short := rfl

/-- What the completion of REFLECTION's fourth shot brings (R120, R125, R140). -/
theorem reflection_completes {f : State → State} {s : State} {run : Running} {n : Nat} {echoes : List (Option Echo)}
    (hu : Unburdened s) (hf : f s = shotEnds n echoes s) (hlen : echoes.length = 4) (hrunning : s.tsq.running = some run)
    (hkind : run.req.kind = .lineCheck) (hstage : run.stage = some .reflection) :
    let kept := reflStored (reflResult s.cfg (estimateFor run s) echoes) run
    ∃ t, event f s = .next t ∧
      (run.clash = false → t.tsq.running = some { kept with stage := some .noise } ∧ t.msu.run = .noise [] ∧
        t.msu.drive = .off ∧ t.ports = s.ports) ∧
      (run.clash = true → EntersRestoring kept s t) := by
  have hdone := hf.trans (shotEnds_fourth (by omega) hrunning)
  have hnext := nextStage_reflection (run := reflStored (reflResult s.cfg (estimateFor run s) echoes) run) hstage hkind
  generalize reflResult s.cfg (estimateFor run s) echoes = part at *
  have hrun : (shotEnded n echoes s).tsq.running = some run := hrunning
  have hquiet := hu.quiet_of_work (stageDone_work (reflStored part) (shotEnded n echoes s))
  refine ⟨_, event_settle hdone, fun hclash => ?_, fun hclash => ?_⟩
  · rw [hquiet.settle_tsq, hquiet.settle_msu, hquiet.settle_ports,
      stageDone_next hrun (hnext.trans (if_neg (by simp [reflStored, hclash])))]
    exact noise_starts _ _ _
  · exact EntersRestoring.settle (stageDone_last hrun (hnext.trans (if_pos hclash))) hquiet

/-- Settles O41: the shots, and the result of the fourth. -/
theorem reflectionShotsAreCaptured : Obligations.ReflectionShotsAreCaptured := by
  unfold Obligations.ReflectionShotsAreCaptured
  intro s n es hu hrun ended window unconfirmed echo
  have hwindow : captureLimitOf s = window := captureLimitOf_refl hrun
  have hcrossing (code : BitVec 12) (tick : Nat) (hrunning : s.msu.capRunning = true)
      (hcandidate : s.msu.candidate = some tick) (hconfirms : tick + s.cfg.filterLength ≤ window) :
      crossingCounts code.toInt s = shotEnds n (es ++ [echo code tick]) s :=
    crossingCounts_refl hrun (countedCrossing_some hrunning hcandidate (by rwa [hwindow]))
  have hlimit (hrunning : s.msu.capRunning = true) (hno : unconfirmed) :
      captureLimitReached s = shotEnds n (es ++ [none]) s :=
    captureLimitReached_refl hrun hrunning (countedCrossing_none (by rwa [hwindow]))
  refine ⟨fun hholder hidle hn => event_whole (launchShot_launches hrun hholder hidle hn) hu,
    fun above hrunning hblanked => event_whole (blankingEnds_reads above hrun hrunning hblanked) hu,
    fun code tick hrunning hcandidate hlen hconfirms => ?_, fun hrunning hno hlen => ?_,
    fun run hlen hcap hrunning hkind hstage => ?_⟩
  · exact event_whole (f := crossingCounts code.toInt) ((hcrossing code tick hrunning hcandidate hconfirms).trans
      (shotEnds_early (by simp; omega))) hu
  · exact event_whole ((hlimit hrunning hno).trans (shotEnds_early (by simp; omega))) hu
  · intro estimate completes
    have hcompletes (e : Option Echo) (i : Instr) (f : State → State) (hi : exec i s = event f s)
        (hf : f s = shotEnds n (es ++ [e]) s) : completes e i := by
      obtain ⟨t, hexec, hends⟩ := reflection_completes hu hf (by simp [hlen]) hrunning hkind hstage
      have hestimate : estimateFor run s = estimate := rfl
      rw [hestimate] at hends
      obtain ⟨hnone, hfew⟩ := reflResult_few (c := s.cfg) (estimate := estimate) (shots := es ++ [e])
      have hlocated := reflResult_located (c := s.cfg) (estimate := estimate) (shots := es ++ [e])
      refine ⟨reflResult s.cfg estimate (es ++ [e]), _, fun h => ⟨hnone h, ?_⟩, fun h => ⟨hfew h, ?_⟩, fun h => ?_,
        t, hi.trans hexec, hends⟩
      · rw [hnone h]
        simp [ReflPart.isFault]
      · rw [hfew h]
        simp [ReflPart.isFault]
      · have hthree : 3 ≤ (echoesOf (es ++ [e])).length := h
        have hne : echoesOf (es ++ [e]) ≠ [] := List.ne_nil_of_length_pos (by omega)
        have hmajority := majorityPolarity_spec _ hne
        rw [List.countP_eq_length_filter] at hmajority
        obtain ⟨hopen, hshort, heven⟩ := hmajority
        refine ⟨_, _, hlocated h, reflClass_lineEnd _ _, hopen, hshort, heven, ?_⟩
        rw [hlocated h]
        cases reflClass _ estimate <;> simp [ReflPart.isFault]
    refine ⟨fun code tick hcandidate hconfirms =>
      hcompletes _ _ _ (exec_crossingConfirmed code s) (hcrossing code tick hcap hcandidate hconfirms),
      fun hno => hcompletes _ _ _ (exec_captureLimit s) (hlimit hcap hno)⟩

end Sys2Proof.Machine
end

section
/-! SUPPORT. Proofs about the management requests that read (R156, R158, R164). -/

namespace Sys2Proof.Machine

/-! ## Port bytes (R174) -/

theorem portOfByte_port (p : PortId) : portOfByte (u8 p.val) = some p := by
  have hval : (u8 p.val).toNat = p.val := by
    simp only [u8, BitVec.toNat_ofNat]
    omega
  simp [portOfByte, hval]

theorem portOfByte_beyond {b : Byte} (h : 16 ≤ b.toNat) : portOfByte b = none := by
  simp [portOfByte, Nat.not_lt.2 h]

theorem u8_port_ne (p : PortId) {n : Nat} (hn : 16 ≤ n) (hbyte : n < 256) : u8 p.val ≠ BitVec.ofNat 8 n := by
  intro h
  have hval := congrArg BitVec.toNat h
  simp only [u8, BitVec.toNat_ofNat] at hval
  omega

/-! ## The length of answers (R48, R158) -/

theorem optField_length_le {α : Type} {f : α → List Byte} {n : Nat} (h : ∀ x, (f x).length ≤ n) (o : Option α) :
    (optField f o).length ≤ n + 1 := by
  cases o with
  | none => simp [optField]
  | some x => simpa [optField] using h x

theorem flatMap_length_le {α : Type} {f : α → List Byte} {n : Nat} (h : ∀ x, (f x).length ≤ n) (xs : List α) :
    (xs.flatMap f).length ≤ n * xs.length := by
  induction xs with
  | nil => simp
  | cons x xs ih =>
    simp only [List.flatMap_cons, List.length_append, List.length_cons, Nat.mul_succ]
    have := h x
    omega

theorem u16_length (n : Nat) : (u16 n).length = 2 := rfl

theorem u32_length (n : Nat) : (u32 n).length = 4 := rfl

theorem s16_length (i : Int) : (s16 i).length = 2 := rfl

theorem s32_length (i : Int) : (s32 i).length = 4 := rfl

theorem portStatusBytes_length (s : State) (p : PortId) : (portStatusBytes s p).length ≤ 64 := by
  have hprofile := optField_length_le (f := fun q : Fin 8 => [u8 q.val]) (n := 1) (by simp) (s.port p).profile
  have hloop := optField_length_le (f := u16) (n := 2) (by simp [u16]) (s.port p).loopEst
  have hreport := optField_length_le
    (f := fun q : Report => u32 q.down.toNat ++ u32 q.up.toNat ++ [q.attenuation, q.margin]) (n := 10) (by simp [u32])
    (s.port p).lastReport
  simp only [portStatusBytes, portRecordBytes, trainingBytes, List.length_append, List.length_cons, List.length_nil, u16_length,
    s16_length]
  omega

theorem cardStatusBytes_length (s : State) : (cardStatusBytes s).length ≤ 1024 := by
  have hpeers := flatMap_length_le (f := fun t => peerBytes (tget s.shu.peers t)) (n := 16) (by simp [peerBytes, u16]) allStations
  have hclaims := flatMap_length_le (f := fun b => claimBytes (tget s.clt.entries b)) (n := 16) (fun b => by
    have := optField_length_le (f := fun t : StationId => [u8 (t.val + 1)]) (n := 1) (by simp) (tget s.clt.entries b).claimant
    simp only [claimBytes, List.length_append, List.length_cons, List.length_nil, u16]
    omega) allBinders
  have hstations : allStations.length = 8 := by decide
  have hbinders : allBinders.length = 32 := by decide
  simp only [cardStatusBytes, List.length_append, List.length_cons, List.length_nil, u16_length, s32_length]
  omega

theorem countersBytes_length (s : State) (scope : Option PortId) : (countersBytes s scope).length ≤ 1024 := by
  have hcounter : ∀ c, (counterBytes c).length ≤ 5 := fun c => by simp [counterBytes, u32]
  cases scope with
  | none =>
    have := flatMap_length_le hcounter s.mga.cardCounters.toList
    simp only [Vector.length_toList] at this
    simp only [countersBytes]
    omega
  | some p =>
    have := flatMap_length_le hcounter (tget s.mga.portCounters p).toList
    simp only [Vector.length_toList] at this
    simp only [countersBytes]
    omega

theorem recordBytes_length (r : TestRecord) : (recordBytes r).length ≤ 1024 := by
  have hcause := optField_length_le (f := fun c : AbortCause => [u8 c.code]) (n := 1) (by simp) r.cause
  have hfv := optField_length_le (f := fun v : Three VoltFigure => voltBytes v.ab ++ voltBytes v.ae ++ voltBytes v.be)
    (n := 12) (by simp [voltBytes, s16, u16]) r.parts.fv
  have hins := optField_length_le (f := fun v : Three InsFigure => insBytes v.ab ++ insBytes v.ae ++ insBytes v.be)
    (n := 15) (by simp [insBytes, u32]) r.parts.ins
  have hcap := optField_length_le (f := capBytes) (n := 5) (fun c => by cases c <;> simp [capBytes, u16]) r.parts.cap
  have hrefl := optField_length_le (f := reflBytes) (n := 5) (fun c => by cases c <;> simp [reflBytes, u16]) r.parts.refl
  have hnoise := optField_length_le (f := fun v : NoisePart => u16 v.level ++ [flagByte v.noisy]) (n := 3) (by simp [u16])
    r.parts.noise
  have htone := optField_length_le (f := fun m : Nat => [u8 m]) (n := 1) (by simp) r.parts.tone
  simp only [recordBytes, List.length_append, List.length_cons, List.length_nil, u16_length]
  omega

/-- An answer with its data has room among 64 cells (R37, R48). -/
theorem cells_answer_le {data : List Byte} (h : data.length ≤ 1024) (tag : BitVec 16) (kind : Nat) (st : Status) :
    cellsOf (u16 tag.toNat ++ [u8 kind, u8 st.code] ++ data) ≤ 64 := by
  simp only [cellsOf, blocksOf, List.length_append, List.length_cons, List.length_nil, u16]
  omega

theorem cells_request_le {args : List Byte} (h : args.length ≤ 1024) (tag : BitVec 16) (kind : Nat) :
    cellsOf (mreqPayload tag kind args) ≤ 64 := by
  simp only [cellsOf, blocksOf, mreqPayload, List.length_append, List.length_cons, List.length_nil, u16]
  omega

/-! ## Requests that read (R156, R158) -/

section
variable {s : State} {tag : BitVec 16} {kind : Nat} {args data : List Byte} {st : Status}

/-- The checks that a request of a known kind meets (R156). -/
theorem checkRequest_eq (hk : isKind (u8 kind).toNat = true) (s : State) : checkRequest (mreqPayload tag kind args) s =
    if s.stc.startState = .loading ∧ takenInLoading (u8 kind).toNat = false then Answer.plain .notReady s
    else
      match parseArgs (u8 kind).toNat args with
      | some r => answerRequest r s
      | none => Answer.plain .refusedArgument s := by
  by_cases hl : s.stc.startState = .loading <;> cases ht : takenInLoading (u8 kind).toNat <;>
    simp [checkRequest, mreqPayload, u16, hk, hl, ht] <;> rfl

theorem checkRequest_refusedArgument (hk : isKind (u8 kind).toNat = true)
    (hl : s.stc.startState ≠ .loading ∨ takenInLoading (u8 kind).toNat = true) (h : parseArgs (u8 kind).toNat args = none) :
    checkRequest (mreqPayload tag kind args) s = Answer.plain .refusedArgument s := by
  rw [checkRequest_eq hk, if_neg (by rintro ⟨h1, h2⟩; simp_all), h]

theorem checkRequest_answers {r : Request} (hk : isKind (u8 kind).toNat = true)
    (hl : s.stc.startState ≠ .loading ∨ takenInLoading (u8 kind).toNat = true)
    (h : parseArgs (u8 kind).toNat args = some r) : checkRequest (mreqPayload tag kind args) s = answerRequest r s := by
  rw [checkRequest_eq hk, if_neg (by rintro ⟨h1, h2⟩; simp_all), h]

/-- A request that a free agent answers without an effect (R48, R156). -/
theorem request_reads (hs : AgentFree s) (hargs : args.length ≤ 1024) (hdata : data.length ≤ 1024)
    (hcheck : checkRequest (mreqPayload tag kind args) (admitRequest (mreqPayload tag kind args) s) =
      { card := admitRequest (mreqPayload tag kind args) s, status := st, data := data }) :
    request tag kind args s = .next (txArbitrate (answered tag kind st data s)) := by
  obtain ⟨-, -, hwaiting, -, -, -, -, hidle⟩ := id hs
  exact request_answered hs (cells_request_le hargs tag kind) (cells_answer_le hdata tag kind st) hcheck rfl hwaiting hidle

/-- A request that reports and changes nothing (R156, R158). -/
theorem request_reports {r : Request} (hs : AgentFree s) (hargs : args.length ≤ 1024) (hdata : data.length ≤ 1024)
    (hk : isKind (u8 kind).toNat = true) (hl : s.stc.startState ≠ .loading ∨ takenInLoading (u8 kind).toNat = true)
    (hparse : parseArgs (u8 kind).toNat args = some r)
    (hr : ∀ payload, answerRequest r (admitRequest payload s) =
      { card := admitRequest payload s, status := st, data := data }) :
    request tag kind args s = .next (txArbitrate (answered tag kind st data s)) :=
  request_reads hs hargs hdata ((checkRequest_answers (s := admitRequest _ s) hk hl hparse).trans (hr _))

end

theorem exec_cardStatus (tag : BitVec 16) (s : State) : exec (.cardStatus tag) s = request tag 9 [] s := rfl

theorem exec_portStatus (tag : BitVec 16) (port : Byte) (s : State) :
    exec (.portStatus tag port) s = request tag 1 [port] s := rfl

theorem exec_testResult (tag : BitVec 16) (port : Byte) (s : State) :
    exec (.testResult tag port) s = request tag 7 [port] s := rfl

theorem exec_readCounters (tag : BitVec 16) (scope : Byte) (clear : Bool) (s : State) :
    exec (.readCounters tag scope clear) s = request tag 8 [scope, flagByte clear] s := rfl

/-- The byte of a counter scope (R158, R174). -/
def scopeByte : Option PortId → Byte
  | some q => u8 q.val
  | none => 254

theorem parseArgs_readCounters (scope : Option PortId) (clear : Bool) :
    parseArgs 8 [scopeByte scope, flagByte clear] = some (.readCounters scope clear) := by
  have hclear : (flagByte clear).getLsbD 0 = clear := by cases clear <;> rfl
  have hparse : parseArgs 8 [scopeByte scope, flagByte clear] =
      if scopeByte scope = 254 then some (.readCounters none ((flagByte clear).getLsbD 0))
      else (portOfByte (scopeByte scope)).map fun q => .readCounters (some q) ((flagByte clear).getLsbD 0) := rfl
  rw [hparse, hclear]
  cases scope with
  | none => exact if_pos rfl
  | some q =>
    have hq : scopeByte (some q) ≠ 254 := u8_port_ne q (n := 254) (by decide) (by decide)
    rw [if_neg hq, scopeByte, portOfByte_port]
    rfl

theorem parseArgs_portStatus_eq (port : Byte) : parseArgs 1 [port] =
    if port = 255 then some (.portStatus none) else (portOfByte port).map fun q => .portStatus (some q) := rfl

theorem parseArgs_portStatus (p : PortId) : parseArgs 1 [u8 p.val] = some (.portStatus (some p)) := by
  have hp : u8 p.val ≠ 255 := u8_port_ne p (n := 255) (by decide) (by decide)
  rw [parseArgs_portStatus_eq, if_neg hp, portOfByte_port]
  rfl

theorem parseArgs_portStatus_beyond {port : Byte} (h : 16 ≤ port.toNat) (hall : port ≠ 255) :
    parseArgs 1 [port] = none := by
  rw [parseArgs_portStatus_eq, if_neg hall, portOfByte_beyond h]
  rfl

theorem parseArgs_testResult (p : PortId) : parseArgs 7 [u8 p.val] = some (.testResult p) := by
  simp [parseArgs, portOfByte_port]

/-! ## Counters cleared (R158, R164) -/

theorem clearCounters_cardCounter (scope : Option PortId) (s : State) (c : CardCounter) :
    (clearCounters scope s).cardCounter c = if scope = none then Counter.zero else s.cardCounter c := by
  cases scope with
  | none =>
    rw [if_pos rfl]
    exact tget_tconst _ _
  | some p => rfl

theorem clearCounters_portCounter (scope : Option PortId) (s : State) (q : PortId) (c : PortCounter) :
    (clearCounters scope s).portCounter q c = if scope = some q then Counter.zero else s.portCounter q c := by
  cases scope with
  | none => rfl
  | some p =>
    simp only [State.portCounter, clearCounters]
    by_cases hp : p = q
    · subst hp
      rw [if_pos rfl, tget_tset_self]
      exact tget_tconst _ _
    · rw [if_neg (by simpa using hp), tget_tset_ne _ _ hp]

/-- Settles O43: each request's answer from its checks, and the counters' clearing. -/
theorem readingRequestsReport : Obligations.ReadingRequestsReport := by
  unfold Obligations.ReadingRequestsReport
  intro s tag p hs
  refine ⟨request_reports hs (by simp) (cardStatusBytes_length s) rfl (.inr rfl) rfl fun _ => rfl,
    fun hloading port => request_reads hs (by simp) (by simp) ((checkRequest_eq rfl _).trans (if_pos ⟨hloading, rfl⟩)),
    fun hl => ⟨?_, ?_, fun port hport hall => ?_, fun r hr => ?_, fun hnone => ?_, fun scope => ?_⟩⟩
  · exact request_reports hs (by simp) ((portStatusBytes_length s p).trans (by decide)) rfl (.inl hl) (parseArgs_portStatus p) fun _ => rfl
  · refine request_reports hs (by simp) ?_ rfl (.inl hl) (parseArgs_portStatus_eq 255) fun _ => rfl
    have hall := flatMap_length_le (portStatusBytes_length s) allPorts
    have hports : allPorts.length = 16 := by decide
    omega
  · exact request_reads hs (by simp) (by simp)
      (checkRequest_refusedArgument rfl (.inl hl) (parseArgs_portStatus_beyond hport hall))
  · refine request_reports hs (by simp) (recordBytes_length r) rfl (.inl hl) (parseArgs_testResult p) fun payload => ?_
    simp only [answerRequest, askTestResult, admitRequest, hr]
  · refine request_reports hs (by simp) (by simp) rfl (.inl hl) (parseArgs_testResult p) fun payload => ?_
    simp only [answerRequest, askTestResult, admitRequest, hnone]
    rfl
  · have hscope (payload : List Byte) (clear : Bool) : answerRequest (.readCounters scope clear) (admitRequest payload s) =
        { card := admitRequest payload (if clear then clearCounters scope s else s), status := .ok,
          data := countersBytes s scope } := by
      cases clear <;> cases scope <;> rfl
    intro byte
    have hbyte : byte = scopeByte scope := by cases scope <;> rfl
    clear_value byte
    subst hbyte
    refine ⟨request_reports hs (by simp) (countersBytes_length s scope) rfl (.inl hl) (parseArgs_readCounters scope false)
      fun payload => hscope payload false, ?_⟩
    obtain ⟨-, -, hwaiting, -, -, -, -, hidle⟩ := id hs
    have hkeeps : (clearCounters scope s).fst = s.fst ∧ (clearCounters scope s).mga.waiting = s.mga.waiting ∧
        (clearCounters scope s).tsq = s.tsq ∧ (clearCounters scope s).mga.flags = s.mga.flags ∧
        (clearCounters scope s).ports = s.ports := by
      cases scope <;> exact ⟨rfl, rfl, rfl, rfl, rfl⟩
    obtain ⟨hfst, hcwaiting, htsq, hflags, hports⟩ := hkeeps
    refine ⟨_, request_answered (u := clearCounters scope s) hs (cells_request_le (by simp) tag 8)
      (cells_answer_le (countersBytes_length s scope) tag 8 .ok)
      ((checkRequest_answers (s := admitRequest _ s) (kind := 8) rfl (.inl hl) (parseArgs_readCounters scope true)).trans
        (hscope _ true)) hfst (hcwaiting.trans hwaiting) (htsq ▸ hidle), ?_⟩
    obtain ⟨_, _, _, _, hw⟩ := txArbitrate_writes (answered tag 8 .ok (countersBytes s scope) (clearCounters scope s))
    rw [hw]
    refine ⟨?_, clearCounters_cardCounter scope s, clearCounters_portCounter scope s, hflags, hports⟩
    simp only [answered, hfst]

end Sys2Proof.Machine
end

section
/-! SUPPORT. Proofs about the management requests that act on the card (R46, R48, R156). -/

namespace Sys2Proof.Machine

/-! ## A request with an effect (R48, R156) -/

/-- What the placement of an answer looks at beside the pools: the response queue, the request queue and the waiting list. -/
def State.desk (s : State) : List Frame × List Frame × List WaitItem := (s.fst.responses, s.fst.requests, s.mga.waiting)

/-- The state after an answer is placed is the effect's but for the management queues and the pools. -/
structure OnlyAnswers (v w : State) : Prop where
  ports : w.ports = v.ports
  tsq : w.tsq = v.tsq
  msu : w.msu = v.msu
  clt : w.clt = v.clt
  bau : w.bau = v.bau
  usc : w.usc = v.usc
  mga : w.mga = v.mga
  stc : w.stc = v.stc
  cfg : w.cfg = v.cfg
  queues : w.fst.up = v.fst.up ∧ w.fst.down = v.fst.down ∧ w.fst.pull = v.fst.pull

theorem OnlyAnswers.placeAnswer (bytes : List Byte) (v : State) : OnlyAnswers v (placeAnswer bytes v) := by
  unfold Machine.placeAnswer removeRequestHead
  split <;> exact ⟨rfl, rfl, rfl, rfl, rfl, rfl, rfl, rfl, rfl, rfl, rfl, rfl⟩

theorem OnlyAnswers.port {v w : State} (h : OnlyAnswers v w) (q : PortId) : w.port q = v.port q := by
  rw [State.port, h.ports, State.port]

theorem OnlyAnswers.portCounter {v w : State} (h : OnlyAnswers v w) (q : PortId) (c : PortCounter) :
    w.portCounter q c = v.portCounter q c := by
  rw [State.portCounter, h.mga, State.portCounter]

section
variable {s v : State} {tag : BitVec 16} {kind : Nat} {args : List Byte} {st : Status}

theorem cellsOf_answer_plain (tag : BitVec 16) (kind : Nat) (st : Status) :
    cellsOf (u16 tag.toNat ++ [u8 kind, u8 st.code] ++ []) = 1 := by
  simp [cellsOf, blocksOf, u16]

theorem mrspPayload_mreqPayload (tag : BitVec 16) (kind : Nat) (args : List Byte) (st : Status) (data : List Byte) :
    mrspPayload (mreqPayload tag kind args) st data = u16 tag.toNat ++ [u8 kind, u8 st.code] ++ data := rfl

/-- An admitted request is the agent's work of the step (R47, R156). -/
theorem request_settles (hs : AgentFree s) (hargs : args.length ≤ 1024) :
    request tag kind args s = .next (settle (admitRequest (mreqPayload tag kind args) s)) := by
  obtain ⟨h0, hq, -, -, -, hcells, hrecords, -⟩ := hs
  have hadmit : completeMreq (stageBus (mreqPayload tag kind args) s) = admitRequest (mreqPayload tag kind args) s :=
    completeMreq_of_room (by simp [hq]) ((cells_request_le hargs tag kind).trans hcells) hrecords
  rw [request, heard_running h0, event, hadmit]

/-- The end of a step with one request and a free agent: the request is taken, the start choice follows, and the waiting items
are offered (R116, R156, R157). -/
theorem settle_admitRequest (hs : AgentFree s) (payload : List Byte) :
    settle (admitRequest payload s) = txArbitrate (offered (startChoice (takeRequest (admitRequest payload s)))) := by
  obtain ⟨h0, hq, hw, hrestart, hp, -, -, hidle⟩ := hs
  have hbefore : startChoice (admitRequest payload s) = admitRequest payload s := startChoice_of_noQueue_or_running hidle
  have hstc : (admitRequest payload s).stc.startState ≠ .reset := h0
  have hwaiting : (admitRequest payload s).mga.waiting = [] := hw
  rw [settle, if_neg hstc, hbefore]
  simp [mgaWork, admitRequest_requests hq, mgaRun, hwaiting, offerWaiting, canTake_admitRequest hw hp hrestart, offered]

/-- A request whose effect leaves the management queues alone is answered within its step (R48, R156). -/
theorem request_acts (hs : AgentFree s) (hargs : args.length ≤ 1024)
    (hcheck : checkRequest (mreqPayload tag kind args) (admitRequest (mreqPayload tag kind args) s) = Answer.plain st v)
    (hdesk : v.desk = (admitRequest (mreqPayload tag kind args) s).desk) (hout : v.stc.startState ≠ .reset)
    (hidle : v.tsq.queue = [] ∨ v.tsq.running ≠ none) :
    ∃ w, request tag kind args s = .next (settle w) ∧ Quiet w ∧ OnlyAnswers v w ∧
      (settle w).fst.responses = (answered tag kind st [] s).fst.responses := by
  obtain ⟨h0, hq, hw, -, hp, -⟩ := id hs
  simp only [State.desk, Prod.mk.injEq, admitRequest_requests hq] at hdesk
  obtain ⟨hresponses, hrequests, hwaiting⟩ := hdesk
  have hvw : v.mga.waiting = [] := hwaiting.trans hw
  have hvp : v.fst.responses = s.fst.responses := hresponses
  generalize hbytes : u16 tag.toNat ++ [u8 kind, u8 st.code] ++ [] = bytes
  have hcells : cellsOf bytes = 1 := by rw [← hbytes, cellsOf_answer_plain]
  have hfits : answerFits bytes v = true := by
    have hone : 1 ≤ cellsOf (mreqPayload tag kind args) := le_max_left _ _
    simp only [answerFits, Fst.placeable, returning, hrequests, Frame.cells, hcells, hvp, Bool.and_eq_true, decide_eq_true_eq]
    omega
  have htake : takeRequest (admitRequest (mreqPayload tag kind args) s) = placeAnswer bytes v := by
    simp only [takeRequest, admitRequest_requests hq, hcheck, Answer.plain, mrspPayload_mreqPayload, hbytes, offerAnswer, hfits,
      if_true]
  have honly := OnlyAnswers.placeAnswer bytes v
  have hplaced : (placeAnswer bytes v).fst.requests = [] ∧ (placeAnswer bytes v).fst.responses =
      s.fst.responses ++ [{ kind := .mrsp, port := 31, payload := bytes, inFlight := false }] := by
    simp [placeAnswer, removeRequestHead, hrequests, Fst.giveBack, Fst.placeResponse, Fst.takeOut, hvp]
  obtain ⟨hrequests', hresponses'⟩ := hplaced
  generalize placeAnswer bytes v = w at *
  have hwidle : w.tsq.queue = [] ∨ w.tsq.running ≠ none := honly.tsq ▸ hidle
  have hquiet : Quiet w := ⟨honly.stc ▸ hout, hwidle, hrequests'⟩
  have hsettle : settle (admitRequest (mreqPayload tag kind args) s) = settle w := by
    rw [settle_admitRequest hs, htake, startChoice_of_noQueue_or_running hwidle, hquiet.settle_eq]
    rfl
  refine ⟨w, by rw [request_settles hs hargs, hsettle], hquiet, honly, ?_⟩
  have hoffered : settle w = txArbitrate w := by
    rw [hquiet.settle_eq, honly.mga, hvw]
    rfl
  obtain ⟨_, _, _, _, hwrites⟩ := txArbitrate_writes w
  rw [hoffered, hwrites, answered, hbytes]
  exact hresponses'

end

/-! ## What leaves the management queues alone -/

section
variable {s : State} {p : PortId}

theorem flushPort_desk (h : (s.portCounter p .flushed).saturates (flushedFrom (tget s.fst.up p) ++ tget s.fst.down p).length
    = false) : (flushPort p s).desk = s.desk := by
  unfold flushPort
  dsimp only
  rw [countPort_of_below]
  · rfl
  · exact h

/-- A change of line state counts FLUSHED and SHEDS alone (R11, R46). -/
theorem changeState_desk {ns : LineState} {w l : Bool} (hns : ns ≠ .shed)
    (h : ns.flushes = true →
      (s.portCounter p .flushed).saturates (flushedFrom (tget s.fst.up p) ++ tget s.fst.down p).length = false) :
    (changeState p ns w l s).desk = s.desk := by
  have hleft : ∀ t : State, t.desk = s.desk → t.mga = s.mga → t.fst.up = s.fst.up → t.fst.down = s.fst.down →
      (if ns = .inService then uscEnterService p (if ns.flushes then flushPort p t else t)
        else if ns.flushes then flushPort p t else t).desk = s.desk := by
    intro t hdesk hmga hup hdown
    have hflush : (if ns.flushes then flushPort p t else t).desk = s.desk := by
      split
      · next hf => rw [flushPort_desk (by rw [State.portCounter, hmga, hup, hdown]; exact h hf), hdesk]
      · exact hdesk
    split
    · rw [State.desk, uscEnterService_fst, uscEnterService_mga]
      exact hflush
    · exact hflush
  unfold changeState
  simp only [if_neg hns]
  refine hleft _ ?_ ?_ ?_ ?_
  all_goals split <;> simp [State.desk]

theorem changeState_flushed {ns : LineState} {w l : Bool} (hns : ns.flushes = true) :
    (changeState p ns w l s).portCounter p .flushed =
      (s.portCounter p .flushed).rise (flushedFrom (tget s.fst.up p) ++ tget s.fst.down p).length := by
  have hflush : ∀ t : State, t.mga = s.mga → t.fst.up = s.fst.up → t.fst.down = s.fst.down →
      (flushPort p t).portCounter p .flushed =
        (s.portCounter p .flushed).rise (flushedFrom (tget s.fst.up p) ++ tget s.fst.down p).length := by
    intro t hmga hup hdown
    rw [flushPort_portCounter, if_pos ⟨rfl, rfl⟩, State.portCounter, hmga, hup, hdown]
    rfl
  have hns' : ns ≠ .inService := by
    rintro rfl
    exact absurd hns (by decide)
  unfold changeState
  simp only [if_pos hns, if_neg hns']
  split
  · rw [countPort_portCounter, if_neg (by simp)]
    refine hflush _ ?_ ?_ ?_ <;> split <;> simp
  · refine hflush _ ?_ ?_ ?_ <;> split <;> simp

/-- The arbiter marks no head of a port that is off the scheduler's list (R93). -/
theorem txArbitrate_up_of_not_active (h : p ∉ s.usc.active) : tget (txArbitrate s).fst.up p = tget s.fst.up p := by
  have hdata : ∀ t : State, t.usc = s.usc → t.fst = s.fst → tget (takeData t).fst.up p = tget s.fst.up p := by
    intro t husc hfst
    obtain ht | ⟨q, rest, _, _, _, hactive, _, ht⟩ := takeData_cases t
    · rw [ht, hfst]
    · have hq : q ≠ p := by
        rintro rfl
        exact h (by rw [← husc, hactive]; exact List.mem_cons_self)
      rw [ht]
      exact (tget_tset_ne _ _ hq).trans (by rw [← hfst]; rfl)
  unfold txArbitrate
  split
  · split
    · rfl
    · unfold chooseBelowControl
      split
      · split
        · exact hdata s rfl rfl
        · rfl
      · split
        · rfl
        · split
          · split
            · rfl
            · exact hdata _ rfl rfl
          · rfl
  · rfl

end

end Sys2Proof.Machine
end

section
/-! SUPPORT. Proofs about the requests that act on a port (R9, R13, R16, R17, R35, R46, R123). -/

namespace Sys2Proof.Machine

/-! ## Arguments (R159, R174) -/

theorem exec_weight (tag : BitVec 16) (port v : Byte) (s : State) : exec (.weight tag port v) s = request tag 4 [port, v] s :=
  rfl

theorem exec_portAdminEnable (tag : BitVec 16) (port : Byte) (s : State) :
    exec (.portAdminEnable tag port) s = request tag 2 [port, 1] s := rfl

theorem exec_portAdminDisable (tag : BitVec 16) (port : Byte) (s : State) :
    exec (.portAdminDisable tag port) s = request tag 2 [port, 0] s := rfl

theorem exec_retrain (tag : BitVec 16) (port : Byte) (s : State) : exec (.retrain tag port) s = request tag 3 [port] s := rfl

theorem parseArgs_weight (p : PortId) (v : Byte) : parseArgs 4 [u8 p.val, v] = some (.weight p v) := by
  simp [parseArgs, portOfByte_port]

theorem parseArgs_weight_beyond {port : Byte} (h : 16 ≤ port.toNat) (v : Byte) : parseArgs 4 [port, v] = none := by
  simp [parseArgs, portOfByte_beyond h]

theorem parseArgs_enable (p : PortId) : parseArgs 2 [u8 p.val, 1] = some (.portAdmin p true) := by
  simp [parseArgs, portOfByte_port]

theorem parseArgs_disable (p : PortId) : parseArgs 2 [u8 p.val, 0] = some (.portAdmin p false) := by
  simp [parseArgs, portOfByte_port]

theorem parseArgs_retrain (p : PortId) : parseArgs 3 [u8 p.val] = some (.retrain p) := by
  simp [parseArgs, portOfByte_port]

/-! ## A known request out of LOADING (R156) -/

section
variable {s v : State} {tag : BitVec 16} {kind : Nat} {args : List Byte} {st : Status} {r : Request}

/-- A request that writes no field of the Frame Store is answered with its effect (R48, R156). -/
theorem request_writes (hs : AgentFree s) (hl : s.stc.startState ≠ .loading) (hk : isKind (u8 kind).toNat = true)
    (hargs : args.length ≤ 1024) (hparse : parseArgs (u8 kind).toNat args = some r)
    (hr : ∀ payload, answerRequest r (admitRequest payload s) = Answer.plain st (admitRequest payload v))
    (hfst : v.fst = s.fst) (hwaiting : v.mga.waiting = s.mga.waiting) (hidle : v.tsq.queue = [] ∨ v.tsq.running ≠ none) :
    request tag kind args s = .next (txArbitrate (answered tag kind st [] v)) := by
  obtain ⟨-, -, hw, -⟩ := id hs
  exact request_answered hs (cells_request_le hargs tag kind) (cells_answer_le (by simp) tag kind st)
    ((checkRequest_answers (s := admitRequest _ s) hk (.inl hl) hparse).trans (hr _)) hfst (hwaiting.trans hw) hidle

/-- A request that takes effect on the admitted card (R48, R156). -/
theorem request_does (hs : AgentFree s) (hl : s.stc.startState ≠ .loading) (hk : isKind (u8 kind).toNat = true)
    (hargs : args.length ≤ 1024) (hparse : parseArgs (u8 kind).toNat args = some r)
    (hr : answerRequest r (admitRequest (mreqPayload tag kind args) s) = Answer.plain st v)
    (hdesk : v.desk = (admitRequest (mreqPayload tag kind args) s).desk) (hstc : v.stc = s.stc)
    (hidle : v.tsq.queue = [] ∨ v.tsq.running ≠ none) :
    ∃ w, request tag kind args s = .next (settle w) ∧ Quiet w ∧ OnlyAnswers v w ∧
      (settle w).fst.responses = (answered tag kind st [] s).fst.responses :=
  request_acts hs hargs ((checkRequest_answers (s := admitRequest _ s) hk (.inl hl) hparse).trans hr) hdesk
    (hstc ▸ hs.1) hidle

end

/-! ## Enable (R16) -/

theorem Port.to_admin (ns : LineState) (w : Bool) (r : Port) : (r.to ns w).admin = r.admin := by
  have hleave : (r.leave ns false).admin = r.admin := by
    unfold Port.leave
    dsimp only
    split <;> rfl
  have hpower (m : PowerMode) (r : Port) : (r.powerTo m).admin = r.admin := by
    unfold Port.powerTo
    dsimp only
    repeat' split
    all_goals rfl
  have henter (r : Port) : (r.enter ns w).admin = r.admin := by
    unfold Port.enter
    simp only [hpower]
    cases ns <;> rfl
  exact (henter _).trans hleave

section
variable {s : State} {p : PortId}

theorem enablePort_plain (h : s.stc.startState = .joining ∨
    ((s.port p).lineState ≠ .disabled ∧ ¬((s.port p).lineState = .faulted ∧ (s.port p).admin = true))) :
    enablePort p s = Answer.plain .ok (s.setPort p { s.port p with admin := true }) := by
  obtain h | ⟨hdisabled, hfaulted⟩ := h
  · simp [enablePort, h]
  · simp [enablePort, hdisabled]
    tauto

theorem enablePort_refused (hrunning : s.stc.startState = .running) (hfaulted : (s.port p).lineState = .faulted)
    (hadmin : (s.port p).admin = true) : enablePort p s = Answer.plain .refusedState s :=
  if_pos ⟨hrunning, hfaulted, hadmin⟩

theorem enablePort_disabled (hrunning : s.stc.startState = .running) (hdisabled : (s.port p).lineState = .disabled)
    (hcabinet : s.smn.cabinet = .mains ∨ s.smn.cabinet = .battery) : enablePort p s =
      Answer.plain .ok (changeState p .waiting false false (s.setPort p { s.port p with admin := true })) := by
  have hto : ∀ t : State, t.smn = s.smn → toWaiting p false t = changeState p .waiting false false t := fun t ht => by
    unfold toWaiting
    obtain h | h := hcabinet <;> simp [ht, h, waitTarget]
  have henable : enablePort p s = Answer.plain .ok (toWaiting p false (s.setPort p { s.port p with admin := true })) := by
    simp [enablePort, hdisabled, hrunning]
  rw [henable, hto (s.setPort p { s.port p with admin := true }) rfl]

/-! ## Disable (R17) -/

/-- The card with a port's admin field clear and its queued request gone (R17). -/
def adminCleared (p : PortId) (s : State) : State := dequeuePort p (s.setPort p { s.port p with admin := false })

/-- The card with a port taken to DISABLED where it leaves its line state at once (R17). -/
def adminMoved (p : PortId) (s : State) : State :=
  if (s.port p).lineState.leavesAtDisable then changeState p .disabled false false (adminCleared p s) else adminCleared p s

theorem disablePort_eq (p : PortId) (s : State) : disablePort p s =
    Answer.plain .ok (if (adminMoved p s).tsq.runs p then abortTest .admin (adminMoved p s) else adminMoved p s) := by
  have hline : ((adminCleared p s).port p).lineState = (s.port p).lineState := by
    simp [adminCleared, dequeuePort, State.port, State.setPort]
  have hmoved : adminMoved p s =
      if ((adminCleared p s).port p).lineState.leavesAtDisable then changeState p .disabled false false (adminCleared p s)
      else adminCleared p s := by rw [hline, adminMoved]
  rw [hmoved]
  rfl

theorem adminCleared_port (p q : PortId) (s : State) :
    (adminCleared p s).port q = if p = q then { s.port p with admin := false } else s.port q := setPort_port _ _ _ _

theorem adminMoved_tsq (p : PortId) (s : State) :
    (adminMoved p s).tsq = { s.tsq with queue := s.tsq.queue.filter (fun q => q.port != p) } := by
  unfold adminMoved
  split
  · rw [changeState_tsq]
    rfl
  · rfl

theorem adminMoved_stays (h : (s.port p).lineState.leavesAtDisable = false) : adminMoved p s = adminCleared p s :=
  if_neg (by simp [h])

theorem adminMoved_others {q : PortId} (hq : q ≠ p) : (adminMoved p s).port q = s.port q := by
  have hcleared : (adminCleared p s).port q = s.port q := by rw [adminCleared_port, if_neg hq.symm]
  unfold adminMoved
  split
  · rw [changeState_others _ _ _ _ _ _ hq.symm, hcleared]
  · exact hcleared

theorem adminMoved_leaves (h : (s.port p).lineState.leavesAtDisable = true) :
    let t := adminMoved p s
    t.port p = ({ s.port p with admin := false } : Port).to .disabled false ∧
      tget t.fst.up p = keptByFlush (tget s.fst.up p) ∧ tget t.fst.down p = [] ∧ tget t.fst.pull p = false ∧
      t.portCounter p .flushed =
        (s.portCounter p .flushed).rise (flushedFrom (tget s.fst.up p) ++ tget s.fst.down p).length := by
  have hcleared : (adminCleared p s).port p = { s.port p with admin := false } := by rw [adminCleared_port, if_pos rfl]
  rw [adminMoved, if_pos h]
  refine ⟨?_, ?_, ?_, ?_, ?_⟩
  · rw [changeState_port_self, hcleared]
    rfl
  · rw [changeState_up]
    exact tget_tset_self _ _ _
  · rw [changeState_down]
    exact tget_tset_self _ _ _
  · rw [changeState_pull_of_flushes _ _ _ _ _ rfl]
    exact tget_tset_self _ _ _
  · exact changeState_flushed rfl

theorem adminMoved_desk (h : (s.portCounter p .flushed).saturates (flushedFrom (tget s.fst.up p) ++ tget s.fst.down p).length
    = false) : (adminMoved p s).desk = s.desk := by
  unfold adminMoved
  split
  · exact (changeState_desk (s := adminCleared p s) (by decide) fun _ => h).trans rfl
  · rfl

end

/-! ## Retrain (R35) -/

section
variable {s : State} {p : PortId}

theorem countPort_retrains_desk (h : (s.portCounter p .retrains).saturates 1 = false) :
    (countPort p .retrains 1 s).desk = s.desk := by
  rw [countPort_of_below h]
  rfl

/-- The record of a port in service that is sent to HOLD (R20, R24). -/
theorem Port.to_hold_of_inService {r : Port} (h : r.lineState = .inService) :
    (r.to .hold false).lineState = .hold ∧ (r.to .hold false).phase = .none ∧ (r.to .hold false).attempt = r.attempt ∧
      (r.to .hold false).profile = none ∧ (r.power = .on → (r.to .hold false).linkOut = r.linkOut ++ [.abandon]) := by
  by_cases hp : r.power = .on <;>
    simp [Port.to, Port.leave, Port.needsAbandon, h, Port.enter, Port.powerTo, powerModeOf, Port.send, hp]

/-- What a retrain from service does, whether its binder is claimed or not (R9, R24, R35). -/
theorem retrainPort_acts (hl : (s.port p).lineState = .inService) (hbelow : (s.portCounter p .retrains).saturates 1 = false) :
    let t := retrainPort p s
    let r := s.port p
    t.desk = s.desk ∧ t.stc = s.stc ∧ t.tsq = s.tsq ∧
      (s.claimed r.binder = false → (t.port p).lineState = .training ∧ (t.port p).phase = .report ∧
        (t.port p).attempt = r.attempt + 1) ∧
      (s.claimed r.binder = true → (t.port p).lineState = .hold ∧ (t.port p).phase = .none ∧
        (t.port p).attempt = r.attempt ∧ (r.power = .on → (t.port p).linkOut = r.linkOut ++ [.abandon])) ∧
      (t.port p).profile = none ∧ t.fst.up = s.fst.up ∧ t.fst.down = s.fst.down ∧ p ∉ t.usc.active ∧
      t.portCounter p .retrains = (s.portCounter p .retrains).rise 1 ∧ ∀ q, q ≠ p → t.port q = s.port q := by
  have hcounted : (countPort p .retrains 1 s).portCounter p .retrains = (s.portCounter p .retrains).rise 1 := by
    simp [countPort_portCounter]
  have hdesk := countPort_retrains_desk hbelow
  have hup : (countPort p .retrains 1 s).fst.up = s.fst.up ∧ (countPort p .retrains 1 s).fst.down = s.fst.down := by
    obtain ⟨_, _, _, hfst⟩ := countPort_fst p .retrains 1 s
    rw [hfst]
    exact ⟨rfl, rfl⟩
  obtain ⟨hup, hdown⟩ := hup
  have hleaves (ns : LineState) (hns : ns = .training ∨ ns = .hold) :
      let t := changeState p ns false false (countPort p .retrains 1 s)
      t.desk = s.desk ∧ t.port p = (s.port p).to ns false ∧ t.fst.up = s.fst.up ∧ t.fst.down = s.fst.down ∧
        p ∉ t.usc.active ∧ t.portCounter p .retrains = (s.portCounter p .retrains).rise 1 ∧
        ∀ q, q ≠ p → t.port q = s.port q := by
    have hkeeps : ns.flushes = false ∧ ns ≠ .shed := by obtain rfl | rfl := hns <;> decide
    obtain ⟨hflushes, hshed⟩ := hkeeps
    refine ⟨?_, ?_, ?_, ?_, changeState_not_mem_active (.inl ?_), ?_, fun q hq => ?_⟩
    · rw [changeState_desk hshed (by simp [hflushes]), hdesk]
    · rw [changeState_port_self, countPort_port]
      rfl
    · rw [changeState_up, if_neg (by simp [hflushes]), hup]
    · rw [changeState_down, if_neg (by simp [hflushes]), hdown]
    · rw [countPort_port, hl]
    · rw [changeState_portCounter _ _ _ _ _ _ (by decide), if_neg (by simp), hcounted]
    · rw [changeState_others _ _ _ _ _ _ hq.symm, countPort_port]
  cases hc : s.claimed (s.port p).binder with
  | false =>
    obtain ⟨kdesk, kport, kup, kdown, kactive, kcount, kothers⟩ := hleaves .training (.inl rfl)
    obtain ⟨hline, -, hprofile, hphase, hattempt, -⟩ := Port.startTraining_fields (s.port p)
    have hport : (retrainPort p s).port p = ((s.port p).to .training false).startTraining := by
      rw [retrainPort_eq hl hc, modPort_port_self, kport]
    intro t r
    have ht : t = _ := retrainPort_eq hl hc
    refine ⟨?_, ?_, ?_, fun _ => ?_, fun h => absurd (hc.symm.trans h) (by decide), ?_, ?_, ?_, ?_, ?_,
      fun q hq => ?_⟩
    · rw [ht]
      exact kdesk
    · simp [ht]
    · simp [ht]
    · rw [hport]
      exact ⟨hline, hphase, hattempt⟩
    · rw [hport]
      exact hprofile
    · rw [ht]
      exact kup
    · rw [ht]
      exact kdown
    · rw [ht]
      exact kactive
    · rw [ht]
      exact kcount
    · rw [ht, modPort_port_ne _ _ hq.symm]
      exact kothers q hq
  | true =>
    obtain ⟨kdesk, kport, kup, kdown, kactive, kcount, kothers⟩ := hleaves .hold (.inr rfl)
    obtain ⟨hline, hphase, hattempt, hprofile, habandon⟩ := Port.to_hold_of_inService hl
    have ht : retrainPort p s = changeState p .hold false false (countPort p .retrains 1 s) := if_pos (by simpa using hc)
    intro t r
    have ht' : t = _ := ht
    rw [ht', kport]
    exact ⟨kdesk, by simp, by simp, fun h => absurd (hc.symm.trans h) (by decide), fun _ => ⟨hline, hphase, hattempt, habandon⟩, hprofile, kup,
      kdown, kactive, kcount, kothers⟩

end

/-- A request whose effect raises notices of its own still has its effect: the offers that follow leave it as it is (R128,
R156). -/
theorem request_effect {s v : State} {tag : BitVec 16} {kind : Nat} {args : List Byte} {st : Status} {r : Request}
    (hs : AgentFree s) (hl : s.stc.startState ≠ .loading) (hk : isKind (u8 kind).toNat = true) (hargs : args.length ≤ 1024)
    (hparse : parseArgs (u8 kind).toNat args = some r)
    (hr : answerRequest r (admitRequest (mreqPayload tag kind args) s) = Answer.plain st v)
    (hidle : v.tsq.queue = [] ∨ v.tsq.running ≠ none) :
    ∃ u, request tag kind args s = .next (txArbitrate u) ∧ u.ports = v.ports ∧ u.tsq = v.tsq ∧ u.clt = v.clt ∧
      u.bau = v.bau := by
  obtain ⟨-, hq, -⟩ := id hs
  have htake : takeRequest (admitRequest (mreqPayload tag kind args) s) =
      offerAnswer (mrspPayload (mreqPayload tag kind args) st []) v := by
    simp only [takeRequest, admitRequest_requests hq,
      (checkRequest_answers (s := admitRequest _ s) hk (.inl hl) hparse).trans hr, Answer.plain]
  have hoffer : let w := offerAnswer (mrspPayload (mreqPayload tag kind args) st []) v
      w.ports = v.ports ∧ w.tsq = v.tsq ∧ w.clt = v.clt ∧ w.bau = v.bau := by
    intro w
    by_cases hfits : answerFits (mrspPayload (mreqPayload tag kind args) st []) v = true
    · have hw : w = placeAnswer _ v := if_pos hfits
      have honly := OnlyAnswers.placeAnswer (mrspPayload (mreqPayload tag kind args) st []) v
      rw [hw]
      exact ⟨honly.ports, honly.tsq, honly.clt, honly.bau⟩
    · have hw : w = joinWaiting _ v := if_neg hfits
      rw [hw]
      exact ⟨rfl, rfl, rfl, rfl⟩
  refine ⟨_, (request_settles hs hargs).trans (congrArg Host.Outcome.next (settle_admitRequest hs _)), ?_⟩
  obtain ⟨kports, ktsq, kclt, kbau⟩ := hoffer
  rw [htake, startChoice_of_noQueue_or_running (by rwa [ktsq])]
  obtain ⟨_, _, _, _, _, hoffered⟩ := offered_eq (offerAnswer (mrspPayload (mreqPayload tag kind args) st []) v)
  rw [hoffered]
  exact ⟨kports, ktsq, kclt, kbau⟩

theorem Quiet.settle_up_of_not_active {w : State} {p : PortId} (h : Quiet w) (hp : p ∉ w.usc.active) :
    tget (settle w).fst.up p = tget w.fst.up p := by
  obtain ⟨_, _, _, _, _, hoffered⟩ := offered_eq w
  have hsettle : settle w = txArbitrate (offered w) := h.settle_eq
  have hup : tget (offered w).fst.up p = tget w.fst.up p := by rw [hoffered]
  rw [hsettle, txArbitrate_up_of_not_active (by rw [hoffered]; exact hp), hup]

theorem runs_iff (t : Tsq) (p : PortId) : t.runs p = true ↔ ∃ run, t.running = some run ∧ run.req.port = p := by
  cases h : t.running <;> simp [Tsq.runs, h]

/-! ## What a disable does to the test that runs on its port (R123) -/

theorem leavesAtDisable_iff (l : LineState) :
    l.leavesAtDisable = true ↔ l ≠ .testing ∧ l ≠ .faulted ∧ l ≠ .disabled := by
  cases l <;> decide

section
variable {s : State} {p : PortId} {run : Running}

theorem disablePort_untested (h : ∀ run, s.tsq.running = some run → run.req.port ≠ p ∨ run.st = .restoring) :
    disablePort p s = Answer.plain .ok (adminMoved p s) := by
  rw [disablePort_eq]
  split
  · next hruns =>
    obtain ⟨run, hrun, hport⟩ := (runs_iff _ _).mp hruns
    rw [abortTest_restoring hrun]
    rw [adminMoved_tsq] at hrun
    exact (h run hrun).resolve_left (· hport)
  · rfl

theorem adminMoved_running (hrun : s.tsq.running = some run) : (adminMoved p s).tsq.running = some run := by
  rw [adminMoved_tsq, hrun]

theorem disablePort_tested (hrun : s.tsq.running = some run) (hport : run.req.port = p) :
    disablePort p s = Answer.plain .ok (abortTest .admin (adminMoved p s)) := by
  rw [disablePort_eq, if_pos ((runs_iff _ _).mpr ⟨run, adminMoved_running hrun, hport⟩)]

/-- The end of a test whose port neither is TESTING nor holds leaves the port where it stands (R128). -/
theorem endTest_port_stays (hrun : s.tsq.running = some run) (htesting : (s.port run.req.port).lineState ≠ .testing)
    (hhold : (s.port run.req.port).lineState ≠ .hold) :
    (endTest s).port run.req.port = (s.port run.req.port).learn run.parts := by
  have hport : (endNoticed run s).port run.req.port = (s.port run.req.port).learn run.parts := by
    rw [endNoticed_port, if_pos rfl, claimGiven_port_eq hhold]
  have hstays : portAfterTest run (endOutcome run) (endNoticed run s) = endNoticed run s := by
    refine if_neg ?_
    rw [hport, (Port.learn_keeps _ _).1]
    exact htesting
  rw [endTest_eq hrun, hstays]
  exact hport

/-- The record of a port whose test relay opens as its admin field is cleared (R17, R121). -/
theorem openTest_adminCleared (s : State) (p : PortId) :
    (openTest p (adminCleared p s)).port p = { s.port p with admin := false, testClosed := false } ∧
      ∀ q, q ≠ p → (openTest p (adminCleared p s)).port q = s.port q := by
  refine ⟨?_, fun q hq => ?_⟩
  · rw [openTest, modPort_port_self, adminCleared_port, if_pos rfl]
  · rw [openTest, modPort_port_ne _ _ hq.symm, adminCleared_port, if_neg hq.symm]

end

section
variable {s : State} {tag : BitVec 16} {p : PortId} {v : State}

/-- A disable with its effect (R17, R156). -/
theorem disable_does (hs : AgentFree s) (hl : s.stc.startState ≠ .loading)
    (hv : disablePort p (admitRequest (mreqPayload tag 2 [u8 p.val, 0]) s) = Answer.plain .ok v)
    (hdesk : v.desk = (admitRequest (mreqPayload tag 2 [u8 p.val, 0]) s).desk) (hstc : v.stc = s.stc)
    (hidle : v.tsq.queue = [] ∨ v.tsq.running ≠ none) :
    ∃ w, exec (.portAdminDisable tag (u8 p.val)) s = .next (settle w) ∧ Quiet w ∧ OnlyAnswers v w ∧
      (settle w).fst.responses = (answered tag 2 .ok [] s).fst.responses :=
  request_does (r := .portAdmin p false) hs hl rfl (by simp) (parseArgs_disable p) hv hdesk hstc hidle

theorem adminMoved_stc (p : PortId) (s : State) : (adminMoved p s).stc = s.stc := by
  unfold adminMoved
  split
  · exact changeState_stc ..
  · rfl

theorem adminMoved_idle (hidle : s.tsq.queue = [] ∨ s.tsq.running ≠ none) :
    (adminMoved p s).tsq.queue = [] ∨ (adminMoved p s).tsq.running ≠ none := by
  rw [adminMoved_tsq]
  exact hidle.imp_left fun h => by simp [h]

/-- A disable that leaves no test to abort (R17). -/
theorem disable_untested (hs : AgentFree s) (hl : s.stc.startState ≠ .loading)
    (hbelow : (s.portCounter p .flushed).saturates (flushedFrom (tget s.fst.up p) ++ tget s.fst.down p).length = false)
    (hrun : ∀ run, s.tsq.running = some run → run.req.port ≠ p ∨ run.st = .restoring) :
    ∃ t, exec (.portAdminDisable tag (u8 p.val)) s = .next t ∧
      t.fst.responses = (answered tag 2 .ok [] s).fst.responses ∧ (t.port p).admin = false ∧
      ((s.port p).lineState.leavesAtDisable = true → (t.port p).lineState = .disabled ∧ (t.port p).power = .off ∧
        tget t.fst.up p = keptByFlush (tget s.fst.up p) ∧ tget t.fst.down p = [] ∧ tget t.fst.pull p = false ∧
        t.portCounter p .flushed =
          (s.portCounter p .flushed).rise (flushedFrom (tget s.fst.up p) ++ tget s.fst.down p).length) ∧
      ((s.port p).lineState.leavesAtDisable = false → t.port p = { s.port p with admin := false }) ∧
      t.tsq.queue = s.tsq.queue.filter (fun q => q.port != p) ∧ t.tsq.running = s.tsq.running ∧
      ∀ q, q ≠ p → t.port q = s.port q := by
  obtain ⟨-, -, -, -, -, -, -, hidle⟩ := id hs
  obtain ⟨w, hexec, hquiet, honly, hplaced⟩ := disable_does hs hl
    (disablePort_untested (s := admitRequest (mreqPayload tag 2 [u8 p.val, 0]) s) hrun) (adminMoved_desk hbelow)
    (adminMoved_stc _ _) (adminMoved_idle hidle)
  have hmoves := adminMoved_leaves (s := admitRequest (mreqPayload tag 2 [u8 p.val, 0]) s) (p := p)
  have hstays := adminMoved_stays (s := admitRequest (mreqPayload tag 2 [u8 p.val, 0]) s) (p := p)
  have htsq := adminMoved_tsq p (admitRequest (mreqPayload tag 2 [u8 p.val, 0]) s)
  have hothers := fun q => adminMoved_others (s := admitRequest (mreqPayload tag 2 [u8 p.val, 0]) s) (p := p) (q := q)
  have hcleared := adminCleared_port p p (admitRequest (mreqPayload tag 2 [u8 p.val, 0]) s)
  rw [if_pos rfl] at hcleared
  generalize adminMoved p (admitRequest (mreqPayload tag 2 [u8 p.val, 0]) s) = v at *
  obtain ⟨hwup, hwdown, hwpull⟩ := honly.queues
  have hstaysport (h : (s.port p).lineState.leavesAtDisable = false) : v.port p = { s.port p with admin := false } := by
    rw [hstays h, hcleared]
    rfl
  refine ⟨settle w, hexec, hplaced, ?_, fun h => ?_, fun h => ?_, ?_, ?_, fun q hq => ?_⟩
  · rw [hquiet.settle_port, honly.port]
    cases h : (s.port p).lineState.leavesAtDisable with
    | true =>
      obtain ⟨hport, -⟩ := hmoves h
      rw [hport, Port.to_admin]
    | false => rw [hstaysport h]
  · obtain ⟨hport, hup, hdown, hpull, hcount⟩ := hmoves h
    refine ⟨?_, ?_, hquiet.settle_kept ?_, ?_, ?_, ?_⟩
    · rw [hquiet.settle_port, honly.port, hport]
      exact Port.enter_lineState ..
    · rw [hquiet.settle_port, honly.port, hport]
      exact Port.enter_power ..
    · rw [hwup, hup]
      rfl
    · rw [hquiet.settle_down, hwdown, hdown]
    · rw [hquiet.settle_pull, hwpull, hpull]
    · rw [hquiet.settle_portCounter, honly.portCounter, hcount]
      rfl
  · rw [hquiet.settle_port, honly.port, hstaysport h]
  · rw [hquiet.settle_tsq, honly.tsq, htsq]
    rfl
  · rw [hquiet.settle_tsq, honly.tsq, htsq]
    rfl
  · rw [hquiet.settle_port, honly.port, hothers q hq]
    rfl

/-- A disable that takes the test on its TESTING port to RESTORING (R17, R123). -/
theorem disable_restores (hs : AgentFree s) (hl : s.stc.startState ≠ .loading) {run run' : Running} {u : State}
    (hrun : s.tsq.running = some run) (hport : run.req.port = p) (hline : (s.port p).lineState = .testing)
    (hu : u = adminCleared p (admitRequest (mreqPayload tag 2 [u8 p.val, 0]) s) ∨
      u = stopStage (adminCleared p (admitRequest (mreqPayload tag 2 [u8 p.val, 0]) s)))
    (habort : abortTest .admin (adminCleared p (admitRequest (mreqPayload tag 2 [u8 p.val, 0]) s)) =
      setRunning (some run') (openTest p u)) :
    ∃ t, exec (.portAdminDisable tag (u8 p.val)) s = .next t ∧
      t.fst.responses = (answered tag 2 .ok [] s).fst.responses ∧ t.tsq.running = some run' ∧ t.msu = u.msu ∧
      t.port p = { s.port p with admin := false, testClosed := false } ∧ ∀ q, q ≠ p → t.port q = s.port q := by
  have hstays : adminMoved p (admitRequest (mreqPayload tag 2 [u8 p.val, 0]) s) =
      adminCleared p (admitRequest (mreqPayload tag 2 [u8 p.val, 0]) s) :=
    adminMoved_stays (show (s.port p).lineState.leavesAtDisable = false by rw [hline]; rfl)
  have hports : u.ports = (adminCleared p (admitRequest (mreqPayload tag 2 [u8 p.val, 0]) s)).ports := by
    obtain rfl | rfl := hu <;> simp
  have hkeeps : u.desk = (admitRequest (mreqPayload tag 2 [u8 p.val, 0]) s).desk ∧ u.stc = s.stc := by
    obtain rfl | rfl := hu
    · exact ⟨rfl, rfl⟩
    · simp only [State.desk, stopStage_fst, stopStage_mga, stopStage_stc]
      exact ⟨rfl, rfl⟩
  obtain ⟨hdesk, hstc⟩ := hkeeps
  obtain ⟨w, hexec, hquiet, honly, hplaced⟩ := disable_does hs hl
    ((disablePort_tested (s := admitRequest (mreqPayload tag 2 [u8 p.val, 0]) s) hrun hport).trans
      (congrArg _ ((congrArg _ hstays).trans habort))) hdesk hstc (.inr (by simp [setRunning]))
  obtain ⟨hself, hothers⟩ := openTest_adminCleared (admitRequest (mreqPayload tag 2 [u8 p.val, 0]) s) p
  have hopen (q : PortId) : (openTest p u).port q =
      (openTest p (adminCleared p (admitRequest (mreqPayload tag 2 [u8 p.val, 0]) s))).port q := by
    simp only [openTest, State.modPort, State.setPort, State.port, hports]
  refine ⟨settle w, hexec, hplaced, ?_, ?_, ?_, fun q hq => ?_⟩
  · rw [hquiet.settle_tsq, honly.tsq]
    rfl
  · rw [hquiet.settle_msu, honly.msu]
    rfl
  · rw [hquiet.settle_port, honly.port, setRunning_port, hopen, hself]
    rfl
  · rw [hquiet.settle_port, honly.port, setRunning_port, hopen, hothers q hq]
    rfl

/-- A disable that ends the test on its port in CLAIMING (R17, R123). -/
theorem disable_ends (hs : AgentFree s) (hl : s.stc.startState ≠ .loading) {run : Running}
    (hrun : s.tsq.running = some run) (hport : run.req.port = p) (hst : run.st = .claiming) (hout : run.outcome = none)
    (hqueue : s.tsq.queue = []) (hleaves : (s.port p).lineState.leavesAtDisable = true) :
    ∃ t, exec (.portAdminDisable tag (u8 p.val)) s = .next t ∧
      t.tsq.running = none ∧ (t.port p).admin = false ∧ (t.port p).lineState = .disabled ∧
      tget t.tsq.results p = some
        { seq := run.seq, kind := run.req.kind, origin := run.req.origin, outcome := .aborted, cause := some .admin,
          parts := run.parts } := by
  have hv := disablePort_tested (s := admitRequest (mreqPayload tag 2 [u8 p.val, 0]) s) hrun hport
  rw [abortTest_claiming (adminMoved_running (s := admitRequest (mreqPayload tag 2 [u8 p.val, 0]) s) hrun) hst] at hv
  obtain ⟨hmoved, -⟩ := adminMoved_leaves (s := admitRequest (mreqPayload tag 2 [u8 p.val, 0]) s) (p := p) hleaves
  have hqueue' : (adminMoved p (admitRequest (mreqPayload tag 2 [u8 p.val, 0]) s)).tsq.queue = [] := by
    rw [adminMoved_tsq]
    simp [admitRequest, hqueue]
  generalize adminMoved p (admitRequest (mreqPayload tag 2 [u8 p.val, 0]) s) = v at *
  have hline : (v.port p).lineState = .disabled := by
    rw [hmoved]
    exact Port.enter_lineState ..
  subst hport
  have hends := endTest_tsq (s := setRunning (some { run with abort := some .admin }) v) rfl
  have hstays := endTest_port_stays (s := setRunning (some { run with abort := some .admin }) v) rfl
    (by simp only [setRunning_port, hline]; decide) (by simp only [setRunning_port, hline]; decide)
  obtain ⟨u, hexec, hports, htsq, -⟩ := request_effect (kind := 2) (r := .portAdmin run.req.port false) hs hl rfl
    (by simp) (parseArgs_disable run.req.port) hv
    (.inl (by rw [hends]; exact hqueue'))
  obtain ⟨kline, kadmin, -⟩ := Port.learn_keeps run.parts (v.port run.req.port)
  have hport : (txArbitrate u).port run.req.port = (v.port run.req.port).learn run.parts := by
    rw [State.port, txArbitrate_ports, hports]
    exact hstays
  refine ⟨txArbitrate u, hexec, ?_, ?_, ?_, ?_⟩
  · rw [txArbitrate_tsq, htsq, hends]
  · rw [hport, kadmin, hmoved, Port.to_admin]
  · rw [hport, kline, hline]
  · rw [txArbitrate_tsq, htsq, hends]
    refine (tget_tset_self _ _ _).trans ?_
    simp [recordOf, hout, decideOutcome]

end

/-- Settles O44: each request's effect, and its answer beside it. -/
theorem portRequestsAct : Obligations.PortRequestsAct := by
  unfold Obligations.PortRequestsAct
  intro s tag p hs hl r placed
  obtain ⟨-, -, -, -, -, -, -, hidle⟩ := id hs
  refine ⟨fun v => ?_, fun port v hport => ?_, fun hplain => ?_, fun hrunning hfaulted hadmin => ?_,
    fun hrunning hdisabled hcabinet hup hdown => ?_, ?_, fun hline => ?_, fun hline hbelow => ?_⟩
  · exact request_writes hs hl rfl (by simp) (parseArgs_weight p v) (fun _ => rfl) rfl rfl hidle
  · exact request_reads hs (by simp) (by simp) (checkRequest_refusedArgument rfl (.inl hl) (parseArgs_weight_beyond hport v))
  · exact request_writes (v := s.setPort p { r with admin := true }) hs hl rfl (by simp) (parseArgs_enable p)
      (fun payload => enablePort_plain (s := admitRequest payload s) hplain) rfl rfl hidle
  · exact request_writes hs hl rfl (by simp) (parseArgs_enable p)
      (fun payload => enablePort_refused (s := admitRequest payload s) hrunning hfaulted hadmin) rfl rfl hidle
  · have henable := enablePort_disabled (s := admitRequest (mreqPayload tag 2 [u8 p.val, 1]) s) hrunning hdisabled hcabinet
    obtain ⟨w, hexec, hquiet, honly, hplaced⟩ := request_does (kind := 2) (r := .portAdmin p true) hs hl rfl (by simp)
      (parseArgs_enable p) henable
      ((changeState_desk (by decide) fun _ => by
        have hnone : flushedFrom (tget s.fst.up p) ++ tget s.fst.down p = [] := by simp [hup, hdown, flushedFrom]
        show (s.portCounter p .flushed).saturates (flushedFrom (tget s.fst.up p) ++ tget s.fst.down p).length = false
        rw [hnone]
        cases h : (s.portCounter p .flushed).sticky <;> simp [Counter.saturates, Counter.rise, h]).trans rfl)
      (changeState_stc _ _ _ _ _) (by rw [changeState_tsq]; exact hidle)
    refine ⟨settle w, hexec, hplaced, ?_⟩
    rw [hquiet.settle_port]
    simp only [honly.port]
    refine ⟨?_, ?_, ?_, fun q hq => ?_⟩
    · rw [changeState_port_self]
      exact (Port.to_admin _ _ _).trans (by rw [setPort_port_self])
    · rw [changeState_port_self, Port.enter_lineState]
    · rw [changeState_port_self, Port.enter_power]
      rfl
    · rw [changeState_others _ _ _ _ _ _ hq.symm]
      exact setPort_port_ne _ _ hq.symm
  · intro hbelow asked gone
    have hgone : gone ↔ r.lineState.leavesAtDisable = true := (leavesAtDisable_iff _).symm
    refine ⟨fun hrun => ?_, fun run hrun hport => ⟨fun hst hline => ?_, fun hst hline => ?_, fun hst hout hqueue hg => ?_⟩⟩
    · rw [hgone, Bool.not_eq_true]
      exact disable_untested hs hl hbelow hrun
    · obtain ⟨t, hexec, hplaced, hrun', -, hself, hothers⟩ := disable_restores hs hl hrun hport hline (.inl rfl)
        (hport ▸ abortTest_isolating (s := adminCleared p (admitRequest (mreqPayload tag 2 [u8 p.val, 0]) s)) hrun hst)
      exact ⟨t, hexec, hplaced, hrun', hself, hothers⟩
    · obtain ⟨t, hexec, hplaced, hrun', hmsu, hself, hothers⟩ := disable_restores hs hl hrun hport hline (.inr rfl)
        (hport ▸ abortTest_measuring (s := adminCleared p (admitRequest (mreqPayload tag 2 [u8 p.val, 0]) s)) hrun hst)
      refine ⟨t, hexec, hplaced, ?_, ?_, hself, hothers, _, hrun', rfl, rfl, rfl, ?_⟩
      · rw [hmsu, stopStage_run]
      · rw [hmsu, stopStage_drive]
      · exact (withToneMinutes_req_st _ _).1
    · exact disable_ends hs hl hrun hport hst hout hqueue (hgone.mp hg)
  · exact request_writes hs hl rfl (by simp) (parseArgs_retrain p)
      (fun payload => if_neg (show ((admitRequest payload s).port p).lineState ≠ .inService from hline)) rfl rfl hidle
  · obtain ⟨hdesk, hstc, htsq, hfree, hclaimed, hprofile, hup, hdown, hactive, hcount, hothers⟩ :=
      retrainPort_acts (s := admitRequest (mreqPayload tag 3 [u8 p.val]) s) hline hbelow
    have hr : answerRequest (.retrain p) (admitRequest (mreqPayload tag 3 [u8 p.val]) s) =
      Answer.plain .ok (retrainPort p (admitRequest (mreqPayload tag 3 [u8 p.val]) s)) := if_pos hline
    obtain ⟨w, hexec, hquiet, honly, hplaced⟩ := request_does (kind := 3) hs hl rfl (by simp) (parseArgs_retrain p) hr hdesk
      hstc (htsq ▸ hidle)
    generalize retrainPort p (admitRequest (mreqPayload tag 3 [u8 p.val]) s) = v at *
    obtain ⟨hwup, hwdown, -⟩ := honly.queues
    refine ⟨settle w, hexec, hplaced, ?_⟩
    rw [hquiet.settle_port, hquiet.settle_down, hquiet.settle_active, hquiet.settle_portCounter,
      hquiet.settle_up_of_not_active (by rw [honly.usc]; exact hactive), honly.usc, honly.portCounter, hwup, hwdown, hup, hdown]
    simp only [honly.port]
    exact ⟨hfree, hclaimed, hprofile, rfl, rfl, hactive, hcount, hothers⟩

end Sys2Proof.Machine
end

section
/-! SUPPORT. Proofs about the admission of MREQs and the requests of LOADING (R47, R156, R159, R166). -/

namespace Sys2Proof.Machine

/-! ## A full response queue (R48, R156) -/

/-- The response queue is full while an item waits, so that the agent can neither place nor take anything. -/
def Blocked (s : State) : Prop := s.fst.responses.length = 8 ∧ s.mga.waiting ≠ []

section
variable {s : State}

theorem Blocked.raiseNotice (h : Blocked s) (c : Cause) : Blocked (raiseNotice c s) ∧ (raiseNotice c s).fst = s.fst := by
  obtain ⟨hfull, hwaits⟩ := h
  obtain ht | ⟨t, rfl, -, ht | ⟨-, hnone, -⟩ | ht⟩ := raiseNotice_cases c s
  · rw [ht]
    exact ⟨⟨hfull, hwaits⟩, rfl⟩
  · rw [ht]
    exact ⟨⟨hfull, hwaits⟩, rfl⟩
  · exact absurd hnone hwaits
  · rw [ht]
    exact ⟨⟨hfull, by simp [joinWaiting]⟩, rfl⟩

theorem Blocked.countCard (h : Blocked s) (c : CardCounter) : Blocked (countCard c s) ∧ (countCard c s).fst = s.fst := by
  unfold Machine.countCard
  dsimp only
  split
  · exact Blocked.raiseNotice (s := { s with mga := { s.mga with
      cardCounters := tset s.mga.cardCounters c.idx ((s.cardCounter c).rise 1) } }) h _
  · exact ⟨h, rfl⟩

theorem itemFits_of_full (h : s.fst.responses.length = 8) (i : WaitItem) : itemFits i s = false := by
  cases i <;> simp [itemFits, answerFits, Fst.placeable, h]

theorem canTake_of_full (h : s.fst.responses.length = 8) : canTake s = false := by simp [canTake, h]

theorem offerWaiting_of_full (h : s.fst.responses.length = 8) (n : Nat) : offerWaiting n s = s := by
  cases n with
  | zero => rfl
  | succ n =>
    unfold offerWaiting
    split
    · rfl
    · simp [itemFits_of_full h]

/-- Where the agent can take no request once the waiting items are offered, the offers are its whole work (R156). -/
theorem mgaWork_offers (h : canTake (offered s) = false) : mgaWork s = offered s := by
  unfold mgaWork
  cases s.fst.requests.length with
  | zero => rfl
  | succ n =>
    have hcant : canTake (offerWaiting s.mga.waiting.length s) = false := h
    simp only [mgaRun, hcant, Bool.false_eq_true, if_false]
    rfl

theorem mgaWork_of_full (h : s.fst.responses.length = 8) : mgaWork s = s := by
  have hoffered : offered s = s := offerWaiting_of_full h _
  rw [mgaWork_offers (by rw [hoffered, canTake_of_full h]), hoffered]

/-- The end of a step of such a card is the arbiter's choice alone (R156). -/
theorem Blocked.settle (h : Blocked s) (h0 : s.stc.startState ≠ .reset) (hq : s.tsq.queue = []) :
    settle s = txArbitrate s := by
  rw [Machine.settle, if_neg h0, startChoice_noQueue hq, mgaWork_of_full h.1]

end

/-! ## The admission of an MREQ (R47) -/

theorem exec_mreqReceived {payload : List Byte} (h : payload.length ≤ 1536) (s : State) :
    exec (.mreqReceived payload) s = heard (fun t => completeMreq (stageBus payload t)) s :=
  if_pos (by simpa [mreqPayloadOk] using h)

theorem completeMreq_of_noRoom {payload : List Byte} {s : State}
    (h : s.fst.requests.length = 8 ∨ s.fst.freeCells < cellsOf payload ∨ s.fst.freeRecords = 0) :
    completeMreq (stageBus payload s) = raiseNotice .mreqOverrun (countCard .mreqOverrun (stageBus [] s)) := by
  refine if_neg ?_
  show ¬(s.fst.requests.length < 8 ∧ cellsOf payload ≤ s.fst.freeCells ∧ 1 ≤ s.fst.freeRecords)
  omega

section
variable {s : State} {payload : List Byte}

theorem mreq_overrun (h0 : s.stc.startState ≠ .reset) (hq : s.tsq.queue = []) (hlength : payload.length ≤ 1536)
    (hblocked : Blocked s)
    (hroom : s.fst.requests.length = 8 ∨ s.fst.freeCells < cellsOf payload ∨ s.fst.freeRecords = 0) :
    ∃ t, exec (.mreqReceived payload) s = .next t ∧ t.fst.requests = s.fst.requests ∧
      t.cardCounter .mreqOverrun = (s.cardCounter .mreqOverrun).rise 1 ∧ t.flagSet .mreqOverrun = true ∧
      t.ports = s.ports := by
  have hstaged : Blocked (stageBus [] s) := hblocked
  obtain ⟨hcounted, -⟩ := hstaged.countCard .mreqOverrun
  obtain ⟨hraised, -⟩ := hcounted.raiseNotice .mreqOverrun
  have hsettle := hraised.settle (by simpa [stageBus] using h0) (by simpa [stageBus] using hq)
  obtain ⟨_, _, _, _, hwrites⟩ := txArbitrate_writes (raiseNotice .mreqOverrun (countCard .mreqOverrun (stageBus [] s)))
  rw [exec_mreqReceived hlength, heard_running h0, event, completeMreq_of_noRoom hroom, hsettle]
  refine ⟨_, rfl, ?_, ?_, ?_, ?_⟩
  · rw [hwrites]
    exact (raiseNotice_requests _ _).trans (countCard_requests _ _)
  · rw [hwrites]
    refine (raiseNotice_cardCounter _ _ _).trans ?_
    rw [countCard_cardCounter, if_pos rfl]
    rfl
  · rw [hwrites]
    exact raiseNotice_flagSet_self _ _
  · rw [txArbitrate_ports, raiseNotice_ports, countCard_ports]
    rfl

theorem mreq_admitted (h0 : s.stc.startState ≠ .reset) (hq : s.tsq.queue = []) (hlength : payload.length ≤ 1536)
    (hblocked : Blocked s) (hrequests : s.fst.requests.length < 8) (hcells : cellsOf payload ≤ s.fst.freeCells)
    (hrecords : 1 ≤ s.fst.freeRecords) :
    exec (.mreqReceived payload) s = .next (txArbitrate (admitRequest payload s)) := by
  have hadmitted : Blocked (admitRequest payload s) := hblocked
  rw [exec_mreqReceived hlength, heard_running h0, event, completeMreq_of_room hrequests hcells hrecords,
    hadmitted.settle h0 hq]

end

/-! ## Requests without a known kind (R156; log 7) -/

section
variable {s : State} {payload : List Byte} {tag : BitVec 16}

theorem exec_mreqUnknownKind (hlength : payload.length ≤ 1536) (hkind : knownKind payload = false) (s : State) :
    exec (.mreqUnknownKind payload) s = heard (fun t => completeMreq (stageBus payload t)) s :=
  if_pos (by simp [mreqPayloadOk, hlength, hkind])

theorem checkRequest_of_unknownKind (hkind : knownKind payload = false) (s : State) :
    checkRequest payload s = Answer.plain .unknownKind s := by
  obtain _ | ⟨a, _ | ⟨b, _ | ⟨k, args⟩⟩⟩ := payload
  · rfl
  · rfl
  · rfl
  · have hk : isKind k.toNat = false := hkind
    simp [checkRequest, hk]

/-- An MREQ of no known kind is answered UNKNOWN_KIND with its tag and kind byte (R156). -/
theorem unknownKind_answered (hs : AgentFree s) (hlength : payload.length ≤ 1536) (hkind : knownKind payload = false)
    (htag : tagOf payload = u16 tag.toNat) : exec (.mreqUnknownKind payload) s =
      .next (txArbitrate (answered tag (kindByteOf payload).toNat .unknownKind [] s)) := by
  obtain ⟨h0, hq, hw, -, hp, hcells, hrecords, hidle⟩ := id hs
  have hfits : cellsOf payload ≤ s.fst.freeCells := by
    simp only [cellsOf, blocksOf]
    omega
  have hbytes : mrspPayload payload .unknownKind [] =
      u16 tag.toNat ++ [u8 (kindByteOf payload).toNat, u8 Status.unknownKind.code] ++ [] := by
    simp [mrspPayload, htag, u8]
  have htake : takeRequest (admitRequest payload s) = answered tag (kindByteOf payload).toNat .unknownKind [] s := by
    simp only [takeRequest, admitRequest_requests hq, checkRequest_of_unknownKind hkind, Answer.plain, hbytes]
    refine offerAnswer_admitRequest hq hfits hrecords hp ?_
    rw [cellsOf_answer_plain]
    omega
  have hoffered : offered (answered tag (kindByteOf payload).toNat .unknownKind [] s) =
      answered tag (kindByteOf payload).toNat .unknownKind [] s := by
    have hnone : (answered tag (kindByteOf payload).toNat .unknownKind [] s).mga.waiting = [] := hw
    rw [offered, hnone]
    rfl
  rw [exec_mreqUnknownKind hlength hkind, heard_running h0, event,
    completeMreq_of_room (by simp [hq]) hfits hrecords, settle_admitRequest hs, htake,
    startChoice_of_noQueue_or_running (s := answered _ _ _ _ s) hidle, hoffered]

/-- Two bytes are the two bytes of a word (R174). -/
theorem u16_ofNat_pair16 (a b : Byte) : u16 (BitVec.ofNat 16 (pair16 a b)).toNat = [a, b] := by
  have ha := a.isLt
  have hb := b.isLt
  have hword : (BitVec.ofNat 16 (pair16 a b)).toNat = a.toNat * 256 + b.toNat := by
    rw [BitVec.toNat_ofNat, pair16, Nat.mod_eq_of_lt (by omega)]
  have hhigh : u8 ((a.toNat * 256 + b.toNat) / 256) = a := by
    apply BitVec.eq_of_toNat_eq
    simp only [u8, BitVec.toNat_ofNat]
    omega
  have hlow : u8 (a.toNat * 256 + b.toNat) = b := by
    apply BitVec.eq_of_toNat_eq
    simp only [u8, BitVec.toNat_ofNat]
    omega
  rw [hword, u16, hhigh, hlow]

end

/-- Settles O49: the admission where the agent is blocked, and the answer of an unknown kind. -/
theorem mreqsAreAdmittedOrCounted : Obligations.MreqsAreAdmittedOrCounted := by
  unfold Obligations.MreqsAreAdmittedOrCounted
  refine ⟨fun s payload h0 hq hlength hfull hwaits => ⟨fun hroom => ?_, fun hrequests hcells hrecords => ?_⟩,
    fun s hs => ⟨fun tag k args hargs hk => ?_, fun payload hlength => ?_⟩⟩
  · exact mreq_overrun h0 hq hlength ⟨hfull, hwaits⟩ hroom
  · obtain ⟨_, _, _, _, hwrites⟩ := txArbitrate_writes (admitRequest payload s)
    refine ⟨_, mreq_admitted h0 hq hlength ⟨hfull, hwaits⟩ hrequests hcells hrecords, ?_⟩
    rw [hwrites]
    exact ⟨rfl, rfl, rfl, rfl, rfl⟩
  · have hkind : knownKind (u16 tag.toNat ++ k :: args) = false := by
      simpa [knownKind, u16] using hk
    exact unknownKind_answered hs (by simp [u16]; omega) hkind rfl
  · have hkind : knownKind payload = false := by
      obtain _ | ⟨a, _ | ⟨b, _ | ⟨k, args⟩⟩⟩ := payload
      · rfl
      · rfl
      · rfl
      · simp at hlength
        omega
    obtain _ | ⟨a, _ | ⟨b, _ | ⟨k, args⟩⟩⟩ := payload
    · exact ⟨_, 0, unknownKind_answered hs (by simp) hkind rfl, fun _ => rfl, fun h => absurd h (by simp)⟩
    · exact ⟨_, 0, unknownKind_answered hs (by simp) hkind rfl, fun _ => rfl, fun h => absurd h (by simp)⟩
    · exact ⟨_, _, unknownKind_answered hs (by simp) hkind (u16_ofNat_pair16 a b).symm, fun h => absurd h (by simp),
        fun _ => (u16_ofNat_pair16 a b).symm⟩
    · simp at hlength
      omega

end Sys2Proof.Machine
end

section
/-! SUPPORT. Proofs about the configuration requests (R159, R166, R167). -/

namespace Sys2Proof.Machine

/-! ## The words of a CONFIG_WRITE (R159, R174) -/

/-- Words in bytes, as a CONFIG_WRITE carries them (R174). -/
def bytesOfWords (words : List Word16) : List Byte := words.flatMap (fun w => u16 w.toNat)

theorem wordsOf_bytesOfWords (words : List Word16) : wordsOf (bytesOfWords words) = some words := by
  induction words with
  | nil => rfl
  | cons w ws ih =>
    show (wordsOf (bytesOfWords ws)).map (fun vs => BitVec.ofNat 16 (pair16 (u8 (w.toNat / 256)) (u8 w.toNat)) :: vs) = _
    rw [ih, Option.map_some, ofNat_pair16_bytes]

theorem bytesOfWords_length (words : List Word16) : (bytesOfWords words).length = 2 * words.length := by
  induction words with
  | nil => rfl
  | cons w ws ih =>
    rw [bytesOfWords, List.flatMap_cons, List.length_append, u16_length, ← bytesOfWords, ih, List.length_cons]
    omega

theorem pair16_bytes (w : BitVec 16) : pair16 (u8 (w.toNat / 256)) (u8 w.toNat) = w.toNat := by
  simp only [pair16, u8, BitVec.toNat_ofNat]
  omega

theorem parseArgs_configWrite {offset : BitVec 16} {words : List Word16} (hsome : words ≠ [])
    (hfits : offset.toNat + words.length ≤ 512) :
    parseArgs 12 (u16 offset.toNat ++ bytesOfWords words) = some (.configWrite offset.toNat words) := by
  have hlength := List.length_pos_of_ne_nil hsome
  show parseConfigWrite (u8 (offset.toNat / 256) :: u8 offset.toNat :: bytesOfWords words) = _
  simp only [parseConfigWrite, wordsOf_bytesOfWords, pair16_bytes]
  rw [if_pos (by omega)]

/-- A word of the staging image after a CONFIG_WRITE (R167). -/
theorem tget_writeWords (words : List Word16) (offset : Nat) (v : Tbl Word16 512) (i : Fin 512) :
    tget (writeWords offset words v) i =
      if offset ≤ i.val ∧ i.val < offset + words.length then (words[i.val - offset]?).getD 0 else tget v i := by
  induction words generalizing offset v with
  | nil =>
    rw [if_neg (by simp)]
    rfl
  | cons w ws ih =>
    rw [writeWords, ih, List.length_cons]
    obtain hbefore | heq | hafter := lt_trichotomy i.val offset
    · rw [if_neg (by omega), if_neg (by omega)]
      split
      · exact tget_tset_ne _ _ (Fin.ne_of_gt hbefore)
      · rfl
    · subst heq
      rw [if_neg (by omega), if_pos (by omega), dif_pos i.isLt, Nat.sub_self]
      exact tget_tset_self _ _ _
    · have hskip : i.val - offset = i.val - (offset + 1) + 1 := by omega
      by_cases hin : i.val < offset + (ws.length + 1)
      · rw [if_pos (by omega), if_pos (by omega), hskip, List.getElem?_cons_succ]
      · rw [if_neg (by omega), if_neg (by omega)]
        split
        · exact tget_tset_ne _ _ (Fin.ne_of_lt hafter)
        · rfl

/-! ## The configuration requests (R156, R167) -/

theorem State.loadsRemotely_iff (s : State) :
    s.loadsRemotely = true ↔ s.stc.startState = .loading ∧ s.stc.startMode = 2 := by
  have hmode : startModeOf s.stc.startMode = .remote ↔ s.stc.startMode = 2 := by
    generalize s.stc.startMode = m
    revert m
    decide
  simp [State.loadsRemotely, hmode]

section
variable {s v : State} {tag : BitVec 16} {kind : Nat} {args : List Byte} {st : Status} {r : Request}

/-- A request that LOADING takes too, answered with its effect (R48, R156). -/
theorem request_taken (hs : AgentFree s) (hk : isKind (u8 kind).toNat = true) (hl : takenInLoading (u8 kind).toNat = true)
    (hargs : cellsOf (mreqPayload tag kind args) ≤ 64) (hparse : parseArgs (u8 kind).toNat args = some r)
    (hr : ∀ payload, answerRequest r (admitRequest payload s) = Answer.plain st (admitRequest payload v))
    (hfst : v.fst = s.fst) (hmga : v.mga = s.mga) (htsq : v.tsq = s.tsq) :
    request tag kind args s = .next (txArbitrate (answered tag kind st [] v)) := by
  obtain ⟨-, -, hw, -, -, -, -, hidle⟩ := id hs
  exact request_answered hs hargs (cells_answer_le (by simp) tag kind st)
    ((checkRequest_answers (s := admitRequest _ s) hk (.inr hl) hparse).trans (hr _)) hfst (hmga ▸ hw) (htsq ▸ hidle)

end

section
variable {s : State} {tag : BitVec 16}

theorem exec_configApply (tag : BitVec 16) (s : State) : exec (.configApply tag) s = request tag 13 [] s := rfl

/-- The card with words written into its staging image (R167). -/
def staged (offset : Nat) (words : List Word16) (s : State) : State :=
  { s with stc := { s.stc with staging := writeWords offset words s.stc.staging } }

section
variable {offset : BitVec 16} {words : List Word16}

theorem exec_configWrite (hfits : offset.toNat + words.length ≤ 512) (s : State) :
    exec (.configWrite tag offset words) s = request tag 12 (u16 offset.toNat ++ bytesOfWords words) s :=
  if_pos (by rw [decide_eq_true_eq]; omega)

theorem cells_configWrite (hfits : offset.toNat + words.length ≤ 512) :
    cellsOf (mreqPayload tag 12 (u16 offset.toNat ++ bytesOfWords words)) ≤ 64 := by
  simp only [cellsOf, blocksOf, mreqPayload, List.length_append, List.length_cons, bytesOfWords_length, u16_length]
  omega

theorem configWrite_writes (hs : AgentFree s) (hsome : words ≠ []) (hfits : offset.toNat + words.length ≤ 512)
    (hremote : s.loadsRemotely = true) : exec (.configWrite tag offset words) s =
      .next (txArbitrate (answered tag 12 .ok [] (staged offset.toNat words s))) := by
  rw [exec_configWrite hfits]
  exact request_taken hs rfl rfl (cells_configWrite hfits) (parseArgs_configWrite hsome hfits)
    (fun payload => if_pos (show (admitRequest payload s).loadsRemotely = true from hremote)) rfl rfl rfl

theorem configWrite_refused (hs : AgentFree s) (hsome : words ≠ []) (hfits : offset.toNat + words.length ≤ 512)
    (hremote : s.loadsRemotely ≠ true) : exec (.configWrite tag offset words) s =
      .next (txArbitrate (answered tag 12 .refusedState [] s)) := by
  rw [exec_configWrite hfits]
  exact request_taken hs rfl rfl (cells_configWrite hfits) (parseArgs_configWrite hsome hfits)
    (fun payload => if_neg (show (admitRequest payload s).loadsRemotely ≠ true from hremote)) rfl rfl rfl

end

theorem configApply_bad (hs : AgentFree s) (hremote : s.loadsRemotely = true)
    (hbad : goodImage s.stc.staging.toList = none) :
    exec (.configApply tag) s = .next (txArbitrate (answered tag 13 .refusedArgument [] s)) := by
  refine request_taken (r := .configApply) hs rfl rfl (cells_request_le (by simp) tag 13) rfl (fun payload => ?_) rfl rfl rfl
  have hload : (admitRequest payload s).loadsRemotely = true := hremote
  have hnone : goodImage (admitRequest payload s).stc.staging.toList = none := hbad
  simp only [answerRequest, applyConfig, hload, if_true, hnone]

theorem configApply_refused (hs : AgentFree s) (hremote : s.loadsRemotely ≠ true) :
    exec (.configApply tag) s = .next (txArbitrate (answered tag 13 .refusedState [] s)) :=
  request_taken (r := .configApply) hs rfl rfl (cells_request_le (by simp) tag 13) rfl
    (fun payload => if_neg (show (admitRequest payload s).loadsRemotely ≠ true from hremote)) rfl rfl rfl

/-- A good image ends LOADING with its configuration (R167). -/
theorem configApply_good (hs : AgentFree s) (hremote : s.loadsRemotely = true) {img : List Word16}
    (hgood : goodImage s.stc.staging.toList = some img) :
    ∃ t, exec (.configApply tag) s = .next t ∧ t.fst.responses = (answered tag 13 .ok [] s).fst.responses ∧
      t.stc.startState = .joining ∧ t.cfg = imageCfg img ∧ t.mga.mask = t.cfg.noticeMask := by
  obtain ⟨-, -, -, -, -, -, -, hidle⟩ := id hs
  have hr : checkRequest (mreqPayload tag 13 []) (admitRequest (mreqPayload tag 13 []) s) =
      Answer.plain .ok (endOfLoading (imageCfg img) (admitRequest (mreqPayload tag 13 []) s)) := by
    have hload : (admitRequest (mreqPayload tag 13 []) s).loadsRemotely = true := hremote
    have hsome : goodImage (admitRequest (mreqPayload tag 13 []) s).stc.staging.toList = some img := hgood
    rw [checkRequest_answers (s := admitRequest _ s) (kind := 13) (r := .configApply) rfl (.inr rfl) rfl]
    simp only [answerRequest, applyConfig, hload, if_true, hsome]
  obtain ⟨-, -, hstc, hcfg, -, hfst, -, htsq, -, hmga⟩ :=
    endOfLoading_spec (imageCfg img) (admitRequest (mreqPayload tag 13 []) s)
  generalize endOfLoading (imageCfg img) (admitRequest (mreqPayload tag 13 []) s) = v at *
  obtain ⟨w, hexec, hquiet, honly, hplaced⟩ := request_acts hs (by simp) hr
    (by simp only [State.desk, hfst, hmga]) (by rw [hstc]; simp) (by rw [htsq]; exact hidle)
  refine ⟨settle w, hexec, hplaced, ?_, ?_, ?_⟩
  · rw [hquiet.settle_stc, honly.stc, hstc]
  · rw [hquiet.settle_cfg, honly.cfg, hcfg]
  · rw [hquiet.settle_mask, honly.mga, hmga, hquiet.settle_cfg, honly.cfg, hcfg]

end

/-- Settles O48: the words land in the staging image, and the image read there decides the apply. -/
theorem remoteConfigurationIsWrittenAndApplied : Obligations.RemoteConfigurationIsWrittenAndApplied := by
  unfold Obligations.RemoteConfigurationIsWrittenAndApplied
  intro s tag hs remote
  have hremote : s.loadsRemotely = true ↔ remote := s.loadsRemotely_iff
  rw [← hremote]
  refine ⟨fun offset words hsome hfits => ⟨fun h => ?_, configWrite_refused hs hsome hfits⟩,
    fun img h hgood => configApply_good hs h hgood, configApply_bad hs, configApply_refused hs⟩
  obtain ⟨_, _, _, _, hwrites⟩ := txArbitrate_writes (answered tag 12 .ok [] (staged offset.toNat words s))
  obtain ⟨hloading, -⟩ := hremote.mp h
  refine ⟨_, configWrite_writes hs hsome hfits h, ?_⟩
  rw [hwrites]
  exact ⟨rfl, hloading, rfl, tget_writeWords words offset.toNat s.stc.staging⟩

end Sys2Proof.Machine
end

section
/-! SUPPORT. Proofs about the end of response frames, the waiting list and RESTART (R49, R157, R160). -/

namespace Sys2Proof.Machine

/-! ## The restart (R160, R165) -/

section
variable {s : State} {straps : Straps}

/-- Whether a start with these straps waits for a configuration (R165). -/
def startWaits (straps : Straps) : Prop := straps.startMode = 0 ∨ straps.startMode = 2

/-- The card as a RESTART samples the straps (R160, R165). -/
def restarting (straps : Straps) (s : State) : State :=
  let ports := s.ports.map Port.afterReset
  strapped { blocksReset s with
    pins := s.pins.withStraps straps
    ports := ports
    relayHold := holdAfter ports
    tsq := { Tsq.initial with results := s.tsq.results, seq := s.tsq.seq }
    mga := { Mga.initial with portCounters := s.mga.portCounters, cardCounters := s.mga.cardCounters } }

theorem restartCard_waits (h : startWaits straps) : restartCard straps s = restarting straps s := boot_waits h

theorem restartCard_defaults (h : ¬startWaits straps) : restartCard straps s =
    { restarting straps s with
      stc := { (restarting straps s).stc with startState := .joining }
      ports := tableOfPorts (fun p => Port.mapped (tget defaultCfg.portMap p) ((restarting straps s).port p))
      msu := { Msu.initial with hazardRef := defaultCfg.hazardThreshold, holder := .supply, pairSelect := .dcBus } } := by
  have hmodes : ∀ m : BitVec 2, ¬(m = 0 ∨ m = 2) → m = 1 ∨ m = 3 := by decide
  have hboot : restartCard straps s = endOfLoading defaultCfg (restarting straps s) := boot_defaults (hmodes _ h)
  rw [hboot, endOfLoading, enterJoining, requestSample, requestSupply_free]
  · rfl
  · rfl
  · rfl

/-- What a restart leaves in either start mode, but for the start state, the ports and the converter (R160). -/
theorem restartCard_keeps (straps : Straps) (s : State) :
    restartCard straps s = { restarting straps s with
      stc := { (restarting straps s).stc with startState := (restartCard straps s).stc.startState }
      ports := (restartCard straps s).ports
      msu := (restartCard straps s).msu } := by
  by_cases h : startWaits straps
  · rw [restartCard_waits h]
  · rw [restartCard_defaults h]

theorem restarting_port (straps : Straps) (s : State) (p : PortId) :
    (restarting straps s).port p = (s.port p).afterReset := by
  simp [restarting, strapped, State.port, tget]

theorem restartCard_unburdened (straps : Straps) (s : State) : Unburdened (restartCard straps s) := by
  by_cases h : startWaits straps
  · rw [restartCard_waits h]
    exact ⟨by simp [restarting, strapped], rfl, rfl, rfl⟩
  · rw [restartCard_defaults h]
    exact ⟨by simp, rfl, rfl, rfl⟩

/-- Nothing waits for the bus after a restart (R160). -/
theorem settle_restartCard (straps : Straps) (s : State) : settle (restartCard straps s) = restartCard straps s := by
  rw [settle_unburdened (restartCard_unburdened straps s), restartCard_keeps]
  rfl

theorem holdAfter_afterReset (s : State) : holdAfter (s.ports.map Port.afterReset) =
    if ∃ p, (s.port p).serviceClosed = false then .running else .none := by
  have hany : (s.ports.map Port.afterReset).toList.any (fun r => !r.serviceClosed) = true ↔
      ∃ p, (s.port p).serviceClosed = false := by
    rw [List.any_eq_true]
    constructor
    · rintro ⟨r, hr, hopen⟩
      obtain ⟨i, hi, rfl⟩ := Vector.mem_iff_getElem.mp (Vector.mem_toList_iff.mp hr)
      refine ⟨⟨i, hi⟩, ?_⟩
      rw [Vector.getElem_map] at hopen
      simpa [Port.afterReset, State.port, tget] using hopen
    · rintro ⟨p, hopen⟩
      refine ⟨(s.port p).afterReset, Vector.mem_toList_iff.mpr (Vector.mem_iff_getElem.mpr ⟨p.val, p.isLt, ?_⟩), ?_⟩
      · rw [Vector.getElem_map]
        rfl
      · simpa [Port.afterReset] using hopen
  rw [holdAfter]
  simp only [hany]

theorem mgmtEnd_restarts {f : Frame} {rest : List Frame} (hresponses : s.fst.responses = f :: rest)
    (hends : restartEnds f s = true) (tx : Tx) : mgmtEnd straps (setTx tx s) = restartCard straps s := by
  have hresponses' : (setTx tx s).fst.responses = f :: rest := hresponses
  have hends' : restartEnds f (setTx tx s) = true := hends
  simp only [mgmtEnd, hresponses', hends', if_true]
  exact restartCard_afterAnswer straps tx s

end

/-! ## The blocks after a restart (R160, R165) -/

theorem storeAtReset_initial : StoreAtReset Fst.initial := by simp [StoreAtReset, Fst.initial]

theorem shareAtReset_initial : ShareAtReset Shu.initial := by simp [ShareAtReset, Shu.initial, Peer.absent]

theorem schedulerAtReset_initial : SchedulerAtReset Usc.initial := by simp [SchedulerAtReset, Usc.initial, UscPort.initial]

theorem claimsAtReset_initial : ClaimsAtReset Clt.initial := by simp [ClaimsAtReset, Clt.initial, ClaimEntry.vacant]

theorem busAtReset_initial (sent : List BusOut) : BusAtReset { Bau.initial with sent := sent } := by
  simp [BusAtReset, Bau.initial, Tx.initial]

section
variable {straps : Straps} {s : State}

theorem restartCard_blocks (straps : Straps) (s : State) :
    let t := restartCard straps s
    t.tsq = { Tsq.initial with results := s.tsq.results, seq := s.tsq.seq } ∧
      t.mga = { Mga.initial with portCounters := s.mga.portCounters, cardCounters := s.mga.cardCounters } ∧
      t.fst = Fst.initial ∧ t.shu = Shu.initial ∧ t.usc = Usc.initial ∧ t.clt = Clt.initial ∧
      t.bau = { Bau.initial with sent := s.bau.sent } ∧
      t.stc = { Stc.initial with
        startState := t.stc.startState, station := straps.station.toFin, startMode := straps.startMode } ∧
      t.cfg = defaultCfg ∧ t.smn = { Smn.initial with mainsSeen := s.pins.mains } ∧
      t.relayHold = if ∃ p, (s.port p).serviceClosed = false then .running else .none := by
  have hkeeps := restartCard_keeps straps s
  rw [← holdAfter_afterReset]
  generalize restartCard straps s = t at *
  rw [hkeeps]
  exact ⟨rfl, rfl, rfl, rfl, rfl, rfl, rfl, rfl, rfl, rfl, rfl⟩

/-- A start that waits for its configuration has no sample in progress, and one with the defaults its first (R166, R169). -/
theorem restartCard_starts (straps : Straps) (s : State) :
    let t := restartCard straps s
    (startWaits straps → t.stc.startState = .loading ∧ t.msu.holder = .none) ∧
      (¬startWaits straps → t.stc.startState = .joining ∧ t.msu.holder = .supply) ∧ MeasurementAtReset t.msu := by
  intro t
  refine ⟨fun h => ?_, fun h => ?_, ?_⟩
  · have ht : t = _ := restartCard_waits h
    rw [ht]
    exact ⟨rfl, rfl⟩
  · have ht : t = _ := restartCard_defaults h
    rw [ht]
    exact ⟨rfl, rfl⟩
  · by_cases h : startWaits straps
    · have ht : t = _ := restartCard_waits h
      rw [ht]
      simp [restarting, strapped, blocksReset, MeasurementAtReset, Msu.initial]
    · have ht : t = _ := restartCard_defaults h
      rw [ht]
      simp [MeasurementAtReset, Msu.initial]

/-- A port's record after a restart: at its reset values, with the default port map where the start takes it (R7, R165). -/
theorem restartCard_port (straps : Straps) (s : State) (p : PortId) :
    let r := (restartCard straps s).port p
    (startWaits straps → r = (s.port p).afterReset) ∧
      (¬startWaits straps → r = Port.mapped (tget defaultCfg.portMap p) (s.port p).afterReset) := by
  refine ⟨fun h => ?_, fun h => ?_⟩
  · rw [restartCard_waits h, restarting_port]
  · rw [restartCard_defaults h, State.port, tget_tableOfPorts, restarting_port]

/-- Where a restart's start stands (R144, R165, R169). -/
theorem restartCard_start (straps : Straps) (s : State) :
    let t := restartCard straps s
    t.stc.startState = (if straps.startMode = 0 ∨ straps.startMode = 2 then .loading else .joining) ∧
      t.msu.holder = (if straps.startMode = 0 ∨ straps.startMode = 2 then .none else .supply) := by
  obtain ⟨hwaits, hdefaults, -⟩ := restartCard_starts straps s
  dsimp only
  split
  · next h => exact hwaits h
  · next h => exact hdefaults h

/-- A port's record field by field after a restart (R7, R165, R166). -/
theorem restartCard_record (straps : Straps) (s : State) (p : PortId) :
    let r := (restartCard straps s).port p
    let starts := straps.startMode = 0 ∨ straps.startMode = 2
    r.testClosed = false ∧ PortAtReset { r with admin := false, priority := false, binder := 0, weightOverride := 0 } ∧
      r.admin = decide (¬starts) ∧ r.priority = false ∧ r.weightOverride = 0 ∧
      r.binder.val = (if starts then 0 else p.val) ∧ r.serviceClosed = (s.port p).serviceClosed ∧
      r.serviceHeld = !(s.port p).serviceClosed := by
  obtain ⟨kwaits, kdefaults⟩ := restartCard_port straps s p
  intro r starts
  by_cases h : starts
  · have hr : r = _ := kwaits h
    rw [hr, if_pos h, decide_eq_false (not_not_intro h)]
    exact ⟨rfl, portAtReset_afterReset _, rfl, rfl, rfl, rfl, rfl, rfl⟩
  · obtain ⟨madmin, mpriority, mbinder, mweight⟩ := defaultPortMap_fields p
    have hr : r = _ := kdefaults h
    rw [hr, if_neg h, decide_eq_true h]
    exact ⟨rfl, portAtReset_afterReset _, madmin, mpriority, mweight, mbinder, rfl, rfl⟩

end

/-! ## The end of a response frame (R49, R54, R55, R57, R58) -/

section
variable {s : State} {straps : Straps} {f : Frame} {rest : List Frame}

theorem inHandBytes_mgmt (hhand : s.bau.tx.hand = some .mgmt) (hresponses : s.fst.responses = f :: rest) :
    s.inHandBytes = busFrame (if f.kind = .notice then .notice else .mrsp) 0 s.stationNumber 31 f.payload := by
  simp only [State.inHandBytes, hhand, wireOf, hresponses, beq_iff_eq]

theorem txEnd_mgmt {ok : Bool} (hhand : s.bau.tx.hand = some .mgmt) :
    txEnd ok straps s = mgmtEnd straps (setTx Tx.initial s) := by
  simp only [txEnd, hhand]

/-- The card with its first response frame gone, and this on the record of the bus (R49). -/
def responseGone (f : Frame) (rest : List Frame) (out : List BusOut) (s : State) : State :=
  { s with
    bau := { s.bau with tx := Tx.initial, sent := s.bau.sent ++ out }
    fst := { s.fst with
      freeCells := s.fst.freeCells + f.cells, freeRecords := s.fst.freeRecords + 1, responses := rest } }

theorem mgmtEnd_removes (hresponses : s.fst.responses = f :: rest) (hstays : restartEnds f s = false) (out : List BusOut) :
    mgmtEnd straps (setTx Tx.initial (putOut out s)) = responseGone f rest out s := by
  have hresponses' : (setTx Tx.initial (putOut out s)).fst.responses = f :: rest := hresponses
  have hstays' : restartEnds f (setTx Tx.initial (putOut out s)) = false := hstays
  simp only [mgmtEnd, hresponses', hstays', Bool.false_eq_true, if_false, removeResponseHead]
  rfl

theorem not_restartEnds (h : s.mga.restartPending = false ∨ f.kind = .notice) : restartEnds f s = false := by
  obtain h | h := h <;> simp [restartEnds, h]

/-- The successful end of a response frame that restarts nothing (R49, R54). -/
theorem sendingEnds_mgmt (hst : s.bau.tx.st = .sending) (hjam : s.bau.tx.jamming = false)
    (hhand : s.bau.tx.hand = some .mgmt) (hresponses : s.fst.responses = f :: rest) (hstays : restartEnds f s = false) :
    sendingEnds straps s = responseGone f rest
      [.frame (busFrame (if f.kind = .notice then .notice else .mrsp) 0 s.stationNumber 31 f.payload)] s := by
  rw [sendingEnds_eq hst hjam, inHandBytes_mgmt hhand hresponses]
  refine (txEnd_mgmt (s := putOut _ s) hhand).trans (mgmtEnd_removes hresponses hstays _)

/-- The twelfth collision of such a frame (R49, R55). -/
theorem jamEnds_mgmt {draw : Byte} (hst : s.bau.tx.st = .sending) (hjam : s.bau.tx.jamming = true)
    (hn : s.bau.tx.collisions = 11) (hhand : s.bau.tx.hand = some .mgmt) (hresponses : s.fst.responses = f :: rest)
    (hstays : restartEnds f s = false) (hbelow : (s.cardCounter .collisions).saturates 1 = false) :
    jamEnds draw straps s = countCard .collisions (responseGone f rest [] s) := by
  have hcounted : countCard .collisions (responseGone f rest [] s) = responseGone f rest [] (riseCard .collisions s) :=
    countCard_of_below (s := responseGone f rest [] s) hbelow
  have hputs : putOut [] (riseCard .collisions s) = riseCard .collisions s := by
    simp [putOut, riseCard]
  rw [jamEnds_twelfth hst hjam hn, countCard_of_below hbelow, hcounted,
    ← mgmtEnd_removes (s := riseCard .collisions s) (straps := straps) hresponses hstays, hputs]
  exact txEnd_mgmt hhand

/-- A late collision of such a frame (R49, R57). -/
theorem collidesLate_mgmt (hst : s.bau.tx.st = .sending) (hjam : s.bau.tx.jamming = false)
    (hhand : s.bau.tx.hand = some .mgmt) (hresponses : s.fst.responses = f :: rest) (hstays : restartEnds f s = false)
    (hlong : 52 < f.payload.length) (hbelow : (s.cardCounter .lateCollisions).saturates 1 = false)
    (hflag : s.flagSet .busFault = true) :
    collidesLate s = countCard .lateCollisions (responseGone f rest [.jam] s) := by
  have hlength : 64 < s.inHandBytes.length := by
    rw [inHandBytes_mgmt hhand hresponses, length_busFrame]
    omega
  have hcounted : countCard .lateCollisions (responseGone f rest [.jam] s) =
      responseGone f rest [.jam] (riseCard .lateCollisions s) :=
    countCard_of_below (s := responseGone f rest [.jam] s) hbelow
  have hraised : raiseNotice .busFault (countCard .lateCollisions (putOut [.jam] s)) =
      putOut [.jam] (riseCard .lateCollisions s) := by
    rw [countCard_of_below (s := putOut [.jam] s) hbelow]
    exact if_pos hflag
  rw [collidesLate_long hst hjam hlength, hraised, hcounted,
    ← mgmtEnd_removes (s := riseCard .lateCollisions s) (straps := s.pins.straps) hresponses hstays]
  exact txEnd_mgmt hhand

end

/-! ## The waiting list (R157) -/

section
variable {s : State} {item : WaitItem} {later : List WaitItem}

/-- The first item is placed, and those behind it find the response queue full (R157). -/
theorem offered_places (hwaiting : s.mga.waiting = item :: later) (hfits : itemFits item s = true)
    (hfull : (placeItem item { s with mga := { s.mga with waiting := later } }).fst.responses.length = 8) :
    offered s = placeItem item { s with mga := { s.mga with waiting := later } } := by
  rw [offered, hwaiting, List.length_cons, offerWaiting]
  simp only [hwaiting, hfits, if_true]
  exact offerWaiting_of_full hfull _

/-- The first item has no room, and those behind it wait with it (R157). -/
theorem offered_waits (hwaiting : s.mga.waiting = item :: later) (hfits : itemFits item s = false) : offered s = s := by
  rw [offered, hwaiting, List.length_cons, offerWaiting]
  simp only [hwaiting, hfits, Bool.false_eq_true, if_false]

theorem settle_offers (h0 : s.stc.startState ≠ .reset) (hq : s.tsq.queue = []) (hcant : canTake (offered s) = false) :
    settle s = txArbitrate (offered s) := by
  rw [settle, if_neg h0, startChoice_noQueue hq, mgaWork_offers hcant]

/-- With room for one more response the first waiting item is placed where it fits (R48, R157). -/
theorem settle_offersFirst (h0 : s.stc.startState ≠ .reset) (hq : s.tsq.queue = [])
    (hresponses : s.fst.responses.length = 7) (hwaiting : s.mga.waiting = item :: later) :
    ∃ u, settle s = txArbitrate u ∧
      (itemFits item s = true → u = placeItem item { s with mga := { s.mga with waiting := later } }) ∧
      (itemFits item s = false → u = s) := by
  cases hfits : itemFits item s with
  | true =>
    have hfull : (placeItem item { s with mga := { s.mga with waiting := later } }).fst.responses.length = 8 := by
      cases item with
      | notice c => simp [placeItem, placeNotice, Fst.placeResponse, Fst.takeOut, hresponses]
      | answer payload =>
        simp only [placeItem, placeAnswer, removeRequestHead]
        split <;> simp [Fst.placeResponse, Fst.takeOut, Fst.giveBack, hresponses]
    have hoffered := offered_places hwaiting hfits hfull
    refine ⟨offered s, settle_offers h0 hq (by rw [hoffered, canTake_of_full hfull]), fun _ => hoffered,
      fun h => absurd h (by decide)⟩
  | false =>
    have hoffered := offered_waits hwaiting hfits
    have hcant : canTake s = false := by simp [canTake, hwaiting]
    exact ⟨offered s, settle_offers h0 hq (by rw [hoffered, hcant]), fun h => absurd h (by decide), fun _ => hoffered⟩

end

/-- A card counter's rise adds a NOTICE behind the response frames at most, and leaves a pending restart pending (R161, R163). -/
theorem countCard_responses (c : CardCounter) (s : State) :
    (∃ more, (countCard c s).fst.responses = s.fst.responses ++ more) ∧
      (countCard c s).mga.restartPending = s.mga.restartPending := by
  have hraise (t : State) : (∃ more, (raiseNotice .counterSaturated t).fst.responses = t.fst.responses ++ more) ∧
      (raiseNotice .counterSaturated t).mga.restartPending = t.mga.restartPending := by
    refine ⟨?_, raiseNotice_restartPending _ t⟩
    obtain h | ⟨u, rfl, -, h | ⟨h, -, -⟩ | h⟩ := raiseNotice_cases .counterSaturated t <;> rw [h]
    · exact ⟨[], (List.append_nil _).symm⟩
    · exact ⟨[], (List.append_nil _).symm⟩
    · exact ⟨_, rfl⟩
    · exact ⟨[], (List.append_nil _).symm⟩
  rw [countCard_eq]
  split
  · exact hraise (riseCard c s)
  · exact ⟨⟨[], (List.append_nil _).symm⟩, rfl⟩

theorem exec_restart (tag : BitVec 16) (s : State) : exec (.restart tag) s = request tag 11 [] s := rfl

/-- Settles O47: the restart at its answer's end, the other ends of a response frame, and the items that waited. -/
theorem restartFollowsItsAnswer : Obligations.RestartFollowsItsAnswer := by
  unfold Obligations.RestartFollowsItsAnswer
  refine ⟨fun s tag hs hl => ?_, fun s a b rest mark straps draw h0 hst hhand hpending hresponses => ?_,
    fun s f rest straps draw hu hst hhand hresponses hother => ?_,
    fun s f rest item later straps h0 hq hst hjam hhand hresponses hrest hwaiting hother => ?_⟩
  · obtain ⟨-, -, -, -, -, -, -, hidle⟩ := id hs
    exact request_writes (v := { s with mga := { s.mga with restartPending := true } }) (r := .restart) hs hl rfl (by simp) rfl
      (fun _ => rfl) rfl rfl hidle
  · intro restarted
    have hrestarted : ∀ u : State, u.ports = s.ports → u.tsq = s.tsq → u.pins = s.pins →
        u.mga.portCounters = s.mga.portCounters → restarted (restartCard straps u) := by
      intro u hports htsq hpins hcounters
      have hport (p : PortId) : u.port p = s.port p := by rw [State.port, hports, State.port]
      obtain ⟨ktsq, kmga, kfst, kshu, kusc, kclt, kbau, kstc, kcfg, ksmn, khold⟩ := restartCard_blocks straps u
      obtain ⟨-, -, hmsu⟩ := restartCard_starts straps u
      obtain ⟨hstart, hholder⟩ := restartCard_start straps u
      have krecord := restartCard_record straps u
      simp only [hport] at khold krecord
      simp only [restarted]
      generalize restartCard straps u = t at *
      rw [ktsq, kmga, kfst, kshu, kusc, kclt, kbau, kcfg, ksmn, khold, ← htsq, ← hcounters, ← hpins, hholder]
      refine ⟨rfl, rfl, rfl, rfl, rfl, rfl, rfl, rfl, storeAtReset_initial, shareAtReset_initial, schedulerAtReset_initial,
        claimsAtReset_initial, busAtReset_initial _, ?_, ?_, hstart, ?_, fun i => ?_, rfl, rfl, hmsu, rfl, ?_, rfl, rfl,
        krecord⟩
      · rw [kstc]
      · rw [kstc]
      · rw [kstc]
        rfl
      · rw [kstc]
        simp [Stc.initial]
      · exact ⟨rfl, rfl, rfl, rfl, rfl⟩
    have hends : ∀ u : State, (∃ more, u.fst.responses = s.fst.responses ++ more) → u.mga.restartPending = true →
        mgmtEnd straps (setTx Tx.initial u) = restartCard straps u := by
      rintro u ⟨more, hmore⟩ hup
      rw [hresponses, List.cons_append] at hmore
      exact mgmtEnd_restarts hmore (by simp [restartEnds, hup]) Tx.initial
    refine ⟨fun hjam => ?_, fun hjam hn => ?_⟩
    · have hevent : sendingEnds straps s = restartCard straps (putOut [.frame s.inHandBytes] s) := by
        rw [sendingEnds_eq hst hjam, txEnd_mgmt (s := putOut _ s) hhand]
        exact hends (putOut [.frame s.inHandBytes] s) ⟨[], (List.append_nil _).symm⟩ hpending
      refine ⟨restartCard straps (putOut [.frame s.inHandBytes] s), ?_, hrestarted _ rfl rfl rfl rfl, ?_⟩
      · rw [exec_successfulEnd, event_settle hevent, settle_restartCard]
      · obtain ⟨-, kmga, -⟩ := restartCard_blocks straps (putOut [.frame s.inHandBytes] s)
        rw [kmga]
        rfl
    · obtain ⟨hmore, hrestart⟩ := countCard_responses .collisions s
      have hevent : jamEnds draw straps s = restartCard straps (countCard .collisions s) := by
        rw [jamEnds_twelfth hst hjam hn, txEnd_mgmt (by simpa using hhand)]
        exact hends _ hmore (hrestart.trans hpending)
      refine ⟨restartCard straps (countCard .collisions s), ?_, hrestarted _ (by simp) (by simp) (by simp) (by simp),
        fun c => ?_⟩
      · rw [exec_jamEnd, event_settle hevent, settle_restartCard]
      · obtain ⟨-, kmga, -⟩ := restartCard_blocks straps (countCard .collisions s)
        rw [State.cardCounter, kmga]
        refine (countCard_cardCounter s .collisions c).trans ?_
        by_cases h : c = .collisions
        · rw [h]
        · rw [if_neg h, if_neg (Ne.symm h)]
  · have hstays := not_restartEnds hother
    intro removed
    refine ⟨fun hjam => ?_, fun hjam hn hbelow => ?_, fun hjam => ⟨fun hshort => ?_, fun hlong hbelow hflag => ?_⟩⟩
    · exact event_whole (sendingEnds_mgmt hst hjam hhand hresponses hstays) hu
    · have hremoved : responseGone f rest [] s = removed [] := rfl
      rw [exec_jamEnd, ← hremoved]
      refine event_whole (jamEnds_mgmt hst hjam hn hhand hresponses hstays hbelow) ?_
      rw [countCard_of_below (s := responseGone f rest [] s) hbelow]
      exact hu
    · refine event_busy (collidesLate_short ?_) hu (by simp [hst])
      rw [inHandBytes_mgmt hhand hresponses, length_busFrame]
      omega
    · have hremoved : responseGone f rest [.jam] s = removed [.jam] := rfl
      rw [exec_lateCollision, ← hremoved]
      refine event_whole (collidesLate_mgmt hst hjam hhand hresponses hstays hlong hbelow hflag) ?_
      rw [countCard_of_below (s := responseGone f rest [.jam] s) hbelow]
      exact hu
  · have hevent := sendingEnds_mgmt (straps := straps) hst hjam hhand hresponses (not_restartEnds hother)
    have hcells : 1 ≤ f.cells := le_max_left _ _
    generalize [BusOut.frame _] = out at hevent
    obtain ⟨u, hsettle, hfits, hwaits⟩ := settle_offersFirst (s := responseGone f rest out s) h0 hq hrest hwaiting
    refine ⟨u, by rw [exec_successfulEnd, event_settle hevent, hsettle], ?_, ?_⟩
    · rintro c rfl
      have hroom : itemFits (.notice c) (responseGone f rest out s) = true := by
        simp [itemFits, Fst.placeable, responseGone, hrest]
        omega
      have hone : cellsOf (noticePayload c s.mga.flags) = 1 := by simp [cellsOf, blocksOf, noticePayload]
      rw [hfits hroom]
      exact ⟨rfl, rfl, congrArg (s.fst.freeCells + f.cells - ·) hone, rfl, rfl⟩
    · rintro payload r others rfl hrequests room
      have hfit : itemFits (.answer payload) (responseGone f rest out s) = decide (cellsOf payload ≤ room) := by
        simp [itemFits, answerFits, returning, responseGone, hrequests, Fst.placeable, hrest, room]
      refine ⟨fun h => ?_, fun h => ?_⟩
      · rw [hfits (hfit.trans (decide_eq_true h))]
        simp only [placeItem, placeAnswer, removeRequestHead, responseGone, hrequests, true_and]
        exact ⟨rfl, rfl, rfl, rfl⟩
      · rw [hwaits (hfit.trans (decide_eq_false (by omega)))]
        exact ⟨hwaiting, rfl, rfl⟩

end Sys2Proof.Machine
end

section
/-! SUPPORT. Proofs about the share-period expiry (R68 to R84, R169). -/

namespace Sys2Proof.Machine

/-! ## Own demand and weight (R75) -/

theorem sum_map_ite_filter {α : Type} (xs : List α) (c : α → Bool) (f : α → Nat) :
    (xs.map (fun x => if c x then f x else 0)).sum = ((xs.filter c).map f).sum := by
  induction xs with
  | nil => rfl
  | cons x xs ih => cases h : c x <;> simp [h, ih]

section
variable {s : State}

theorem ownDemand_joining (h : s.stc.startState = .joining) : ownDemand s = 0 ∧ ownWeight s = 0 := ⟨if_pos h, if_pos h⟩

theorem ownDemand_serving (h : s.stc.startState ≠ .joining) : ownDemand s =
    min 65535 (((allPorts.filter (fun p => (s.port p).lineState == .inService)).map
      (fun p => min (cellsIn (tget s.fst.up p)) (s.aUpOf p))).sum) := by
  rw [ownDemand, if_neg h, ← sum_map_ite_filter]
  simp only [beq_iff_eq]
  rfl

theorem ownWeight_serving (h : s.stc.startState ≠ .joining) : ownWeight s =
    (((allPorts.filter (fun p => (s.port p).lineState == .inService)).filter
      (fun p => decide (tget s.fst.up p ≠ []))).map s.weightOf).sum := by
  have hweight : portWeight s = fun p =>
      if (decide (tget s.fst.up p ≠ []) && ((s.port p).lineState == .inService)) = true then s.weightOf p else 0 := by
    funext p
    simp only [portWeight, Bool.and_eq_true, decide_eq_true_eq, beq_iff_eq, List.isEmpty_eq_false_iff, and_comm]
  rw [ownWeight, if_neg h, hweight, sum_map_ite_filter, List.filter_filter]

end

/-! ## The end of a test leaves the ports that wait (R123, R128) -/

theorem endTest_lineState {s : State} {p : PortId} {run : Running} (hrun : s.tsq.running = some run)
    (htesting : (s.port p).lineState ≠ .testing) (hhold : (s.port p).lineState ≠ .hold) :
    ((endTest s).port p).lineState = (s.port p).lineState := by
  by_cases hp : p = run.req.port
  · subst hp
    rw [endTest_port_stays hrun htesting hhold, (Port.learn_keeps _ _).1]
  · rw [endTest_port_ne hrun hp, claimGiven_port_eq hhold]

theorem abortTest_lineState {s : State} {p : PortId} (c : AbortCause) (htesting : (s.port p).lineState ≠ .testing)
    (hhold : (s.port p).lineState ≠ .hold) : ((abortTest c s).port p).lineState = (s.port p).lineState := by
  have hopen (q : PortId) (u : State) : ((openTest q u).port p).lineState = (u.port p).lineState := by
    by_cases hq : q = p
    · subst hq
      rw [openTest, modPort_port_self]
    · rw [openTest, modPort_port_ne _ _ hq]
  cases hrun : s.tsq.running with
  | none => simp [abortTest, hrun]
  | some run =>
    cases hst : run.st with
    | claiming =>
      rw [abortTest_claiming hrun hst]
      exact endTest_lineState (s := setRunning _ s) rfl htesting hhold
    | isolating => rw [abortTest_isolating hrun hst, setRunning_port, hopen]
    | measuring =>
      rw [abortTest_measuring hrun hst, setRunning_port, hopen]
      simp [State.port]
    | restoring => rw [abortTest_restoring hrun hst]

/-- A port that is SHED or WAITING. -/
def Port.rests (r : Port) : Prop := r.lineState = .shed ∨ r.lineState = .waiting

/-- The supply states in which SHED ports return (R152). -/
def Supply.returns (w : Supply) : Prop := w = .mains ∨ w = .battery

theorem Port.moved_rests {w : Supply} {r : Port} (h : r.rests) :
    (r.moved w).rests ∧ (w.returns → (r.moved w).lineState = .waiting) := by
  have hshed (wake : Bool) : (r.to .shed wake).rests := .inl (Port.enter_lineState ..)
  have hwatch (wake : Bool) : r.lineState = .shed → (r.watch wake).rests := fun hl => .inl ((r.watch_spec wake).1.trans hl)
  have hlow : r.shedLow.rests := by
    obtain hl | hl := h
    · simpa [Port.shedLow, hl] using hwatch true hl
    · simpa [Port.shedLow, hl] using hshed true
  have hback (hw : w.returns) : (r.moved w).lineState = .waiting := by
    obtain ⟨hreturn, hstay⟩ := Port.returned_spec hw (r := r)
    obtain hl | hl := h
    · exact (hreturn hl).1
    · rw [hstay (by simp [hl]), hl]
  refine ⟨?_, hback⟩
  cases w with
  | mains => exact .inr (hback (.inl rfl))
  | battery => exact .inr (hback (.inr rfl))
  | low => exact hlow
  | critical =>
    by_cases hpriority : r.priority = true
    · simpa [Port.moved, Port.shedCritical, hpriority] using hlow
    · obtain hl | hl := h
      · simpa [Port.moved, Port.shedCritical, hpriority, hl] using hwatch false hl
      · simpa [Port.moved, Port.shedCritical, hpriority, hl] using hshed false

/-- A recomputed cabinet supply state moves a SHED or WAITING port between the two alone (R150 to R152). -/
theorem recomputeCabinet_rests {s : State} {p : PortId} (h : (s.port p).rests) :
    ((recomputeCabinet s).port p).rests ∧
      (worstSupply s ≠ s.smn.cabinet → (worstSupply s).returns → ((recomputeCabinet s).port p).lineState = .waiting) := by
  by_cases hsame : worstSupply s = s.smn.cabinet
  · rw [recomputeCabinet_same hsame]
    exact ⟨h, fun hne => absurd hsame hne⟩
  · rw [recomputeCabinet_changed hsame]
    generalize worstSupply s = w
    generalize hv : lsvSupply w (raiseNotice .supplyChange { s with smn := { s.smn with cabinet := w } }) = v
    have hport : v.port p = (s.port p).moved w := by
      rw [← hv, (lsvSupply_moves _ _ _).1, State.port, raiseNotice_ports]
      rfl
    obtain ⟨hrests, hback⟩ := Port.moved_rests h (w := w)
    rw [← hport] at hrests hback
    have habort : ((supplyAborts w v).port p).lineState = (v.port p).lineState := by
      have hcalm : (v.port p).lineState ≠ .testing ∧ (v.port p).lineState ≠ .hold := by
        obtain hl | hl := hrests <;> simp [hl]
      obtain ⟨htesting, hhold⟩ := hcalm
      unfold supplyAborts
      split
      · rfl
      · split
        · exact abortTest_lineState _ htesting hhold
        · split
          · rfl
          · exact abortTest_lineState _ htesting hhold
        · rfl
        · rfl
    rw [Port.rests, habort]
    exact ⟨hrests, fun _ => hback⟩

/-! ## The ageing of the peer table (R72) -/

/-- An entry of the peer table that an expiry removes (R72). -/
def Stale (s : State) (y : StationId) : Prop :=
  y ≠ s.stc.station ∧ (s.peer y).present = true ∧ 2 ≤ (s.peer y).age

/-- An entry of the peer table as an expiry ages it (R72). -/
def aged (s : State) (y : StationId) : Peer :=
  if y = s.stc.station ∨ (s.peer y).present = false then s.peer y
  else if (s.peer y).age + 1 < 3 then { s.peer y with age := (s.peer y).age + 1 } else Peer.absent

theorem aged_stale {s : State} {y : StationId} (h : Stale s y) : aged s y = Peer.absent := by
  obtain ⟨hown, hpresent, hage⟩ := h
  rw [aged, if_neg (by simp [hown, hpresent]), if_neg (by omega)]

theorem aged_fresh {s : State} {y : StationId} (hown : y ≠ s.stc.station) (h : ¬Stale s y) :
    aged s y = if (s.peer y).present = true then { s.peer y with age := (s.peer y).age + 1 } else s.peer y := by
  by_cases hpresent : (s.peer y).present = true
  · have hage : (s.peer y).age + 1 < 3 := by
      by_contra hage
      exact h ⟨hown, hpresent, by omega⟩
    rw [aged, if_neg (by simp [hown, hpresent]), if_pos hage, if_pos hpresent]
  · rw [aged, if_pos (.inr (by simpa using hpresent)), if_neg hpresent]

/-- The ageing of an entry that stays leaves what the supply states look at. -/
theorem aged_supply {s : State} {y : StationId} (h : ¬Stale s y) :
    (aged s y).present = (s.peer y).present ∧ (aged s y).supply = (s.peer y).supply := by
  by_cases hown : y = s.stc.station
  · rw [aged, if_pos (.inl hown)]
    exact ⟨rfl, rfl⟩
  · rw [aged_fresh hown h]
    split <;> exact ⟨rfl, rfl⟩

theorem agePeer_fresh {s : State} {y : StationId} (h : ¬Stale s y) : agePeer y s = setPeer y (aged s y) s := by
  unfold agePeer aged
  dsimp only
  split
  · simp [setPeer, State.peer, tset_tget]
  · next hold =>
    split
    · rfl
    · next hage =>
      refine absurd ⟨fun hown => hold (.inl hown), ?_, by omega⟩ h
      simpa using fun hnone => hold (.inr hnone)

theorem agePeer_stale {s : State} {y : StationId} (h : Stale s y) :
    agePeer y s = recomputeCabinet (setPeer y Peer.absent s) := by
  obtain ⟨hown, hpresent, hage⟩ := h
  unfold agePeer
  rw [if_neg (by simp [hown, hpresent]), if_neg (by omega)]

/-- What the ageing of some entries has done to the card (R72, R148). -/
structure Aging (s : State) (seen : List StationId) (u : State) : Prop where
  work : u.work = s.work
  shu : ∃ peers, u.shu = { s.shu with peers := peers }
  own : u.smn.own = s.smn.own
  peer : ∀ y, u.peer y = if y ∈ seen then aged s y else s.peer y
  worst : (∃ y, y ∈ seen ∧ Stale s y) → u.smn.cabinet = worstSupply u
  kept : (∀ y, y ∈ seen → ¬Stale s y) → ∃ peers, u = { s with shu := { s.shu with peers := peers } }
  flag : u.smn.cabinet ≠ s.smn.cabinet → u.flagSet .supplyChange = true
  rests : ∀ p, (s.port p).lineState = .shed → (u.port p).rests ∧
    (u.smn.cabinet ≠ s.smn.cabinet → u.smn.cabinet.returns → (u.port p).lineState = .waiting)

theorem Aging.refl (s : State) : Aging s [] s where
  work := rfl
  shu := ⟨_, rfl⟩
  own := rfl
  peer _ := (if_neg List.not_mem_nil).symm
  worst := fun ⟨_, h, _⟩ => absurd h List.not_mem_nil
  kept _ := ⟨_, rfl⟩
  flag h := absurd rfl h
  rests _ hp := ⟨.inl hp, fun h => absurd rfl h⟩

theorem Aging.stc {s u : State} {seen : List StationId} (h : Aging s seen u) : u.stc = s.stc := by
  have hwork := h.work
  simp only [State.work, Prod.mk.injEq] at hwork
  exact hwork.1

section
variable {s u : State} {seen : List StationId} {t : StationId}

/-- The table after one more entry has aged (R72). -/
theorem Aging.peer_set (h : Aging s seen u) {v : State} (hv : v.shu.peers = tset u.shu.peers t (aged s t))
    (y : StationId) : v.peer y = if y ∈ t :: seen then aged s y else s.peer y := by
  rw [State.peer, hv, tget_tset]
  by_cases hy : t = y
  · subst hy
    simp
  · rw [if_neg hy]
    refine (h.peer y).trans ?_
    simp [Ne.symm hy]

theorem Aging.shu_set (h : Aging s seen u) (e : Peer) :
    ∃ peers, (setPeer t e u).shu = { s.shu with peers := peers } := by
  obtain ⟨peers, hu⟩ := h.shu
  rw [setPeer, hu]
  exact ⟨_, rfl⟩

/-- An entry is removed, and the cabinet supply state follows (R72, R148). -/
theorem Aging.remove (h : Aging s seen u) (hstale : Stale s t) :
    Aging s (t :: seen) (recomputeCabinet (setPeer t Peer.absent u)) := by
  have hpeers := h.peer_set (v := recomputeCabinet (setPeer t Peer.absent u))
    (by rw [recomputeCabinet_shu, aged_stale hstale]; rfl)
  have hshu := h.shu_set (t := t) Peer.absent
  have hown : (setPeer t Peer.absent u).smn.own = s.smn.own := h.own
  have hflag : (setPeer t Peer.absent u).smn.cabinet ≠ s.smn.cabinet →
      (setPeer t Peer.absent u).flagSet .supplyChange = true := h.flag
  have hrests : ∀ p, (s.port p).lineState = .shed → ((setPeer t Peer.absent u).port p).rests ∧
      ((setPeer t Peer.absent u).smn.cabinet ≠ s.smn.cabinet → (setPeer t Peer.absent u).smn.cabinet.returns →
        ((setPeer t Peer.absent u).port p).lineState = .waiting) := h.rests
  have hwork : (setPeer t Peer.absent u).work = s.work := h.work
  generalize setPeer t Peer.absent u = w at *
  have hcabinet := recomputeCabinet_smn w
  have hsame := recomputeCabinet_same (s := w)
  refine ⟨(recomputeCabinet_work w).trans hwork, by rw [recomputeCabinet_shu]; exact hshu, by rw [hcabinet]; exact hown,
    hpeers, fun _ => ?_, fun hnone => absurd hstale (hnone t List.mem_cons_self), fun hne => ?_, fun p hp => ?_⟩
  · have hworst : worstSupply (recomputeCabinet w) = worstSupply w :=
      worstSupply_congr (by rw [recomputeCabinet_shu]) (by rw [recomputeCabinet_stc]) (by rw [hcabinet])
    rw [hcabinet, hworst]
  · by_cases hw : worstSupply w = w.smn.cabinet
    · rw [hsame hw] at hne ⊢
      exact hflag hne
    · exact recomputeCabinet_flag hw
  · obtain ⟨hrest, hback⟩ := hrests p hp
    obtain ⟨kept, returned⟩ := recomputeCabinet_rests hrest
    refine ⟨kept, fun hne hreturns => ?_⟩
    by_cases hw : worstSupply w = w.smn.cabinet
    · rw [hsame hw] at hne hreturns ⊢
      exact hback hne hreturns
    · rw [hcabinet] at hreturns
      exact returned hw hreturns

/-- An entry that stays ages, and the cabinet supply state stays with it (R72). -/
theorem Aging.stay (h : Aging s seen u) (hpeer : u.peer t = s.peer t) (hfresh : ¬Stale s t) :
    Aging s (t :: seen) (setPeer t (aged s t) u) := by
  refine ⟨h.work, h.shu_set _, h.own, h.peer_set rfl, ?_, fun hnone => ?_, h.flag, h.rests⟩
  · rintro ⟨y, hy, hys⟩
    obtain rfl | hy := List.mem_cons.mp hy
    · exact absurd hys hfresh
    · obtain ⟨hpresent, hsupply⟩ := aged_supply hfresh
      rw [worstSupply_setPeer fun _ => ⟨hpresent.trans (by rw [hpeer]), hsupply.trans (by rw [hpeer])⟩]
      exact h.worst ⟨y, hy, hys⟩
  · obtain ⟨peers, rfl⟩ := h.kept fun y hy => hnone y (List.mem_cons_of_mem t hy)
    exact ⟨_, rfl⟩

theorem Aging.step (h : Aging s seen u) (ht : t ∉ seen) : Aging s (t :: seen) (agePeer t u) := by
  have hpeer : u.peer t = s.peer t := by rw [h.peer, if_neg ht]
  have hstale : Stale u t ↔ Stale s t := by rw [Stale, Stale, h.stc, hpeer]
  have haged : aged u t = aged s t := by rw [aged, aged, h.stc, hpeer]
  by_cases hst : Stale s t
  · rw [agePeer_stale (hstale.mpr hst)]
    exact h.remove hst
  · rw [agePeer_fresh (mt hstale.mp hst), haged]
    exact h.stay hpeer hst

end

theorem Aging.fold {s u : State} {seen : List StationId} (h : Aging s seen u) (rest : List StationId)
    (hrest : rest.Nodup) (hnew : ∀ y, y ∈ rest → y ∉ seen) :
    ∃ all, (∀ y, y ∈ all ↔ y ∈ rest ∨ y ∈ seen) ∧ Aging s all (rest.foldl (fun u t => agePeer t u) u) := by
  induction rest generalizing seen u with
  | nil => exact ⟨seen, by simp, h⟩
  | cons t ts ih =>
    obtain ⟨ht, hts⟩ := List.nodup_cons.mp hrest
    obtain ⟨all, hall, haging⟩ := ih (h.step (hnew t List.mem_cons_self)) hts (fun y hy => by
      rw [List.mem_cons, not_or]
      exact ⟨fun hyt => ht (hyt ▸ hy), hnew y (List.mem_cons_of_mem t hy)⟩)
    refine ⟨all, fun y => (hall y).trans ?_, haging⟩
    simp only [List.mem_cons]
    tauto

theorem mem_allStations (y : StationId) : y ∈ allStations := by
  revert y
  decide

theorem agePeers_aging (s : State) : ∃ all, (∀ y, y ∈ all) ∧ Aging s all (agePeers s) := by
  obtain ⟨all, hall, haging⟩ := (Aging.refl s).fold allStations (by decide) (fun y _ => List.not_mem_nil)
  exact ⟨all, fun y => (hall y).mpr (.inl (mem_allStations y)), haging⟩

/-! ## The ageing of the capacity notice (R73) -/

theorem ageNotice_writes (s : State) :
    ∃ notice cWork, ageNotice s = { s with shu := { s.shu with notice := notice, cWork := cWork } } := by
  unfold ageNotice
  split
  · exact ⟨_, _, rfl⟩
  · split
    · exact ⟨_, _, rfl⟩
    · exact ⟨_, _, rfl⟩

theorem ageNotice_none {s : State} (h : s.shu.notice = none) : ageNotice s = s := by simp [ageNotice, h]

theorem ageNotice_some {s : State} {n : Notice} (h : s.shu.notice = some n) :
    (n.age < 2 → (ageNotice s).shu.notice = some { n with age := n.age + 1 } ∧ (ageNotice s).shu.cWork = s.shu.cWork) ∧
      (2 ≤ n.age → (ageNotice s).shu.notice = none ∧ (ageNotice s).shu.cWork = s.cfg.cCfg) := by
  refine ⟨fun hage => ?_, fun hage => ?_⟩
  · simp [ageNotice, h, show n.age + 1 < 3 by omega]
  · simp [ageNotice, h, show ¬n.age + 1 < 3 by omega, setNotice, workingCapacity]

/-! ## The expiry (R69) -/

/-- The card as SHU's work leaves it, once the tables have aged: the own entry, the grant, the credit and the ADVERT (R69). -/
def renewed (s : State) : State :=
  let peers := tset s.shu.peers s.stc.station (ownEntry s)
  let grant := (computeShares s.shu.cWork (sharersOf peers)).grantOf s.stc.station
  { s with
    bau := { s.bau with
      ctrl := ctrlPlaceAdvert
        (.advert (ownDemand s) (ownWeight s) s.smn.own (s.stc.startState == .joining) s.shu.nextSeq) s.bau.ctrl }
    shu := { s.shu with
      peers := peers, grant := grant, credit := min s.shu.credit 0 + (grant : Int), nextSeq := s.shu.nextSeq + 1 } }

theorem shareExpiry_eq (s : State) : shareExpiry s = renewed (ageNotice (agePeers s)) := by
  rw [shareExpiry, expiryTables]
  generalize ageNotice (agePeers s) = v
  simp only [setPeer, expiryGrant, expiryCredit, expiryAdvert, State.peer, State.modCtrl, tget_tset_self]
  rfl

theorem renewed_peer (s : State) (y : StationId) :
    (renewed s).peer y = if s.stc.station = y then ownEntry s else s.peer y := tget_tset _ _ _ _

theorem sharePeriodExpires_joined {s : State} (h : s.stc.startState = .joining ∨ s.stc.startState = .running) :
    sharePeriodExpires s = countJoining (uscRefillAll (renewed (ageNotice (agePeers s)))) := by
  rw [sharePeriodExpires, if_pos ((joined_iff s).mpr h), shareExpiry_eq]

theorem exec_sharePeriodExpiry (s : State) : exec .sharePeriodExpiry s = event sharePeriodExpires s := rfl

/-! ## The entry to RUNNING (R169) -/

section
variable {s : State}

theorem countJoining_running (h : s.stc.startState = .running) : countJoining s = s := if_neg (by simp [h])

/-- JOINING's first and second expiries count alone (R169). -/
theorem countJoining_early (h : s.stc.startState = .joining) (hcount : s.stc.joinCount < 2) :
    countJoining s = { s with stc := { s.stc with joinCount := s.stc.joinCount + 1 } } := by
  simp only [countJoining, h, if_true]
  exact if_pos (by omega)

/-- JOINING's third expiry enters RUNNING (R169). -/
theorem countJoining_third (h : s.stc.startState = .joining) (hcount : 2 ≤ s.stc.joinCount) : countJoining s =
    (enterPorts { s with stc := { s.stc with joinCount := s.stc.joinCount + 1 } }).besides
      { s.stc with joinCount := s.stc.joinCount + 1, startState := .running } s.clt := by
  refine Eq.trans ?_ (enterRunning_eq { s with stc := { s.stc with joinCount := s.stc.joinCount + 1 } })
  simp only [countJoining, h, if_true]
  exact if_neg (by omega)

theorem enterPorts_keeps (s : State) : (enterPorts s).shu = s.shu ∧ (enterPorts s).smn = s.smn ∧
    (enterPorts s).work = s.work ∧ FlagsRise s (enterPorts s) := by
  refine ⟨forPorts_keeps State.shu _ (fun p t => ?_) _ s, forPorts_keeps State.smn _ (fun p t => ?_) _ s,
    forPorts_keeps State.work _ (fun p t => ?_) _ s, .forPorts (fun p t => ?_) _ s⟩
  · split <;> simp
  · split <;> simp
  · split <;> simp
  · exact .ite (.changeState p _ _ _ t) (.refl t)

/-- Where an enabled port goes at the entry to RUNNING (R12, R169). -/
theorem enterPorts_port (s : State) (p : PortId) : (enterPorts s).port p =
    if (s.port p).admin = true then
      (s.port p).to (waitTarget s.smn.cabinet (s.port p).priority).1 (waitTarget s.smn.cabinet (s.port p).priority).2
    else s.port p := by
  refine forPorts_port (I := fun t => t.smn = s.smn)
    (G := fun r => if r.admin = true then
      r.to (waitTarget s.smn.cabinet r.priority).1 (waitTarget s.smn.cabinet r.priority).2 else r)
    (fun p t ht => ?_) (fun p t ht => ?_) (fun p q t hpq => ?_) rfl p
  · split
    · rw [toWaiting_smn, ht]
    · exact ht
  · split
    · rw [toWaiting, changeState_port_self, ht]
      rfl
    · rfl
  · split
    · exact changeState_others _ _ _ _ _ _ hpq
    · rfl

theorem besides_port (c : Stc) (x : Clt) (s : State) (p : PortId) : (s.besides c x).port p = s.port p := rfl

/-- Where the ports go at JOINING's third expiry (R12, R169). -/
theorem countJoining_third_port (h : s.stc.startState = .joining) (hcount : 2 ≤ s.stc.joinCount) (p : PortId) :
    (countJoining s).port p = if (s.port p).admin = true then
      (s.port p).to (waitTarget s.smn.cabinet (s.port p).priority).1 (waitTarget s.smn.cabinet (s.port p).priority).2
    else s.port p := by
  rw [countJoining_third h hcount, besides_port, enterPorts_port]
  rfl

theorem waitTarget_fst (cabinet : Supply) (priority : Bool) : (waitTarget cabinet priority).1 =
    if cabinet = .mains ∨ cabinet = .battery then .waiting else .shed := by
  cases cabinet <;> rfl

/-- What STC's count leaves of the expiry (R169). -/
theorem countJoining_keeps (s : State) :
    let t := countJoining s
    t.shu = s.shu ∧ t.smn = s.smn ∧ t.stc.station = s.stc.station ∧
      (s.stc.startState ≠ .reset → t.stc.startState ≠ .reset) ∧ t.tsq.queue = s.tsq.queue ∧
      t.fst.requests = s.fst.requests ∧ FlagsRise s t := by
  intro t
  by_cases hjoining : s.stc.startState = .joining
  · by_cases hcount : s.stc.joinCount < 2
    · have ht : t = _ := countJoining_early hjoining hcount
      rw [ht]
      exact ⟨rfl, rfl, rfl, id, rfl, rfl, .of_mga rfl⟩
    · have ht : t = _ := countJoining_third hjoining (by omega)
      obtain ⟨hshu, hsmn, hwork, hflags⟩ :=
        enterPorts_keeps { s with stc := { s.stc with joinCount := s.stc.joinCount + 1 } }
      generalize enterPorts { s with stc := { s.stc with joinCount := s.stc.joinCount + 1 } } = u at *
      simp only [State.work, Prod.mk.injEq] at hwork
      obtain ⟨-, hqueue, hrequests⟩ := hwork
      rw [ht]
      exact ⟨hshu, hsmn, rfl, fun _ => by simp [State.besides], hqueue, hrequests, ⟨hflags.flag⟩⟩
  · have ht : t = s := if_neg hjoining
    rw [ht]
    exact ⟨rfl, rfl, rfl, id, rfl, rfl, .refl s⟩

end

/-! ## The expiry before STC's count (R69, R88) -/

/-- The card as SHU and USC leave it, once the peer table has aged (R69, R88). -/
def refreshed (a : State) : State := uscRefillAll (renewed (ageNotice a))

theorem refreshed_frame (a : State) :
    let x := refreshed a
    x.stc = a.stc ∧ x.smn = a.smn ∧ x.mga = a.mga ∧ x.ports = a.ports ∧ x.tsq = a.tsq ∧ x.fst = a.fst := by
  obtain ⟨notice, cWork, hv⟩ := ageNotice_writes a
  simp only [refreshed, uscRefillAll_stc, uscRefillAll_smn, uscRefillAll_mga, uscRefillAll_ports, uscRefillAll_tsq,
    uscRefillAll_fst, hv]
  exact ⟨rfl, rfl, rfl, rfl, rfl, rfl⟩

theorem refreshed_shu (a : State) :
    let x := refreshed a
    x.shu.peers = tset a.shu.peers a.stc.station (ownEntry (ageNotice a)) ∧
      x.shu.grant = (computeShares x.shu.cWork (sharersOf x.shu.peers)).grantOf a.stc.station ∧
      x.shu.credit = min a.shu.credit 0 + (x.shu.grant : Int) ∧ x.shu.nextSeq = a.shu.nextSeq + 1 ∧
      x.shu.notice = (ageNotice a).shu.notice ∧ x.shu.cWork = (ageNotice a).shu.cWork := by
  obtain ⟨notice, cWork, hv⟩ := ageNotice_writes a
  simp only [refreshed, uscRefillAll_shu, hv]
  exact ⟨rfl, rfl, rfl, rfl, rfl, rfl⟩

theorem refreshed_peer (a : State) (y : StationId) :
    (refreshed a).peer y = if a.stc.station = y then ownEntry (ageNotice a) else a.peer y := by
  obtain ⟨hpeers, -⟩ := refreshed_shu a
  rw [State.peer, hpeers, tget_tset]
  rfl

theorem refreshed_ctrl (a : State) :
    let e := ownEntry (ageNotice a)
    (refreshed a).bau.ctrl = ctrlPlaceAdvert (.advert e.demand e.weight e.supply e.joining e.lastSeq) a.bau.ctrl := by
  obtain ⟨notice, cWork, hv⟩ := ageNotice_writes a
  simp only [refreshed, uscRefillAll_bau, hv]
  rfl

/-- The tokens after the refill (R88). -/
theorem refreshed_tokens (a : State) (p : PortId) : ((refreshed a).uscPort p).tokens = refilled a p := by
  obtain ⟨notice, cWork, hv⟩ := ageNotice_writes a
  rw [refreshed, (uscRefillAll_tokens _ p).1, hv]
  rfl

/-- The own entry has no part in the cabinet supply state (R148). -/
theorem worstSupply_refreshed (a : State) : worstSupply (refreshed a) = worstSupply a := by
  obtain ⟨hstc, hsmn, -⟩ := refreshed_frame a
  obtain ⟨hpeers, -⟩ := refreshed_shu a
  exact (worstSupply_congr (s := setPeer a.stc.station (ownEntry (ageNotice a)) a) hpeers (by rw [hstc]; rfl)
    (by rw [hsmn]; rfl)).trans (worstSupply_setPeer fun h => absurd rfl h)

section
variable {s : State}

theorem sharePeriod_settles (h : s.stc.startState = .joining ∨ s.stc.startState = .running) :
    exec .sharePeriodExpiry s = .next (settle (countJoining (refreshed (agePeers s)))) := by
  rw [exec_sharePeriodExpiry, event, sharePeriodExpires_joined h]
  rfl

theorem sharePeriod_quiet (hu : Unburdened s) : Quiet (countJoining (refreshed (agePeers s))) := by
  obtain ⟨all, -, haging⟩ := agePeers_aging s
  have hwork := haging.work
  simp only [State.work, Prod.mk.injEq] at hwork
  obtain ⟨hstc, hqueue, hrequests⟩ := hwork
  obtain ⟨kstc, -, -, -, ktsq, kfst⟩ := refreshed_frame (agePeers s)
  obtain ⟨-, -, -, hout, jqueue, jrequests, -⟩ := countJoining_keeps (refreshed (agePeers s))
  obtain ⟨u0, uq, ur, -⟩ := hu
  refine ⟨hout ?_, .inl ?_, ?_⟩
  · rw [kstc, hstc]
    exact u0
  · rw [jqueue, ktsq, hqueue, uq]
  · rw [jrequests, kfst, hrequests, ur]

/-- What the end of the step leaves of the aged card (R69, R148, R169). -/
theorem sharePeriod_keeps (hu : Unburdened s) :
    let a := agePeers s
    let t := settle (countJoining (refreshed a))
    t.shu = (refreshed a).shu ∧ t.smn = a.smn ∧ worstSupply t = worstSupply a ∧
      (a.flagSet .supplyChange = true → t.flagSet .supplyChange = true) ∧
      (s.stc.startState = .running → t.ports = a.ports) := by
  have hquiet := sharePeriod_quiet hu
  have hstc : (agePeers s).stc = s.stc := agePeers_stc s
  obtain ⟨kstc, ksmn, kmga, kports, -, -⟩ := refreshed_frame (agePeers s)
  have kworst := worstSupply_refreshed (agePeers s)
  obtain ⟨jshu, jsmn, jstation, -, -, -, jflags⟩ := countJoining_keeps (refreshed (agePeers s))
  refine ⟨?_, ?_, ?_, fun hset => ?_, fun hrunning => ?_⟩
  · rw [hquiet.settle_shu, jshu]
  · rw [hquiet.settle_smn, jsmn, ksmn]
  · rw [← kworst]
    exact worstSupply_congr (by rw [hquiet.settle_shu, jshu]) (by rw [hquiet.settle_stc, jstation])
      (by rw [hquiet.settle_smn, jsmn])
  · rw [State.flagSet, hquiet.settle_flags]
    refine jflags.flag _ ?_
    rw [State.flagSet, kmga]
    exact hset
  · rw [hquiet.settle_ports, countJoining_running (by rw [kstc, hstc, hrunning]), kports]

/-- Where no peer goes, the ageing writes the peer table alone (R72). -/
theorem agePeers_kept (h : ∀ y, ¬Stale s y) :
    ∃ peers, agePeers s = { s with shu := { s.shu with peers := peers } } ∧
      (∀ y, tget peers y = aged s y) := by
  obtain ⟨all, hall, haging⟩ := agePeers_aging s
  obtain ⟨peers, hkept⟩ := haging.kept fun y _ => h y
  refine ⟨peers, hkept, fun y => ?_⟩
  have hpeer := haging.peer y
  rw [if_pos (hall y), hkept] at hpeer
  exact hpeer

/-- The own entry is rewritten with the figures before the expiry where no peer goes (R72). -/
theorem ownEntry_kept {peers : Tbl Peer 8} (ha : agePeers s = { s with shu := { s.shu with peers := peers } }) :
    ownEntry (ageNotice (agePeers s)) = ownEntry s := by
  obtain ⟨notice, cWork, hv⟩ := ageNotice_writes (agePeers s)
  rw [hv, ha]
  rfl

end

/-- Settles O32: the aged tables and what follows from them, the whole state where no peer goes, and JOINING's count. -/
theorem sharePeriodRenewsCredit : Obligations.SharePeriodRenewsCredit := by
  unfold Obligations.SharePeriodRenewsCredit
  refine ⟨fun s => ⟨ownDemand_joining, fun h => ⟨ownDemand_serving h, ownWeight_serving h⟩⟩, fun s hu hjoined => ?_,
    fun s hu hfresh => ?_⟩
  · intro stale
    obtain ⟨all, hall, haging⟩ := agePeers_aging s
    have hstc := haging.stc
    obtain ⟨-, ⟨peers, hshu⟩, -, hpeer, hworst, hkept, hflag, hrests⟩ := haging
    obtain ⟨tshu, tsmn, tworst, tflag, tports⟩ := sharePeriod_keeps hu
    obtain ⟨-, kgrant, kcredit, kseq, -, -⟩ := refreshed_shu (agePeers s)
    have kpeer := refreshed_peer (agePeers s)
    refine ⟨_, sharePeriod_settles hjoined, ?_⟩
    generalize agePeers s = a at *
    have hother (z : StationId) (hown : z ≠ s.stc.station) :
        (settle (countJoining (refreshed a))).peer z = aged s z := by
      rw [State.peer, tshu, ← State.peer, kpeer, if_neg (by rw [hstc]; exact hown.symm), hpeer, if_pos (hall z)]
    rw [tshu, tsmn, tworst]
    refine ⟨fun z => ⟨fun hz => ?_, fun hown hz => ?_⟩, ?_, fun hne => ⟨tflag (hflag hne), fun hrunning hreturns p hp => ?_⟩,
      by rw [kgrant, hstc], by rw [kcredit, hshu], by rw [kseq, hshu]⟩
    · exact (hother z hz.1).trans (aged_stale hz)
    · rw [hother z hown, aged_fresh hown hz]
    · split
      · next h =>
        obtain ⟨z, hz⟩ := h
        exact hworst ⟨z, hall z, hz⟩
      · next h =>
        obtain ⟨_, rfl⟩ := hkept fun z _ hz => h ⟨z, hz⟩
        rfl
    · rw [State.port, tports hrunning]
      exact (hrests p hp).2 hne hreturns
  · have hnone : ∀ y, ¬Stale s y := by
      rintro y ⟨hown, hpresent, hage⟩
      exact absurd (hfresh y hown hpresent) (by omega)
    have hquiet := sharePeriod_quiet hu
    obtain ⟨peers, ha, hpeers⟩ := agePeers_kept hnone
    have hown := ownEntry_kept ha
    refine ⟨fun hrunning => ?_, fun hjoining => ?_⟩
    · have hexec := sharePeriod_settles (.inr hrunning)
      have htokens := refreshed_tokens (agePeers s)
      have hpeer := refreshed_peer (agePeers s)
      have hctrl := refreshed_ctrl (agePeers s)
      obtain ⟨kstc, ksmn, kmga, kports, ktsq, kfst⟩ := refreshed_frame (agePeers s)
      obtain ⟨-, kgrant, kcredit, kseq, knotice, kwork⟩ := refreshed_shu (agePeers s)
      have hnotice := ageNotice_none (s := agePeers s)
      have hsome := fun n => ageNotice_some (s := agePeers s) (n := n)
      have hentry : ownEntry s =
          { present := true, demand := ownDemand s, weight := ownWeight s, supply := s.smn.own, joining := false,
            lastSeq := s.shu.nextSeq, age := 0 } := by
        rw [ownEntry, hrunning]
        rfl
      rw [hown, hentry] at hctrl
      rw [hown] at hpeer
      generalize refreshed (agePeers s) = x at *
      generalize ageNotice (agePeers s) = v at *
      rw [ha] at kstc ksmn kmga kports ktsq kfst kgrant kcredit kseq hnotice hsome hctrl
      have hrunning' : x.stc.startState = .running := by rw [kstc]; exact hrunning
      rw [countJoining_running hrunning'] at hexec hquiet
      have hux : Unburdened x := by
        obtain ⟨u0, uq, ur, uw⟩ := hu
        exact ⟨by rw [kstc]; exact u0, by rw [ktsq]; exact uq, by rw [kfst]; exact ur, by rw [kmga]; exact uw⟩
      refine ⟨x, by rw [hexec, settle_unburdened hux], fun y hy => ?_, ?_, fun h => ?_, fun n hn => ?_, kgrant, kcredit, kseq,
        hctrl, fun p => ?_, kports, kfst, ksmn⟩
      · rw [hpeer, ha, if_neg hy.symm]
        exact (hpeers y).trans (aged_fresh hy (hnone y))
      · rw [hpeer, ha, if_pos rfl, hentry]
      · rw [knotice, kwork, hnotice h]
        exact ⟨h, rfl⟩
      · rw [knotice, kwork]
        exact hsome n hn
      · rw [htokens, ha]
        rfl
    · have hexec := sharePeriod_settles (.inl hjoining)
      have hpeer := refreshed_peer (agePeers s) s.stc.station
      obtain ⟨kstc, ksmn, -, kports, -, -⟩ := refreshed_frame (agePeers s)
      rw [hown] at hpeer
      generalize refreshed (agePeers s) = x at *
      rw [ha, if_pos rfl] at hpeer
      rw [ha] at kstc ksmn kports
      have hxjoining : x.stc.startState = .joining := by rw [kstc]; exact hjoining
      obtain ⟨jshu, -⟩ := countJoining_keeps x
      refine ⟨_, hexec, ?_, ?_, fun hcount => ?_, fun hcount => ?_⟩
      · rw [hquiet.settle_stc]
        by_cases hcount : s.stc.joinCount < 2
        · rw [countJoining_early hxjoining (by rw [kstc]; exact hcount), kstc]
        · rw [countJoining_third hxjoining (by rw [kstc]; exact Nat.not_lt.mp hcount), State.besides, kstc]
      · rw [State.peer, hquiet.settle_shu, jshu, ← State.peer, hpeer]
        obtain ⟨hdemand, hweight⟩ := ownDemand_joining hjoining
        rw [ownEntry, hdemand, hweight, hjoining]
        rfl
      · rw [hquiet.settle_stc, hquiet.settle_ports, countJoining_early hxjoining (by rw [kstc]; exact hcount)]
        exact ⟨hxjoining, kports⟩
      · refine ⟨?_, fun p => ?_⟩
        · rw [hquiet.settle_stc, countJoining_third hxjoining (by rw [kstc]; exact hcount)]
          rfl
        · have hport : (settle (countJoining x)).port p = if (s.port p).admin = true then
              (s.port p).to (waitTarget s.smn.cabinet (s.port p).priority).1
                (waitTarget s.smn.cabinet (s.port p).priority).2
              else s.port p := by
            have hsame : x.port p = s.port p := by rw [State.port, kports, State.port]
            rw [hquiet.settle_port, countJoining_third_port hxjoining (by rw [kstc]; exact hcount), hsame, ksmn]
          rw [hport]
          refine ⟨fun hadmin => if_neg (by simp [hadmin]), fun hadmin => ?_⟩
          rw [if_pos hadmin, Port.to, Port.enter_lineState, waitTarget_fst]

end Sys2Proof.Machine
end

section
/-! SUPPORT. Proofs about the start choice and the arguments of test requests (R113 to R119, R156, R159). -/

namespace Sys2Proof.Machine

/-! ## Arguments (R159, R174) -/

theorem exec_testRequest (tag : BitVec 16) (port kind : Byte) (intrusive : Bool) (tone : Option ToneArgs) (s : State) :
    exec (.testRequest tag port kind intrusive tone) s =
      request tag 5 ([port, kind, flagByte intrusive] ++ toneArgBytes tone) s := rfl

theorem exec_testCancel (tag : BitVec 16) (port : Byte) (s : State) :
    exec (.testCancel tag port) s = request tag 6 [port] s := rfl

theorem testRequest_args_length (port kind : Byte) (intrusive : Bool) (tone : Option ToneArgs) :
    ([port, kind, flagByte intrusive] ++ toneArgBytes tone).length ≤ 1024 := by
  cases tone <;> simp [toneArgBytes, u16]

theorem flagByte_bit (b : Bool) : (flagByte b).getLsbD 0 = b := by cases b <;> rfl

theorem testKindOf_code (k : TestKind) : testKindOf (u8 k.code).toNat = some k := by cases k <;> rfl

/-- The arguments of a TEST_REQUEST in range are read as they were written; the tone fields of another kind are not (R159). -/
theorem parseArgs_testRequest (p : PortId) {kind : TestKind} (intrusive : Bool) {tone : Option ToneArgs}
    {spec : Option ToneSpec} (hplain : kind ≠ .tone → spec = none)
    (htone : kind = .tone → ∃ a w, tone = some a ∧ spec = some w ∧
      toneSpecOf a.freq.toNat a.width.toNat a.minutes.toNat = some w) :
    parseArgs 5 ([u8 p.val, u8 kind.code, flagByte intrusive] ++ toneArgBytes tone) =
      some (.testRequest p kind intrusive spec) := by
  show parseTestRequest (u8 p.val :: u8 kind.code :: flagByte intrusive :: toneArgBytes tone) = _
  simp only [parseTestRequest, portOfByte_port, testKindOf_code, flagByte_bit]
  cases kind with
  | lineCheck => rw [hplain (by decide)]
  | quickCheck => rw [hplain (by decide)]
  | tone =>
    obtain ⟨a, w, rfl, rfl, hspec⟩ := htone rfl
    show (toneSpecOf (pair16 (u8 (a.freq.toNat / 256)) (u8 a.freq.toNat))
      (pair16 (u8 (a.width.toNat / 256)) (u8 a.width.toNat)) a.minutes.toNat).map _ = _
    rw [pair16_bytes, pair16_bytes, hspec]
    rfl

theorem parseArgs_testCancel (p : PortId) : parseArgs 6 [u8 p.val] = some (.testCancel p) := by
  simp [parseArgs, portOfByte_port]

/-! ## Which request may start (R116) -/

section
variable {s : State} {q : TestReq}

theorem mayStart_iff (s : State) (q : TestReq) : mayStart s q = true ↔
    (s.smn.cabinet = .mains ∨ (s.smn.cabinet = .battery ∧ q.kind ≠ .lineCheck) ∨
      (s.smn.cabinet = .low ∧ q.kind = .tone)) ∧
    (q.kind = .lineCheck → (s.claim (s.port q.port).binder).phase = .free) ∧
    (q.intrusive = true ∨ ((s.port q.port).lineState ≠ .inService ∧ (s.port q.port).lineState ≠ .training ∧
      (s.port q.port).lineState ≠ .hold)) := by
  have hkind : kindMayStart s.smn.cabinet q.kind = true ↔ (s.smn.cabinet = .mains ∨
      (s.smn.cabinet = .battery ∧ q.kind ≠ .lineCheck) ∨ (s.smn.cabinet = .low ∧ q.kind = .tone)) := by
    generalize s.smn.cabinet = c
    generalize q.kind = k
    cases c <;> cases k <;> decide
  have hbinder : (q.kind != .lineCheck || !s.claimed (s.port q.port).binder) = true ↔
      (q.kind = .lineCheck → (s.claim (s.port q.port).binder).phase = .free) := by
    rw [claimed_eq_phase]
    by_cases hk : q.kind = .lineCheck <;> simp [hk]
  rw [mayStart, Bool.and_eq_true, Bool.and_eq_true, hkind, hbinder, Bool.or_eq_true, Bool.not_eq_true', engaged_iff, and_assoc]

theorem startChoice_of_none (h : ¬(s.tsq.running = none ∧ s.stc.startState = .running) ∨
    ∀ q, q ∈ s.tsq.queue → mayStart s q = false) : startChoice s = s := by
  unfold startChoice
  split
  · next hidle =>
    have hnone : s.tsq.queue.find? (mayStart s) = none := by
      refine List.find?_eq_none.mpr fun q hq => ?_
      simp [h.resolve_left (not_not_intro hidle) q hq]
    rw [hnone]
  · rfl

/-- The first request that may start is taken (R116). -/
theorem startChoice_first {before after : List TestReq} (hrun : s.tsq.running = none) (hstart : s.stc.startState = .running)
    (hqueue : s.tsq.queue = before ++ q :: after) (hbefore : ∀ x, x ∈ before → mayStart s x = false)
    (hq : mayStart s q = true) : startChoice s = startTest q s ∧ s.tsq.queue.erase q = before ++ after := by
  have hfind : s.tsq.queue.find? (mayStart s) = some q := by
    rw [hqueue, List.find?_append, List.find?_eq_none.mpr fun x hx => by simp [hbefore x hx]]
    simp [hq]
  have hnew : q ∉ before := fun h => absurd ((hbefore q h).symm.trans hq) (by decide)
  refine ⟨by simp only [startChoice, hrun, hstart, and_self, if_true, hfind], ?_⟩
  rw [hqueue, List.erase_append_right _ hnew, List.erase_cons_head]

/-! ## What the start of a test does (R106, R117, R118, R119) -/

theorem startTest_other (hkind : q.kind ≠ .lineCheck) : startTest q s = enterIsolating (testTaken q s) := if_neg hkind

/-- A LINE_CHECK whose claim another one of the card's stands against goes back to its place (R106, R118). -/
theorem startTest_unclaimed (hkind : q.kind = .lineCheck)
    (hown : ¬(s.clt.own = none ∧ s.claimed (s.port q.port).binder = false)) :
    startTest q s = { testTaken q s with tsq := { (testTaken q s).tsq with
      queue := insertByArrival q (s.tsq.queue.erase q), running := none } } := by
  have hrequest : requestClaim (s.port q.port).binder (testTaken q s) = none := if_neg hown
  simp only [startTest, hkind, if_true]
  show (match requestClaim _ (testTaken q s) with | some s2 => s2 | none => claimLost (testTaken q s)) = _
  rw [hrequest]
  rfl

theorem enterIsolating_power {run : Running} (h : s.tsq.running = some run) :
    ((enterIsolating s).port run.req.port).power = .off ∧ (enterIsolating s).tsq.results = s.tsq.results ∧
      (enterIsolating s).tsq.seq = s.tsq.seq := by
  rw [enterIsolating_eq h]
  refine ⟨?_, ?_, ?_⟩
  · rw [setRunning_port, openService, modPort_port_self, changeState_port_self]
    exact Port.enter_power ..
  · simp [setRunning, openService]
  · simp [setRunning, openService]

end

/-! ## An offer that places nothing (R48, R157) -/

/-- The waiting list holds nothing that could be placed: none waits, or a notice without room stands first. -/
def Rests (s : State) : Prop :=
  s.mga.waiting = [] ∨ ∃ c later, s.mga.waiting = .notice c :: later ∧ s.fst.placeable 1 0 0 = false

section
variable {s : State}

theorem Rests.offered (h : Rests s) : offered s = s := by
  obtain hnone | ⟨c, later, hwaiting, hroom⟩ := h
  · rw [Machine.offered, hnone]
    rfl
  · exact offered_waits hwaiting hroom

/-- What leaves the waiting list and the response queue's room alone keeps such a list. -/
theorem Rests.congr {t : State} (h : Rests s) (hwaiting : t.mga.waiting = s.mga.waiting)
    (hroom : t.fst.placeable 1 0 0 = s.fst.placeable 1 0 0) : Rests t := by
  rw [Rests, hwaiting, hroom]
  exact h

/-- A notice raised where nothing waits is placed, or waits because it has no room (R161). -/
theorem rests_raiseNotice (h : s.mga.waiting = []) (c : Cause) : Rests (raiseNotice c s) := by
  unfold raiseNotice
  split
  · exact .inl h
  · dsimp only
    split
    · exact .inl h
    · split
      · exact .inl h
      · next hroom =>
        simp only [h, List.isEmpty_nil, Bool.true_and, Bool.not_eq_true] at hroom
        exact .inr ⟨c, [], by simp [joinWaiting, h], hroom⟩

theorem rests_countPort (h : s.mga.waiting = []) (p : PortId) (c : PortCounter) (k : Nat) : Rests (countPort p c k s) := by
  unfold countPort
  dsimp only
  split
  · refine rests_raiseNotice ?_ _
    exact h
  · exact .inl h

theorem rests_flushPort (h : s.mga.waiting = []) (p : PortId) : Rests (flushPort p s) := by
  refine rests_countPort ?_ _ _ _
  exact h

/-- A port that goes to TESTING raises a notice at its flush at most (R46, R163). -/
theorem rests_toTesting (h : s.mga.waiting = []) (p : PortId) : Rests (changeState p .testing false false s) := by
  unfold changeState
  simp only [LineState.flushes, if_true, reduceCtorEq, if_false]
  refine rests_flushPort ?_ p
  split <;> simp [h]

theorem rests_enterIsolating (h : s.mga.waiting = []) : Rests (enterIsolating s) := by
  cases hrun : s.tsq.running with
  | none =>
    rw [enterIsolating, hrun]
    exact .inl h
  | some run =>
    rw [enterIsolating_eq hrun]
    exact (rests_toTesting h run.req.port).congr (by simp [setRunning, openService]) (by simp [setRunning, openService])

theorem setClaim_waiting_of_claims {b : BinderId} {e : ClaimEntry} (he : e.phase ≠ .free) :
    (setClaim b e s).mga.waiting = s.mga.waiting := by
  have hentered (t : State) : (claimEntered b t).desk = t.desk := by
    refine forPorts_keeps State.desk _ (fun p u => ?_) _ t
    split
    · exact changeState_desk (by decide) fun h => absurd h (by decide)
    · rfl
  have hclaimed : ({ s with clt := { s.clt with entries := tset s.clt.entries b e } } : State).claimed b = true := by
    simp [State.claimed, he]
  have hdesk : (setClaim b e s).desk = s.desk := by
    simp only [setClaim, hclaimed, if_true]
    split
    · rfl
    · exact hentered _
  simp only [State.desk, Prod.mk.injEq] at hdesk
  exact hdesk.2.2

/-- The start of a test leaves nothing to place (R116, R157). -/
theorem rests_startChoice (h : s.mga.waiting = []) : Rests (startChoice s) := by
  unfold startChoice
  split
  · split
    · next q _ =>
      have htaken : (testTaken q s).mga.waiting = [] := h
      by_cases hkind : q.kind = .lineCheck
      · by_cases hown : s.clt.own = none ∧ s.claimed (s.port q.port).binder = false
        · rw [startTest_lineCheck hkind hown.1 hown.2]
          refine .inl ((setClaim_waiting_of_claims ?_).trans htaken)
          simp [ownClaim]
        · rw [startTest_unclaimed hkind hown]
          exact .inl h
      · rw [startTest_other hkind]
        exact rests_enterIsolating htaken
    · exact .inl h
  · exact .inl h

end

end Sys2Proof.Machine
end

section
/-! SUPPORT. Proofs about TEST_REQUEST, TEST_CANCEL and the start choice (R106, R111, R113 to R119, R123). -/

namespace Sys2Proof.Machine

/-! ## TEST_REQUEST (R114) -/

section
variable {s : State} {tag : BitVec 16} {p : PortId} {kind : TestKind} {intrusive : Bool} {tone : Option ToneArgs}
  {spec : Option ToneSpec}

/-- A TEST_REQUEST that is refused changes nothing (R114). -/
theorem testRequest_refused {st : Status} (hs : AgentFree s) (hl : s.stc.startState ≠ .loading)
    (hparse : parseArgs 5 ([u8 p.val, u8 kind.code, flagByte intrusive] ++ toneArgBytes tone) =
      some (.testRequest p kind intrusive spec))
    (hask : ∀ t : State, t.ports = s.ports → t.tsq = s.tsq → askTest p kind intrusive spec t = Answer.plain st t) :
    exec (.testRequest tag (u8 p.val) (u8 kind.code) intrusive tone) s =
      .next (txArbitrate (answered tag 5 st [] s)) := by
  obtain ⟨-, -, -, -, -, -, -, hidle⟩ := id hs
  exact request_writes (v := s) hs hl rfl (testRequest_args_length _ _ _ _) hparse
    (fun payload => hask (admitRequest payload s) rfl rfl) rfl rfl hidle

/-- A TEST_REQUEST that passes its checks joins the queue, and the start choice follows its answer (R114, R116). -/
theorem testRequest_queued (hs : AgentFree s) (hl : s.stc.startState ≠ .loading)
    (hparse : parseArgs 5 ([u8 p.val, u8 kind.code, flagByte intrusive] ++ toneArgBytes tone) =
      some (.testRequest p kind intrusive spec))
    (hask : ∀ t : State, t.ports = s.ports → t.tsq = s.tsq →
      askTest p kind intrusive spec t = Answer.plain .queued (enqueueTest p kind intrusive spec .management t)) :
    exec (.testRequest tag (u8 p.val) (u8 kind.code) intrusive tone) s =
      .next (txArbitrate (startChoice (answered tag 5 .queued [] (enqueueTest p kind intrusive spec .management s)))) := by
  obtain ⟨-, -, hw, -⟩ := id hs
  have hargs := testRequest_args_length (u8 p.val) (u8 kind.code) intrusive tone
  rw [exec_testRequest]
  generalize [u8 p.val, u8 kind.code, flagByte intrusive] ++ toneArgBytes tone = args at *
  have hcheck : checkRequest (mreqPayload tag 5 args) (admitRequest (mreqPayload tag 5 args) s) =
      Answer.plain .queued (admitRequest (mreqPayload tag 5 args) (enqueueTest p kind intrusive spec .management s)) :=
    (checkRequest_answers (s := admitRequest _ s) (kind := 5) rfl (.inl hl) hparse).trans (hask _ rfl rfl)
  have htake := takeRequest_admitRequest hs (cells_request_le hargs tag 5) (cells_answer_le (by simp) tag 5 .queued) hcheck rfl
  rw [request_settles hs hargs, settle_admitRequest hs, htake, (rests_startChoice ?_).offered]
  exact hw

/-- The checks of a TEST_REQUEST in their order (R114). -/
theorem askTest_checks (p : PortId) (kind : TestKind) (intrusive : Bool) (spec : Option ToneSpec) (s : State) :
    let ls := (s.port p).lineState
    let mine := (s.tsq.queue.any (fun q => q.port == p)) = true ∨ (∃ run, s.tsq.running = some run ∧ run.req.port = p)
    let refused := ls = .disabled ∨ (ls = .faulted ∧ kind = .tone) ∨
      ((ls = .inService ∨ ls = .training ∨ ls = .hold) ∧ intrusive = false)
    (mine → askTest p kind intrusive spec s = Answer.plain .refusedDuplicate s) ∧
      (¬mine → refused → askTest p kind intrusive spec s = Answer.plain .refusedState s) ∧
      (¬mine → ¬refused →
        askTest p kind intrusive spec s = Answer.plain .queued (enqueueTest p kind intrusive spec .management s)) := by
  intro ls mine refused
  have hmine : (s.tsq.queued p || s.tsq.runs p) = true ↔ mine := by
    rw [Bool.or_eq_true, runs_iff]
    rfl
  have hengaged : (ls.engaged && !intrusive) = true ↔
      (ls = .inService ∨ ls = .training ∨ ls = .hold) ∧ intrusive = false := by
    have hls : ls.engaged = true ↔ ls = .inService ∨ ls = .training ∨ ls = .hold := by cases ls <;> decide
    rw [Bool.and_eq_true, hls, Bool.not_eq_true']
  unfold askTest
  dsimp only
  refine ⟨fun h => if_pos (hmine.mpr h), fun h hr => ?_, fun h hr => ?_⟩
  · rw [if_neg (mt hmine.mp h)]
    obtain hd | hf | he := hr
    · exact if_pos hd
    · by_cases hd : ls = .disabled
      · exact if_pos hd
      · exact (if_neg hd).trans (if_pos hf)
    · by_cases hd : ls = .disabled
      · exact if_pos hd
      · by_cases hf : ls = .faulted ∧ kind = .tone
        · exact (if_neg hd).trans (if_pos hf)
        · exact (if_neg hd).trans ((if_neg hf).trans (if_pos (hengaged.mpr he)))
  · rw [if_neg (mt hmine.mp h)]
    simp only [refused, not_or] at hr
    obtain ⟨hd, hf, he⟩ := hr
    exact (if_neg hd).trans ((if_neg hf).trans (if_neg (mt hengaged.mp he)))

end

/-! ## The start of a test (R106, R116 to R119) -/

section
variable {s : State} {q : TestReq} {queue : List TestReq}

/-- A LINE_CHECK that starts claims its binder (R106, R117). -/
theorem startTest_claims (herase : s.tsq.queue.erase q = queue) (hkind : q.kind = .lineCheck) (hown : s.clt.own = none)
    (hphase : (s.claim (s.port q.port).binder).phase = .free) :
    let t := startTest q s
    let b := (s.port q.port).binder
    t.tsq = { s.tsq with
        queue := queue, seq := (s.tsq.seq + 1) % 65536, running := some (newRunning q ((s.tsq.seq + 1) % 65536)) } ∧
      t.clt.own = some (b, .sending) ∧ t.claim b = ownClaim s.stc.station false ∧
      (∀ c, c ≠ b → t.claim c = s.claim c) ∧ t.bau.ctrl = ctrlPlaceClaim (.claim b false 20) s.bau.ctrl ∧
      ∀ p, t.port p = claimedRecord b (s.port p) := by
  have hfree : s.claimed (s.port q.port).binder = false := by simp [claimed_eq_phase, hphase]
  intro t b
  have ht : t = _ := startTest_lineCheck hkind hown hfree
  rw [ht, ← herase]
  refine ⟨?_, ?_, setClaim_claim_self _ _ _, fun c hc => ?_, ?_, fun p => ?_⟩
  · rw [setClaim_tsq]
    rfl
  · rw [setClaim_own]
    rfl
  · rw [setClaim_claim_ne _ _ hc.symm]
    rfl
  · rw [setClaim_bau]
    rfl
  · refine (setClaim_port_of_free ?_ ?_ p).trans rfl
    · exact hphase
    · simp [ownClaim]

/-- A test of another kind isolates its port at once (R117, R119). -/
theorem startTest_isolates (herase : s.tsq.queue.erase q = queue) (hkind : q.kind ≠ .lineCheck) :
    let t := startTest q s
    t.tsq = { s.tsq with
        queue := queue, seq := (s.tsq.seq + 1) % 65536
        running := some { newRunning q ((s.tsq.seq + 1) % 65536) with
          st := .isolating, fromFaulted := (s.port q.port).lineState == .faulted, deadTimer := true } } ∧
      t.clt = s.clt ∧ (t.port q.port).lineState = .testing ∧ (t.port q.port).serviceClosed = false ∧
      (t.port q.port).power = .off ∧ (t.port q.port).profile = none ∧ ∀ p, p ≠ q.port → t.port p = s.port p := by
  have hrun : (testTaken q s).tsq.running = some (newRunning q ((s.tsq.seq + 1) % 65536)) := rfl
  obtain ⟨hline, hservice, hprofile, -, -, -, hothers, hclt, -⟩ := enterIsolating_spec hrun
  obtain ⟨hpower, -⟩ := enterIsolating_power hrun
  have htsq : (enterIsolating (testTaken q s)).tsq = { (testTaken q s).tsq with
      running := some { newRunning q ((s.tsq.seq + 1) % 65536) with
        st := .isolating, fromFaulted := (s.port q.port).lineState == .faulted, deadTimer := true } } := by
    rw [enterIsolating_eq hrun, setRunning, openService, modPort_tsq, changeState_tsq]
    rfl
  intro t
  have ht : t = _ := startTest_other hkind
  rw [ht, ← herase]
  exact ⟨htsq, hclt, hline, hservice, hpower, hprofile, hothers⟩

/-- A LINE_CHECK that finds another claim of the card's goes back to the queue (R106, R113, R118). -/
theorem startTest_returns {before after : List TestReq} (hqueue : s.tsq.queue = before ++ q :: after)
    (herase : s.tsq.queue.erase q = before ++ after) (hkind : q.kind = .lineCheck) (hown : s.clt.own ≠ none) :
    let t := startTest q s
    t.tsq.seq = (s.tsq.seq + 1) % 65536 ∧ t.tsq.results = s.tsq.results ∧ t.tsq.queue.Perm s.tsq.queue ∧
      t.tsq.running = none ∧ t.clt = s.clt := by
  intro t
  have ht : t = _ := startTest_unclaimed hkind fun h => hown h.1
  rw [ht]
  refine ⟨rfl, rfl, ?_, rfl, rfl⟩
  rw [hqueue] at herase ⊢
  exact (insertByArrival_perm q _).trans (by rw [herase]; exact List.perm_middle.symm)

end

/-! ## TEST_CANCEL (R111, R115, R123) -/

section
variable {s : State} {tag : BitVec 16} {p : PortId}

theorem cancelTest_queued (h : s.tsq.queue.any (fun q => q.port == p) = true) :
    cancelTest p s = Answer.plain .ok (dequeuePort p s) := if_pos h

theorem cancelTest_refused (h : ¬s.tsq.queue.any (fun q => q.port == p) = true)
    (hrun : ∀ run, s.tsq.running = some run → run.req.port ≠ p) : cancelTest p s = Answer.plain .refusedState s := by
  have hruns : ¬s.tsq.runs p = true := fun h => by
    obtain ⟨run, hr, hp⟩ := (runs_iff _ _).mp h
    exact hrun run hr hp
  exact (if_neg h).trans (if_neg hruns)

theorem cancelTest_runs {run : Running} (h : ¬s.tsq.queue.any (fun q => q.port == p) = true)
    (hrun : s.tsq.running = some run) (hport : run.req.port = p) :
    cancelTest p s = Answer.plain .ok (abortTest .request s) :=
  (if_neg h).trans (if_pos ((runs_iff _ _).mpr ⟨run, hrun, hport⟩))

/-- A TEST_CANCEL whose effect leaves the Frame Store and what waits as they were (R48, R115). -/
theorem testCancel_writes {v : State} {st : Status} (hs : AgentFree s) (hl : s.stc.startState ≠ .loading)
    (hr : ∀ payload, cancelTest p (admitRequest payload s) = Answer.plain st (admitRequest payload v))
    (hfst : v.fst = s.fst) (hmga : v.mga = s.mga) (hidle : v.tsq.queue = [] ∨ v.tsq.running ≠ none) :
    exec (.testCancel tag (u8 p.val)) s = .next (txArbitrate (answered tag 6 st [] v)) := by
  rw [exec_testCancel]
  exact request_writes hs hl rfl (by simp) (parseArgs_testCancel p) hr hfst (by rw [hmga]) hidle

/-- A TEST_CANCEL in MEASURING stops the stage and takes the test to RESTORING (R115, R123). -/
theorem testCancel_measuring (hs : AgentFree s) (hl : s.stc.startState ≠ .loading) {run : Running}
    (hqueue : ¬s.tsq.queue.any (fun q => q.port == p) = true) (hrun : s.tsq.running = some run)
    (hport : run.req.port = p) (hst : run.st = .measuring) :
    ∃ t, exec (.testCancel tag (u8 p.val)) s = .next t ∧ t.msu.run = .none ∧ t.msu.drive = .off ∧
      (t.port p).testClosed = false ∧ t.fst.responses = (answered tag 6 .ok [] s).fst.responses ∧
      t.tsq.running = some (restoringRun { withToneMinutes s.msu.run run with abort := some .request }) := by
  have hr : answerRequest (.testCancel p) (admitRequest (mreqPayload tag 6 [u8 p.val]) s) = Answer.plain .ok
      (setRunning (some (restoringRun { withToneMinutes s.msu.run run with abort := some .request }))
        (openTest p (stopStage (admitRequest (mreqPayload tag 6 [u8 p.val]) s)))) :=
    (cancelTest_runs (s := admitRequest _ s) hqueue hrun hport).trans
      (congrArg _ (hport ▸ abortTest_measuring (s := admitRequest _ s) hrun hst))
  obtain ⟨w, hexec, hquiet, honly, hplaced⟩ := request_does (kind := 6) hs hl rfl (by simp) (parseArgs_testCancel p) hr
    (by simp [State.desk, setRunning, openTest]) (by simp [setRunning, openTest, admitRequest])
    (.inr (by simp [setRunning]))
  refine ⟨settle w, hexec, ?_, ?_, ?_, hplaced, ?_⟩
  · rw [hquiet.settle_msu, honly.msu]
    exact stopStage_run _
  · rw [hquiet.settle_msu, honly.msu]
    exact stopStage_drive _
  · rw [hquiet.settle_port, honly.port, setRunning_port, openTest, modPort_port_self]
  · rw [hquiet.settle_tsq, honly.tsq]
    rfl

/-! ## A claim given up by a cancel (R111) -/

/-- What the end of the own claim of a test in CLAIMING leaves (R110, R111). -/
theorem giveUpClaim_claiming {b : BinderId} {step : ClaimStep} (hown : s.clt.own = some (b, step))
    (hstep : step = .sending ∨ step = .settling) (hphase : (s.claim b).phase ≠ .free) :
    let t := giveUpClaim s
    let unsent := step = .sending ∧ s.bau.ctrl.any (CtrlItem.isClaimFor b) = true
    t.clt.own = none ∧ t.claim b = ClaimEntry.vacant ∧
      (unsent → t.bau.ctrl = ctrlRemoveClaim b s.bau.ctrl) ∧
      (¬unsent → t.bau.ctrl = ctrlPlaceRelease b false s.bau.ctrl) ∧ ∀ q, t.port q = freedRecord b (s.port q) := by
  intro t unsent
  have hwithdrawn : unsent → t = setClaim b ClaimEntry.vacant (withdrawClaim b s) := by
    rintro ⟨rfl, hlisted⟩
    simp only [t, giveUpClaim, hown, hlisted, if_true]
  have hreleased : ¬unsent → t = setClaim b ClaimEntry.vacant (placeRelease b false (setOwnClaim none s)) := by
    intro h
    obtain rfl | rfl := hstep
    · have hlisted : ¬s.bau.ctrl.any (CtrlItem.isClaimFor b) = true := fun hl => h ⟨rfl, hl⟩
      simp only [t, giveUpClaim, hown, hlisted, Bool.false_eq_true, if_false]
    · simp only [t, giveUpClaim, hown]
  by_cases h : unsent
  · rw [hwithdrawn h]
    refine ⟨?_, setClaim_claim_self _ _ _, fun _ => ?_, fun hn => absurd h hn, fun q => ?_⟩
    · rw [setClaim_own]
      rfl
    · rw [setClaim_bau]
      rfl
    · rw [setClaim_port_vacant]
      · rfl
      · exact hphase
  · rw [hreleased h]
    refine ⟨?_, setClaim_claim_self _ _ _, fun hn => absurd hn h, fun _ => ?_, fun q => ?_⟩
    · rw [setClaim_own]
      rfl
    · rw [setClaim_bau]
      rfl
    · rw [setClaim_port_vacant]
      · rfl
      · exact hphase

/-- The end of a test without parts whose port does not stand TESTING moves no port beside the end of its claim (R128). -/
theorem endTest_port_claimGiven {run : Running} (hrun : s.tsq.running = some run) (hparts : run.parts = Parts.empty)
    (htesting : ((claimGiven run s).port run.req.port).lineState ≠ .testing) (q : PortId) :
    (endTest s).port q = (claimGiven run s).port q := by
  by_cases hq : q = run.req.port
  · subst hq
    have hport : (endNoticed run s).port run.req.port = (claimGiven run s).port run.req.port := by
      rw [endNoticed_port, if_pos rfl, hparts]
      rfl
    have hstays : portAfterTest run (endOutcome run) (endNoticed run s) = endNoticed run s :=
      if_neg (by rw [hport]; exact htesting)
    rw [endTest_eq hrun, hstays]
    exact hport
  · exact endTest_port_ne hrun hq

theorem freedRecord_not_testing {b : BinderId} {r : Port} (h : r.lineState ≠ .testing) :
    (freedRecord b r).lineState ≠ .testing := by
  unfold freedRecord
  split
  · simp [trainingRecord]
  · exact h

/-- A TEST_CANCEL in CLAIMING gives the claim up and ends the test (R111, R115, R118, R128). -/
theorem testCancel_claiming (hs : AgentFree s) (hl : s.stc.startState ≠ .loading) {run : Running} {b : BinderId}
    {step : ClaimStep} (hrun : s.tsq.running = some run) (hport : run.req.port = p) (hst : run.st = .claiming)
    (hkind : run.req.kind = .lineCheck) (hout : run.outcome = none) (hparts : run.parts = Parts.empty)
    (hqueue : s.tsq.queue = []) (htesting : (s.port p).lineState ≠ .testing) (hown : s.clt.own = some (b, step))
    (hstep : step = .sending ∨ step = .settling) (hphase : (s.claim b).phase ≠ .free) :
    let unsent := step = .sending ∧ s.bau.ctrl.any (CtrlItem.isClaimFor b) = true
    ∃ u, exec (.testCancel tag (u8 p.val)) s = .next (txArbitrate u) ∧ u.tsq.running = none ∧ u.clt.own = none ∧
      u.claim b = ClaimEntry.vacant ∧
      tget u.tsq.results p = some
        { seq := run.seq, kind := .lineCheck, origin := run.req.origin, outcome := .aborted, cause := some .request,
          parts := Parts.empty } ∧
      (unsent → u.bau.ctrl = ctrlRemoveClaim b s.bau.ctrl) ∧
      (¬unsent → u.bau.ctrl = ctrlPlaceRelease b false s.bau.ctrl) ∧ ∀ q, u.port q = freedRecord b (s.port q) := by
  subst hport
  have hnone : ¬s.tsq.queue.any (fun q => q.port == run.req.port) = true := by simp [hqueue]
  have hr : answerRequest (.testCancel run.req.port) (admitRequest (mreqPayload tag 6 [u8 run.req.port.val]) s) =
      Answer.plain .ok (endTest (setRunning (some { run with abort := some .request })
        (admitRequest (mreqPayload tag 6 [u8 run.req.port.val]) s))) :=
    (cancelTest_runs (s := admitRequest _ s) hnone hrun rfl).trans
      (congrArg _ (abortTest_claiming (s := admitRequest _ s) hrun hst))
  generalize ha : setRunning (some { run with abort := some .request })
    (admitRequest (mreqPayload tag 6 [u8 run.req.port.val]) s) = a at hr
  have harun : a.tsq.running = some { run with abort := some .request } := by rw [← ha]; rfl
  have haport (q : PortId) : a.port q = s.port q := by rw [← ha]; rfl
  have haclt : a.clt = s.clt := by rw [← ha]; rfl
  have habau : a.bau = s.bau := by rw [← ha]; rfl
  have hgiven : claimGiven { run with abort := some .request } a = giveUpClaim a := if_pos hkind
  obtain ⟨gown, gclaim, gunsent, greleased, gport⟩ := giveUpClaim_claiming (s := a) (by rw [haclt]; exact hown) hstep
    (by rw [State.claim, haclt]; exact hphase)
  rw [← hgiven] at gown gclaim gunsent greleased gport
  obtain ⟨kclt, kbau⟩ := endTest_claims harun
  have kport := endTest_port_claimGiven harun hparts (by
    rw [gport, haport]
    exact freedRecord_not_testing htesting)
  have ktsq := endTest_tsq harun
  obtain ⟨u, hexec, hports, htsq, hclt, hbau⟩ := request_effect (kind := 6) hs hl rfl (by simp)
    (parseArgs_testCancel run.req.port) hr (.inl (by rw [ktsq, ← ha]; exact hqueue))
  refine ⟨u, hexec, ?_, ?_, ?_, ?_, fun h => ?_, fun h => ?_, fun q => ?_⟩
  · rw [htsq, ktsq]
  · rw [hclt, kclt, gown]
  · rw [State.claim, hclt, kclt]
    exact gclaim
  · rw [htsq, ktsq]
    refine (tget_tset_self _ _ _).trans ?_
    simp [recordOf, hout, decideOutcome, hkind, hparts]
  · rw [hbau, kbau, gunsent (habau ▸ h), habau]
  · rw [hbau, kbau, greleased (habau ▸ h), habau]
  · rw [State.port, hports, ← State.port, kport, gport, haport]

end

/-- The record of a port whose binder's entry becomes FREE (R33). -/
theorem freedRecord_spec (b : BinderId) (r : Port) :
    (r.binder = b → r.lineState = .hold → (freedRecord b r).lineState = .training ∧ (freedRecord b r).phase = .report) ∧
      (r.binder ≠ b ∨ r.lineState ≠ .hold → freedRecord b r = r) := by
  refine ⟨fun hb hl => ?_, freedRecord_other⟩
  rw [freedRecord_hold hb hl]
  exact ⟨rfl, rfl⟩

/-- Settles O45: the checks of a request, the start choice by kind, and the cancel by the state of the test. -/
theorem testRequestsAreCheckedAndCancelled : Obligations.TestRequestsAreCheckedAndCancelled := by
  unfold Obligations.TestRequestsAreCheckedAndCancelled
  refine ⟨fun s tag p kind intrusive tone spec hs hl hplain htone => ?_, fun s => ?_, fun s tag p hs hl => ?_⟩
  · have hparse := parseArgs_testRequest p intrusive hplain htone
    intro ls mine refused asked
    have hchecks (t : State) (hports : t.ports = s.ports) (htsq : t.tsq = s.tsq) :
        (mine → askTest p kind intrusive spec t = Answer.plain .refusedDuplicate t) ∧
        (¬mine → refused → askTest p kind intrusive spec t = Answer.plain .refusedState t) ∧
        (¬mine → ¬refused →
          askTest p kind intrusive spec t = Answer.plain .queued (enqueueTest p kind intrusive spec .management t)) := by
      have h := askTest_checks p kind intrusive spec t
      simp only [State.port, hports, htsq] at h
      exact h
    refine ⟨fun hm => ?_, fun hm hr => ?_, fun hm hr => ?_⟩
    · exact testRequest_refused hs hl hparse fun t hports htsq => (hchecks t hports htsq).1 hm
    · exact testRequest_refused hs hl hparse fun t hports htsq => (hchecks t hports htsq).2.1 hm hr
    · exact testRequest_queued hs hl hparse fun t hports htsq => (hchecks t hports htsq).2.2 hm hr
  · intro idle may
    have hmay : ∀ q, mayStart s q = true ↔ may q := mayStart_iff s
    have hmaynot : ∀ q, ¬may q → mayStart s q = false := fun q h => by
      rw [← hmay, Bool.not_eq_true] at h
      exact h
    refine ⟨fun h => startChoice_of_none (h.imp id fun h q hq => hmaynot q (h q hq)), ?_⟩
    rintro before after q ⟨hrun, hstart⟩ hqueue hbefore hq
    obtain ⟨hchoice, herase⟩ := startChoice_first hrun hstart hqueue (fun x hx => hmaynot x (hbefore x hx)) ((hmay q).mpr hq)
    intro t b fresh
    have ht : t = startTest q s := hchoice
    rw [ht]
    obtain ⟨-, hfree, -⟩ := hq
    by_cases hkind : q.kind = .lineCheck
    · by_cases hown : s.clt.own = none
      · obtain ⟨htsq, kown, kclaim, kothers, kctrl, kport⟩ := startTest_claims herase hkind hown (hfree hkind)
        refine ⟨by rw [htsq], by rw [htsq], fun _ _ => ⟨by rw [htsq], ?_, kown, kclaim, kothers, kctrl, fun p hp => ?_⟩,
          fun _ h => absurd hown h, fun h => absurd hkind h⟩
        · rw [htsq]
          rfl
        · rw [kport, claimedRecord, if_neg (by tauto)]
      · obtain ⟨kseq, kresults, kqueue, krunning, kclt⟩ := startTest_returns hqueue herase hkind hown
        exact ⟨kseq, kresults, fun _ h => absurd h hown, fun _ _ => ⟨kqueue, krunning, kclt⟩, fun h => absurd hkind h⟩
    · obtain ⟨htsq, kclt, kline, kservice, kpower, kprofile, kothers⟩ := startTest_isolates herase hkind
      refine ⟨by rw [htsq], by rw [htsq], fun h => absurd h hkind, fun h => absurd h hkind, fun _ => ⟨by rw [htsq], kclt, ?_,
        kline, kservice, kpower, kprofile, kothers⟩⟩
      rw [htsq]
      rfl
  · obtain ⟨-, -, -, -, -, -, -, hidle⟩ := id hs
    intro queued asked
    refine ⟨fun hq => ?_, fun hq hrun => ?_, fun run hq hrun hport => ⟨fun hst => ?_, fun hst => ?_, fun hst => ?_, ?_⟩⟩
    · exact testCancel_writes (v := dequeuePort p s) hs hl (fun payload => cancelTest_queued (s := admitRequest payload s) hq)
        rfl rfl (hidle.imp_left fun h => by simp [dequeuePort, h])
    · exact testCancel_writes hs hl (fun payload => cancelTest_refused (s := admitRequest payload s) hq hrun) rfl rfl hidle
    · refine testCancel_writes hs hl (fun payload => ?_) rfl rfl hidle
      rw [cancelTest_runs (s := admitRequest payload s) hq hrun hport, abortTest_restoring (s := admitRequest payload s) hrun hst]
    · have hrestoring : restoringRun { run with abort := some .request } = { run with
          abort := some .request, st := .restoring, stage := none, deadTimer := true, outcome := some .aborted } := by
        simp [restoringRun]
      have hcancel := testCancel_writes (tag := tag) (p := p) (st := .ok)
        (v := setRunning (some (restoringRun { run with abort := some .request })) (openTest p s)) hs hl (fun payload => by
          rw [cancelTest_runs (s := admitRequest payload s) hq hrun hport,
            abortTest_isolating (s := admitRequest payload s) hrun hst, hport]
          rfl) rfl rfl (.inr (by simp [setRunning]))
      rw [hrestoring] at hcancel
      exact hcancel
    · obtain ⟨t, hexec, kstage, kdrive, ktest, kplaced, krun⟩ := testCancel_measuring hs hl hq hrun hport hst
      refine ⟨t, hexec, kstage, kdrive, ktest, kplaced, _, krun, rfl, rfl, rfl, ?_⟩
      exact (withToneMinutes_req_st _ _).1
    · intro b step hst hkind hout hparts hqueue htesting hown hstep hphase unsent
      obtain ⟨u, hexec, krunning, kown, kclaim, kresult, kunsent, kreleased, kport⟩ :=
        testCancel_claiming hs hl hrun hport hst hkind hout hparts hqueue htesting hown hstep hphase
      refine ⟨u, hexec, krunning, kown, kclaim, kresult, kunsent, kreleased, fun q => ?_⟩
      rw [kport]
      obtain ⟨htrains, hstays⟩ := freedRecord_spec b (s.port q)
      exact ⟨htrains, hstays⟩

end Sys2Proof.Machine
end
